-- ==== Sys2Proof/Word.lean ====
section
/-! DEFINITION. Bytes, fixed-size tables and the two small fixed families (three lane channels, two head channels). -/

namespace Sys2Proof

/-- One byte of a link frame. -/
abbrev Byte := BitVec 8

/-- A table of exactly `n` like entries: the lane table, the head table, the context pool. -/
structure Tab (n : Nat) (α : Type) where
  items : List α
  size : items.length = n
deriving DecidableEq, Repr

namespace Tab

variable {n : Nat} {α β : Type}

/-- The entry at index `i`. -/
def get (t : Tab n α) (i : Fin n) : α := t.items[i.val]'(by rw [t.size]; exact i.isLt)

/-- The table with the entry at `i` replaced. -/
def set (t : Tab n α) (i : Fin n) (a : α) : Tab n α := ⟨t.items.set i.val a, by simp [t.size]⟩

/-- The table with every entry mapped. -/
def map (f : α → β) (t : Tab n α) : Tab n β := ⟨t.items.map f, by simp [t.size]⟩

/-- The table built from a function of the index. -/
def build (n : Nat) (f : Fin n → α) : Tab n α := ⟨(List.finRange n).map f, by simp⟩

/-- The table whose entries are all `a`. -/
def fill (n : Nat) (a : α) : Tab n α := ⟨List.replicate n a, by simp⟩

/-- The entry at `i` changed by `f`. -/
def modify (t : Tab n α) (i : Fin n) (f : α → α) : Tab n α := t.set i (f (t.get i))

end Tab

/-- The three channels of a lane, in letter order. -/
inductive Channel where
  | a | b | c
deriving DecidableEq, Repr

/-- One thing for each of the channels A, B and C. -/
structure Triple (α : Type) where
  a : α
  b : α
  c : α
deriving DecidableEq, Repr

/-- The channels in letter order. -/
def Channel.letters : List Channel := [.a, .b, .c]

namespace Triple

variable {α β : Type}

/-- The part of channel `ch`. -/
def get (t : Triple α) : Channel → α
  | .a => t.a
  | .b => t.b
  | .c => t.c

/-- The triple with the part of one channel replaced. -/
def set (t : Triple α) (ch : Channel) (x : α) : Triple α :=
  match ch with
  | .a => { t with a := x }
  | .b => { t with b := x }
  | .c => { t with c := x }

/-- The same thing for each channel. -/
def fill (x : α) : Triple α := ⟨x, x, x⟩

/-- Each part mapped. -/
def map (f : α → β) (t : Triple α) : Triple β := ⟨f t.a, f t.b, f t.c⟩

/-- A triple built from a function of the channel. -/
def build (f : Channel → α) : Triple α := ⟨f .a, f .b, f .c⟩

/-- Some part has the property. -/
def any (p : α → Bool) (t : Triple α) : Bool := p t.a || p t.b || p t.c

/-- Every part has the property. -/
def all (p : α → Bool) (t : Triple α) : Bool := p t.a && p t.b && p t.c

/-- The parts in letter order. -/
def toList (t : Triple α) : List α := [t.a, t.b, t.c]

end Triple

/-- The one or two channels of a dispenser head. -/
inductive HeadChannel where
  | one | two
deriving DecidableEq, Repr

/-- One thing for each head channel. -/
structure Pair (α : Type) where
  one : α
  two : α
deriving DecidableEq, Repr

namespace Pair

variable {α : Type}

/-- The part of head channel `h`. -/
def get (t : Pair α) : HeadChannel → α
  | .one => t.one
  | .two => t.two

/-- The pair with the part of one head channel replaced. -/
def set (t : Pair α) (h : HeadChannel) (x : α) : Pair α :=
  match h with
  | .one => { t with one := x }
  | .two => { t with two := x }

end Pair

/-- A counter that stays at its maximum once it reaches it (section 0.5, "Saturating counters"). -/
def saturating (max n : Nat) : Nat := if n ≤ max then n else max

/-- The 16-bit saturating counters of the links: 0..65,535. -/
def countUp (n : Nat) : Nat := saturating 65535 (n + 1)

/-- The entries of `xs` in rotation: those after position `at'`, then round from the first (R66, R96). -/
def rotateFrom {n : Nat} (pos : Fin n) : List (Fin n) :=
  (List.finRange n).filter (fun i => pos < i) ++ (List.finRange n).filter (fun i => i ≤ pos)

/-- Every part of a triple asked of `p`, with its channel letter. -/
def Triple.find {α : Type} (p : α → Bool) (t : Triple α) : Option Channel :=
  if p t.a then some .a else if p t.b then some .b else if p t.c then some .c else none

end Sys2Proof
end

