-- ==== Sys2Proof/Syntax.lean ====
section
/-! DEFINITION. The commands of the DV12 (one constructor of `Instr` for each row of spec/opcode_table.json) and the kinds of things they carry. -/

namespace Sys2Proof

/-- Terminals 1..8, held from index 0 (section 0.5, Identifiers). -/
abbrev TerminalId := Fin 8
/-- Lanes 1..12, held from index 0. -/
abbrev LaneId := Fin 12
/-- Dispenser heads 1..24, held from index 0. -/
abbrev HeadId := Fin 24
/-- Contexts 1..16, held from index 0. -/
abbrev ContextId := Fin 16
/-- Products 1..8, held from index 0. -/
abbrev Product := Fin 8
/-- Programs 1..32, held from index 0. -/
abbrev ProgramId := Fin 32

/-- A product set: bit 0 stands for product 1 and bit 7 for product 8 (R199). -/
abbrev ProductSet := BitVec 8

/-- A string of decimal digits, the first digit first. -/
abbrev Digits := List (Fin 10)

/-- The number of a table entry whose indices begin at 0 and whose names begin at 1. -/
def numberOf {n : Nat} (i : Fin n) : Nat := i.val + 1

/-- The entry a number names: `m` in 1..n, else none. -/
def idOf (n m : Nat) : Option (Fin n) := if h : 1 ≤ m ∧ m ≤ n then some ⟨m - 1, by omega⟩ else none

/-- Prompt kinds (R35), in the order of their codes 1..6 (section 11.5). -/
inductive PromptKind where
  | lane | driver | vehicle | odometer | reeferHours | trip
deriving DecidableEq, Repr

/-- Nozzle positions in a poll reply (R80). -/
inductive Nozzle where
  | hung | lifted
deriving DecidableEq, Repr

/-- Valve states in a poll reply or an acceptance (R80, R82). -/
inductive Valve where
  | closed | fast | slow
deriving DecidableEq, Repr

/-- Close causes in a poll reply (R80). -/
inductive CloseCause where
  | none | stopPoint | nozzle | command | halt
deriving DecidableEq, Repr

/-- One channel's report in a poll reply (R87, section 11.6). -/
structure ChannelReport where
  channel : HeadChannel
  nozzle : Nozzle
  valve : Valve
  cause : CloseCause
  zeroed : Bool
  low16 : BitVec 16
deriving DecidableEq, Repr

/-- The fields of AUTH RESULT as the host sent them (R52, section 11.6). -/
structure AuthResultBody where
  transaction : BitVec 32
  result : Byte
  amount : BitVec 32
  products : ProductSet
  limits : Byte
  dieselLimit : BitVec 32
  defLimit : BitVec 32
  codeLength : Byte
  codeChars : List Byte
deriving DecidableEq, Repr

/-- The target of a card range entry (section 2.3): a program number as sent, or EXCLUDED. -/
inductive RangeTarget where
  | program (number : Byte)
  | excluded
deriving DecidableEq, Repr

/-- A card range entry (section 2.3): its prefix digits are ASCII bytes, the first digit first. -/
structure RangeEntry where
  length : Nat
  digits : List Byte
  target : RangeTarget
deriving DecidableEq, Repr

/-- A card program entry's fields as the host sent them (section 2.5). -/
structure ProgramFields where
  kind : Byte
  prompts : List Byte
  permitted : ProductSet
  requested : BitVec 32
  limits : Byte
  dieselLimit : BitVec 32
  defLimit : BitVec 32
  standIn : Bool
  standInAmount : BitVec 32
  standInUses : Byte
deriving DecidableEq, Repr, Inhabited

/-- A product entry's fields as the host sent them (section 2.6). -/
structure ProductFields where
  cls : Byte
  price : BitVec 32
deriving DecidableEq, Repr

/-- LOAD TABLE's start field: mode 1 an index, mode 2 CONTINUE (R195). -/
structure StartField where
  mode : Byte
  index : Byte
deriving DecidableEq, Repr

/-- The entries of a LOAD TABLE, in the form of the table its table code names (R37); `unknown` for a code outside 1..4. -/
inductive LoadEntries where
  | range (entries : List RangeEntry)
  | program (entries : List ProgramFields)
  | deny (entries : List (List Byte))
  | product (entries : List ProductFields)
  | unknown (code : Byte)
deriving DecidableEq, Repr

/-- One channel of a SET LANE as the host sent it (section 11.3). -/
structure LaneChannelFields where
  present : Bool
  head : Byte
  headChannel : Byte
  product : Byte
  k : BitVec 16
deriving DecidableEq, Repr

/-- SET LANE's body as the host sent it (section 11.3). -/
structure SetLaneBody where
  lane : Byte
  isOpen : Bool
  terminal : Byte
  channels : Triple LaneChannelFields
deriving DecidableEq, Repr

/-- SET CLOCK's body as the host sent it (section 11.3). -/
structure SetClockBody where
  year : BitVec 16
  month : Byte
  day : Byte
  hour : Byte
  minute : Byte
  second : Byte
deriving DecidableEq, Repr

/-- A host request with the fields of its body; `unknown` for a code outside 1..24 (R195). -/
inductive Request where
  | status
  | laneState (lane : Byte)
  | linkState
  | nextAuth
  | authResult (body : AuthResultBody)
  | uplinkState (value : Byte)
  | nextRecord
  | nextEvent
  | setEventLevels (mask : Byte) (pairs : List (Byte × Byte))
  | readCapture
  | clearCapture
  | loadTable (start : StartField) (entries : LoadEntries)
  | readTable (table start count : Byte)
  | setPrices (pairs : List (Byte × BitVec 32))
  | setLane (body : SetLaneBody)
  | setSiteParameters (pairs : List (Byte × BitVec 16))
  | setClock (body : SetClockBody)
  | saveTables
  | stopLane (lane : Byte)
  | cancelTransaction (number : BitVec 32)
  | resetLane (lane : Byte)
  | allStop
  | allResume
  | restart
  | unknown (code : Byte)
deriving DecidableEq, Repr

/-- A valid host frame: its tag, the length of its body in bytes, and its request. -/
structure HostFrame where
  tag : Byte
  length : Nat
  request : Request
deriving DecidableEq, Repr

/-- A host frame as its bytes stand after the start byte: the length bytes are those of the body's length (section 11.6). -/
structure RawFrame where
  code : Byte
  tag : Byte
  body : List Byte
  check : BitVec 16
deriving DecidableEq, Repr

/-- The byte errors counted in one terminal reply (R67). -/
structure ByteErrors where
  parity : Nat
  framing : Nat
  overrun : Nat
deriving DecidableEq, Repr

/-- A CARD item as the terminal sent it (R73). -/
structure CardItem where
  number : List Byte
  year : List Byte
  month : List Byte
  readGood : Bool
deriving DecidableEq, Repr

/-- Why a save failed (R190). -/
inductive SaveFailure where
  | noAnswer | badReadBack
deriving DecidableEq, Repr

/-- The commands of the DV12. A host request carries its tag and the length of its body in bytes as sent, beside the body's fields. TABLE_LOAD_END says whether the serial flash answered (R189). -/
inductive Instr where
  | status (tag : Byte) (length : Nat)
  | laneState (tag : Byte) (length : Nat) (lane : Byte)
  | linkState (tag : Byte) (length : Nat)
  | nextAuth (tag : Byte) (length : Nat)
  | authResult (tag : Byte) (length : Nat) (body : AuthResultBody)
  | uplinkState (tag : Byte) (length : Nat) (value : Byte)
  | nextRecord (tag : Byte) (length : Nat)
  | nextEvent (tag : Byte) (length : Nat)
  | setEventLevels (tag : Byte) (length : Nat) (mask : Byte) (pairs : List (Byte × Byte))
  | readCapture (tag : Byte) (length : Nat)
  | clearCapture (tag : Byte) (length : Nat)
  | loadTable (tag : Byte) (length : Nat) (start : StartField) (entries : LoadEntries)
  | readTable (tag : Byte) (length : Nat) (table start count : Byte)
  | setPrices (tag : Byte) (length : Nat) (pairs : List (Byte × BitVec 32))
  | setLane (tag : Byte) (length : Nat) (body : SetLaneBody)
  | setSiteParameters (tag : Byte) (length : Nat) (pairs : List (Byte × BitVec 16))
  | setClock (tag : Byte) (length : Nat) (body : SetClockBody)
  | saveTables (tag : Byte) (length : Nat)
  | stopLane (tag : Byte) (length : Nat) (lane : Byte)
  | cancelTransaction (tag : Byte) (length : Nat) (number : BitVec 32)
  | resetLane (tag : Byte) (length : Nat) (lane : Byte)
  | allStop (tag : Byte) (length : Nat)
  | allResume (tag : Byte) (length : Nat)
  | restart (tag : Byte) (length : Nat)
  | unknownRequest (tag : Byte) (length : Nat) (code : Byte)
  | hostFrameComplete (frame : RawFrame)
  | hostByteError
  | hostGapExpiry
  | hostBadLength (length : BitVec 16)
  | hostReplySent
  | hostSilenceTimerExpiry
  | terminalPollSent
  | terminalNothing (terminal : TerminalId)
  | terminalCard (terminal : TerminalId) (seq : Bool) (card : CardItem)
  | terminalCardError (terminal : TerminalId) (seq : Bool)
  | terminalEntry (terminal : TerminalId) (seq : Bool) (chars : List Byte)
  | terminalCancel (terminal : TerminalId) (seq : Bool)
  | terminalReplyWindowExpiry (errors : ByteErrors)
  | terminalOfflinePollTimerExpiry (terminal : TerminalId)
  | displayTimerExpiry (terminal : TerminalId)
  | interjectionTimerExpiry (terminal : TerminalId)
  | promptTimerExpiry (context : ContextId)
  | hostDecisionTimerExpiry (context : ContextId)
  | armTimerExpiry (context : ContextId)
  | continueTimerExpiry (context : ContextId)
  | dispenserFrameSent
  | pollReply (head : HeadId) (restarted : Bool) (reports : List ChannelReport)
  | dispenserAccepted (head : HeadId) (count : BitVec 32) (valve : Valve) (totalizer : BitVec 32)
  | refusedBusy (head : HeadId)
  | refusedBad (head : HeadId)
  | refusedUnsupported (head : HeadId)
  | dispenserBadCheckFrame
  | dispenserUnexpectedFrame
  | dispenserReplyWindowExpiry
  | headOfflinePollTimerExpiry (head : HeadId)
  | haltAllSent
  | noFlowTimerExpiry (lane : LaneId) (channel : Channel)
  | settleTimerExpiry (lane : LaneId) (channel : Channel)
  | faultSettleTimerExpiry (lane : LaneId) (channel : Channel)
  | estopPress
  | estopRelease
  | clockMinuteChange
  | pfailAssert
  | pfailRelease
  | rstAssert
  | rstRelease
  | powerUp
  | retentionLost
  | tableLoadEnd (answered : Bool)
  | saveComplete
  | saveFailed (why : SaveFailure)
  | recoveryTimerExpiry (context : ContextId)
  | hostFrameStart
  | mainPowerLoss
deriving DecidableEq, Repr

end Sys2Proof
end

