-- ==== Sys2Proof/Decode.lean ====
section
/-! DEFINITION. The command a word spells by the opcode table's bits: no row of spec/opcode_table.json gives bits, so no word spells one. -/

namespace Sys2Proof

/-- The command that the low `nbits` bits of `w` spell by the opcode table: the table's 74 rows have no match, mask or pattern of bits, so there is none. -/
def decodeTableWord (_nbits _w : Nat) : Option Instr := none

end Sys2Proof
end

