-- ==== Sys2Proof/Config.lean ====
section
/-! DEFINITION. Fixed sizes and times of the DV12, the site parameters' ranges and defaults, and the values the handbook leaves open. -/

namespace Sys2Proof.Config

/-- Capacity of the record queue (R167). -/
def recordCapacity : Nat := 48
/-- Capacity of the event queue (R172). -/
def eventCapacity : Nat := 32
/-- Capacity of the stand-in list (R60). -/
def standInCapacity : Nat := 64
/-- Places of the receive holding (R194). -/
def holdingPlaces : Nat := 2
/-- The offline poll timers of terminals and heads, 2.0 s in tenths (R66, R86). -/
def offlinePollTime : Nat := 20
/-- The highest point in pulses (R132). -/
def maxPoint : Nat := 4294967295
/-- The highest transaction number (R5). -/
def maxTransaction : Nat := 4294967295
/-- The highest approved amount in cents (R52). -/
def maxAmount : Nat := 999999
/-- The highest price in mills per litre (R38). -/
def maxPrice : Nat := 99999
/-- The highest sale total in cents (R146). -/
def maxTotal : Nat := 9999999
/-- The failed exchanges that take a terminal OFFLINE (R68). -/
def terminalFailureLimit : Nat := 3

/-- Ranges and defaults of the fourteen site parameters, by parameter number (section 11.4, R197): lowest, highest, default. -/
def parameterTable : List (Nat × Nat × Nat) :=
  [(10, 120, 45), (5, 90, 25), (30, 600, 120), (0, 300, 60), (30, 600, 90), (1, 10, 2), (2, 20, 6),
   (2, 20, 8), (0, 5, 2), (1, 10, 3), (60, 1800, 300), (5, 120, 20), (50, 2000, 300), (1, 72, 24)]

/-- The default of each site parameter (R197). -/
def defaultParameters : Tab 14 Nat := ⟨parameterTable.map (fun r => r.2.2), by decide⟩

/-- The lowest value of a parameter's range. -/
def parameterLow (i : Fin 14) : Nat := (parameterTable.getD i.val (0, 0, 0)).1

/-- The highest value of a parameter's range. -/
def parameterHigh (i : Fin 14) : Nat := (parameterTable.getD i.val (0, 0, 0)).2.1

/-- The default levels by event kind code 1..18, then AUTH WAITING and RECORD WAITING (section 9.3, R174). -/
def defaultLevels : Tab 20 Nat :=
  ⟨[7, 7, 7, 6, 6, 6, 5, 5, 5, 4, 4, 3, 3, 3, 2, 2, 2, 1, 4, 3], by decide⟩

/-- FREE VALUE. The extended count after a delta that carries it past 4,294,967,295: R107 gives the range and R98 no result there (notes/assumptions/7.md). -/
opaque countBeyondRange : Nat → Nat → BitVec 32

/-- FREE VALUE. The bytes of a layout field whose value does not fit the field (notes/assumptions/8.md). -/
opaque fieldBeyondRange : Nat → Nat → List Byte

/-- FREE VALUE. What a yes-or-no byte of a host body means when it is neither 0 nor 1 (notes/assumptions/9.md). -/
opaque flagByte : Byte → Bool

/-- FREE VALUE. The byte that stands for EXCLUDED in a range entry's target; section 0.5 leaves table entry layouts out (notes/assumptions/10.md). -/
opaque excludedCode : Byte

/-- FREE VALUE. The fields that the 29 bytes of a PROGRAM entry carry; section 0.5 leaves table entry layouts out (notes/assumptions/10.md). -/
opaque programLayout : List Byte → ProgramFields

/-- FREE VALUE. Byte `i` of the 29 bytes that a PROGRAM entry takes in the site table image; section 0.5 leaves table entry layouts out (notes/assumptions/10.md). -/
opaque programByte : ProgramFields → Fin 29 → Byte

/-- FREE VALUE. The length that the header of an erased image reads as: the handbook does not say what erased flash reads as (notes/assumptions/17.md). -/
opaque erasedLength : BitVec 16

/-- FREE VALUE. The code byte of the answer to a request whose code plus 0x80 does not fit a byte (notes/assumptions/11.md). -/
opaque replyCodeBeyond : Byte → Byte

end Sys2Proof.Config
end

