-- ==== Sys2Proof/Machine/State.lean ====
section
/-! DEFINITION. The state of the DV12, block by block (section 0.2), the reasons a step can stop, and the state after reset. -/

namespace Sys2Proof.Machine

open Sys2Proof

/-! ### Times and timers -/

/-- A reading of the calendar clock (R188). -/
structure DateTime where
  year : Nat
  month : Nat
  day : Nat
  hour : Nat
  minute : Nat
  second : Nat
deriving DecidableEq, Repr

/-- A reading with the mark that says whether the clock was valid (R101, R166). -/
structure Stamp where
  time : DateTime
  valid : Bool
deriving DecidableEq, Repr

/-- A running timer in tenths of a second: what is left of it and the length it was started at (section 0.5). -/
structure Timer where
  left : Nat
  full : Nat
deriving DecidableEq, Repr

/-- An offline poll timer (R64, R80): stopped, running, or expired, when the address is due for a poll. -/
inductive PollTimer where
  | stopped
  | running (t : Timer)
  | expired
deriving DecidableEq, Repr

/-! ### Transaction contexts (chapter 1) -/

/-- Context states (section 1.3). -/
inductive ContextState where
  | free | prompting | offered | taken | armed | delivering | ending | stopping | recovering
deriving DecidableEq, Repr

/-- Reason codes (R8), in the order of their codes 1..19 (section 11.5). -/
inductive Reason where
  | cardInvalid | cardExpired | cardNotAccepted | denyList | noProduct | hostDeclined | hostTimeout | offline
  | standInLimit | driver | prompt | lane | terminalLost | hostCancel | hostStop | hostLateDecline | allStop
  | laneFault | restart
deriving DecidableEq, Repr

/-- Record kinds (R24, R166), codes 1..4. -/
inductive RecordKind where
  | sale | noSale | decline | cancel
deriving DecidableEq, Repr

/-- Decision sources (section 3.1), codes 1..3. -/
inductive DecisionSource where
  | site | host | standIn
deriving DecidableEq, Repr

/-- Lane fault kinds (R124), codes 1..5. -/
inductive FaultKind where
  | headLost | commandFailed | meterJump | meterMismatch | flowWithoutRelease
deriving DecidableEq, Repr

/-- A channel's end cause (R107). -/
inductive EndCause where
  | stopPoint | nozzle | halt | headClosed | noFlow | stopped
  | fault (kind : FaultKind)
deriving DecidableEq, Repr

/-- Channel states (R107). -/
inductive ChannelState where
  | idle | zeroing | allocating | opening | flowing | closing | settling | done | refused | failed
deriving DecidableEq, Repr

/-- Where a present channel hangs: head, head channel, product and K (R103). An absent channel has none. -/
structure ChannelSetup where
  head : HeadId
  headChannel : HeadChannel
  product : Product
  k : Nat
deriving DecidableEq, Repr

/-- Stop point and slow point in pulses since zero (R82). -/
structure Points where
  stop : Nat
  slow : Nat
deriving DecidableEq, Repr

/-- A channel record of a bound context (R107). `closeQueued` is the end cause of a CLOSE queued while the channel is in OPENING (R118); `awaiting` marks a channel awaiting recovery (R184); `zeroEntry` numbers the channel's entries to ZEROING, and `zeroAccepted` says that the ZERO of the latest entry was accepted (R110). The pending-limit flag is computed from the command lists (`pendingLimit`), where it stands once. -/
structure ChannelRecord where
  setup : Option ChannelSetup
  state : ChannelState
  extended : Nat
  low16 : BitVec 16
  points : Option Points
  used : Bool
  endCause : Option EndCause
  flowMark : Nat
  zeroPolls : Nat
  zeroEntry : Nat
  zeroAccepted : Bool
  closeQueued : Option EndCause
  awaiting : Bool
  noFlow : Option Timer
  settle : Option Timer
deriving DecidableEq, Repr

/-- Phases of an allocation (R112). -/
inductive AllocationPhase where
  | none | lowering | raising
deriving DecidableEq, Repr

/-- A channel of the lowering set: its target points and, once known, its fixed count (R114). -/
structure Lowering where
  target : Points
  fixed : Option Nat
deriving DecidableEq, Repr

/-- The allocation record of a bound context (R112). -/
structure Allocation where
  phase : AllocationPhase
  joining : Triple Bool
  lowering : Triple (Option Lowering)
  resplit : Bool
deriving DecidableEq, Repr

/-- Program kinds (R33), codes 0..3. -/
inductive ProgramKind where
  | unused | fleet | bank | site
deriving DecidableEq, Repr

/-- A card program as its table holds it and as a context copies it (section 2.5, R9). -/
structure Program where
  kind : ProgramKind
  prompts : List PromptKind
  permitted : ProductSet
  requested : Nat
  dieselLimit : Option Nat
  defLimit : Option Nat
  standIn : Bool
  standInAmount : Nat
  standInUses : Nat
deriving DecidableEq, Repr

/-- A card read (R4): the number as read and the expiry year and month. -/
structure CardData where
  number : Digits
  year : Nat
  month : Nat
deriving DecidableEq, Repr

/-- What an approval writes into the decision beside its source (R16). -/
structure Approval where
  amount : Nat
  permitted : ProductSet
  dieselLimit : Option Nat
  defLimit : Option Nat
  code : Option (List Byte)
deriving DecidableEq, Repr

/-- The flags of a context and of a record (R7), in the order of their bits. -/
structure ContextFlags where
  overLimit : Bool
  fault : Bool
  lockout : Bool
  allStop : Bool
  lateDecline : Bool
  recovered : Bool
  meterEstimated : Bool
  meterMismatch : Bool
deriving DecidableEq, Repr

/-- A transaction context (section 1.3). The channel records and the allocation record are present from binding to unbinding. -/
structure Context where
  state : ContextState
  transaction : Nat
  terminal : Option TerminalId
  held : Bool
  lane : Option LaneId
  card : CardData
  program : Option ProgramId
  copy : Option Program
  entries : List (PromptKind × Digits)
  requestedAmount : Option Nat
  requestedSet : Option ProductSet
  source : Option DecisionSource
  approval : Option Approval
  prices : Option (Tab 8 Nat)
  channels : Option (Triple ChannelRecord)
  allocation : Allocation
  flags : ContextFlags
  reason : Option Reason
  started : Stamp
  deadline : Option Timer
deriving DecidableEq, Repr

/-! ### Records, events, stand-in entries -/

/-- One sale line (R145). -/
structure SaleLine where
  product : Product
  volume : Nat
  price : Nat
  amount : Nat
deriving DecidableEq, Repr

/-- A transaction record (R166). -/
structure Record where
  transaction : Nat
  kind : RecordKind
  terminal : Option TerminalId
  lane : Option LaneId
  program : Option ProgramId
  card : CardData
  entries : List (PromptKind × Digits)
  source : Option DecisionSource
  approved : Nat
  code : Option (List Byte)
  lines : List SaleLine
  total : Nat
  excess : Nat
  flags : ContextFlags
  reason : Option Reason
  started : Stamp
  ended : Stamp
deriving DecidableEq, Repr

/-- The queued event kinds (section 9.3), in the order of their codes 1..18. -/
inductive EventKind where
  | laneLockout | allStop | coldStart | laneFault | tablesInvalid | warmStart | headOffline | lateDecline
  | saveFailed | terminalOffline | overLimit | standInUsed | standInListFull | linkCapture | headOnline
  | terminalOnline | saveDone | priceAdopted
deriving DecidableEq, Repr

/-- What an event is about (section 9.3). -/
inductive Subject where
  | nothing
  | lane (l : LaneId)
  | head (h : HeadId)
  | terminal (t : TerminalId)
deriving DecidableEq, Repr

/-- An event (section 9.3). -/
structure Event where
  kind : EventKind
  level : Nat
  subject : Subject
  detail : Nat
  count : Nat
  time : Stamp
deriving DecidableEq, Repr

/-- An entry of the stand-in list (R60). -/
structure StandInEntry where
  card : Digits
  uses : Nat
  firstUse : DateTime
deriving DecidableEq, Repr

/-- The Retained Domain (R179). `clockTenths` counts the tenths of the running second; `check` is the retained check, the CRC-16 last written (R180). -/
structure Retained where
  contexts : Tab 16 Context
  freeList : List ContextId
  counter : Nat
  records : List Record
  standIn : List StandInEntry
  latch : Bool
  sourceHost : Bool
  sourceEstop : Bool
  locks : Tab 12 Bool
  clock : DateTime
  clockTenths : Nat
  clockValid : Bool
  intact : Bool
  check : BitVec 16
deriving DecidableEq, Repr

/-! ### Terminals (chapter 4) -/

/-- Terminal modes (R64). -/
inductive TerminalMode where
  | offline | idle | prompt | wait | shown
deriving DecidableEq, Repr

/-- The messages of R79, with their parameters. -/
inductive Message where
  | welcome | readAgain | cardNotAccepted
  | enter (kind : PromptKind)
  | invalidEntry | selectLane
  | laneInUse (lane : LaneId)
  | authorizing
  | declined (reason : Reason)
  | liftNozzle (lane : LaneId)
  | stationBusy | stationClosed | cancelled
  | limitReached (lane : LaneId)
  | productNotAllowed (lane : LaneId)
  | pleaseWait
deriving DecidableEq, Repr

/-- A terminal entry (R64). -/
structure Terminal where
  online : Bool
  failures : Nat
  offlinePoll : PollTimer
  lastTaken : Option Bool
  mode : TerminalMode
  current : Option PromptKind
  attempts : Nat
  display : Message
  displayTimer : Option Timer
  interjection : Option (Message × Timer)
  parity : Nat
  framing : Nat
  overrun : Nat
deriving DecidableEq, Repr

/-- What a poll carries (R65): the address, the acknowledged sequence and the message. -/
structure TerminalPoll where
  terminal : TerminalId
  acknowledged : Option Bool
  message : Message
deriving DecidableEq, Repr

/-- The terminal link: quiet, a poll being sent, or its reply window open (R65, R66). -/
inductive TerminalLine where
  | quiet
  | sending (poll : TerminalPoll)
  | window (poll : TerminalPoll)
deriving DecidableEq, Repr

/-- The Terminal Link Unit (R64, R66). -/
structure TerminalUnit where
  terminals : Tab 8 Terminal
  line : TerminalLine
  lastOffline : TerminalId
  lastOnline : TerminalId
deriving DecidableEq, Repr

/-! ### Site tables (chapter 2, chapter 7) -/

/-- Product classes (section 2.6), codes 1 and 2. -/
inductive ProductClass where
  | diesel | exhaustFluid
deriving DecidableEq, Repr

/-- A product entry (R147). -/
structure ProductEntry where
  cls : ProductClass
  price : Nat
  pending : Option Nat
deriving DecidableEq, Repr

/-- The four loadable tables, codes 1..4 (R195). -/
inductive TableName where
  | range | program | deny | product
deriving DecidableEq, Repr

/-- The Card Screening Unit: the range table, the program table, the deny list (an empty slot holds no digits) and the load pointer (R36). -/
structure CardUnit where
  ranges : Tab 128 RangeEntry
  programs : Tab 32 Program
  deny : Tab 256 Digits
  pointer : Option (TableName × Nat)
deriving DecidableEq, Repr

/-- The Limit Arithmetic Unit: the product table and the adoption list, a set of lanes (R147). -/
structure PriceUnit where
  products : Tab 8 ProductEntry
  adoption : Tab 12 Bool
deriving DecidableEq, Repr

/-- The Authorization Engine's volatile state (section 3): the uplink state, the host-silence timer, the request list, oldest first. -/
structure AuthUnit where
  online : Bool
  silence : Option Timer
  requests : List ContextId
deriving DecidableEq, Repr

/-! ### Lanes (chapter 6) -/

/-- A lane's configuration (R103). -/
structure LaneConfig where
  isOpen : Bool
  terminal : Option TerminalId
  channels : Triple (Option ChannelSetup)
deriving DecidableEq, Repr

/-- Lane states (R103). -/
inductive LaneState where
  | closed | idle | inUse | faultStop | locked
deriving DecidableEq, Repr

/-- The nozzle as the last report handed on showed it (R103). -/
inductive NozzleSeen where
  | hung | lifted | unknown
deriving DecidableEq, Repr

/-- How far a channel's fault close has come (R127, R128): none, owed to a head that is OFFLINE, queued, settling, or complete. -/
inductive FaultClose where
  | none | owed | queued | settling | complete
deriving DecidableEq, Repr

/-- What a lane entry keeps for each channel (R103, R128); `handed` is the valve and close cause of the last report handed on (R177). -/
structure LaneChannel where
  nozzle : NozzleSeen
  quiet : Nat
  handed : Option (Valve × CloseCause)
  faultClose : FaultClose
  faultSettle : Option Timer
deriving DecidableEq, Repr

/-- A lane entry (R103). -/
structure Lane where
  config : LaneConfig
  state : LaneState
  prices : Tab 8 Nat
  fault : Option FaultKind
  channels : Triple LaneChannel
deriving DecidableEq, Repr

/-- The Delivery Control Unit's lane table; the channel records stand in the contexts (R107). -/
structure DeliveryUnit where
  lanes : Tab 12 Lane
deriving DecidableEq, Repr

/-! ### The dispenser link (chapter 5) -/

/-- What a queued command carries (R82). A CLOSE carries its end cause and whether a lane fault queued it (R127); a LIMIT says whether it lowers (R113); a ZERO carries the price and the channel's entry to ZEROING it was queued at (R110). -/
inductive Payload where
  | zero (price entry : Nat)
  | limit (points : Points) (lowers : Bool)
  | openValve
  | release (points : Points)
  | close (cause : EndCause) (byFault : Bool)
  | final
deriving DecidableEq, Repr

/-- A command for a head channel, with the lane, channel letter, context and transaction it was queued for (R89). -/
structure Command where
  head : HeadId
  headChannel : HeadChannel
  lane : LaneId
  channel : Channel
  owner : Option (ContextId × Nat)
  payload : Payload
deriving DecidableEq, Repr

/-- The kinds of exchange, in the order of their frame kinds 1..7 (section 11.6). -/
inductive ExchangeKind where
  | poll | zero | limit | openValve | release | close | final
deriving DecidableEq, Repr

/-- Failure kinds (R83, R89), codes 1..4. -/
inductive FailureKind where
  | noAnswer | badCheck | refused | unexpected
deriving DecidableEq, Repr

/-- A head channel's last report (R80). -/
structure LastReport where
  nozzle : Nozzle
  valve : Valve
  cause : CloseCause
  zeroed : Bool
  low16 : BitVec 16
deriving DecidableEq, Repr

/-- A head entry (R80). -/
structure Head where
  online : Bool
  failures : Nat
  failedTotal : Nat
  offlinePoll : PollTimer
  singleFrame : Bool
  last : Pair (Option LastReport)
  totalizer : Pair (Option Nat)
  commands : List Command
deriving DecidableEq, Repr

/-- An exchange with a head: a POLL, or a command, and the further attempts it may still make (R84). -/
structure Exchange where
  head : HeadId
  command : Option Command
  retries : Nat
deriving DecidableEq, Repr

/-- The dispenser link: quiet, an attempt's frame being sent, its reply window open, or HALT ALL being sent, with the exchange that goes on after it and the outcome of its last attempt (R83, R84, R97). -/
inductive DispenserLine where
  | quiet
  | sending (x : Exchange)
  | window (x : Exchange)
  | haltAll (resume : Option (Exchange × FailureKind))
deriving DecidableEq, Repr

/-- A fault capture (R101). -/
structure Capture where
  head : HeadId
  headChannel : Option HeadChannel
  command : ExchangeKind
  failure : FailureKind
  time : Stamp
deriving DecidableEq, Repr

/-- The Dispenser Link Unit (R80, R96, R97, R101). R96 speaks of four positions and its table names three, which are held (notes/assumptions/39.md). `cutByStop` says that the all-stop latch was set while the OPEN or RELEASE exchange on the line was under way (R84, R156), `cutByLock` that a lane of its head became LOCKED while its command was (R94, R129); such an exchange makes no further attempt. -/
structure DispenserUnit where
  heads : Tab 24 Head
  line : DispenserLine
  haltPending : Bool
  cutByStop : Bool
  cutByLock : Bool
  commandPos : HeadId
  activePos : HeadId
  inactivePos : HeadId
  runCount : Nat
  pollCount : Nat
  capture : Option Capture
  further : Nat
deriving DecidableEq, Repr

/-! ### Stop and cut, records and events, tables, host link, power -/

/-- Stop and Cut Control: HALT, the twelve cut lines, and the filtered ESTOP input, held as pressed or not (R152, R154, R162). -/
structure StopUnit where
  halt : Bool
  cut : Tab 12 Bool
  estopHeld : Bool
deriving DecidableEq, Repr

/-- The Record and Event Unit's volatile state (chapter 9): the event queue, oldest first, the dropped count, the level table by code, the mask level, the ATTN output. -/
structure EventUnit where
  events : List Event
  dropped : Nat
  levels : Tab 20 Nat
  mask : Nat
  attn : Bool
deriving DecidableEq, Repr

/-- Load states (section 10.6). -/
inductive LoadState where
  | loading | run | noTables
deriving DecidableEq, Repr

/-- What the body of a site table image holds (section 10.6). A product entry of the image has no pending price. -/
structure SiteImage where
  ranges : Tab 128 RangeEntry
  programs : Tab 32 Program
  deny : Tab 256 Digits
  products : Tab 8 ProductEntry
  lanes : Tab 12 LaneConfig
  params : Tab 14 Nat
deriving DecidableEq, Repr

/-- The site table image in the serial flash: its header, the length of the body and the CRC-16 of the body, and the body (section 10.6). -/
structure FlashImage where
  length : BitVec 16
  check : BitVec 16
  body : SiteImage
deriving DecidableEq, Repr

/-- The Table Image Loader: the load state, the copy a save in progress writes, the site parameters by number, and the image the serial flash holds; none where it has been erased and not written since (R189, R190). -/
structure LoaderUnit where
  load : LoadState
  save : Option SiteImage
  params : Tab 14 Nat
  flash : Option FlashImage
deriving DecidableEq, Repr

/-- The host link receiver (R192). -/
inductive Receiver where
  | hunting | inFrame
deriving DecidableEq, Repr

/-- The host link error counters (R193, R194). -/
structure LinkErrors where
  byteError : Nat
  gap : Nat
  length : Nat
  check : Nat
  overrun : Nat
deriving DecidableEq, Repr

/-- Reply classes (R196), codes 0..2. -/
inductive ReplyClass where
  | done | partly | refused
deriving DecidableEq, Repr

/-- Reply reasons (R200), codes 0..13. -/
inductive ReplyReason where
  | none | unknownRequest | badLength | badValue | clamped | busy | loading | noTables | unknownTransaction
  | tooLate | wrongState | laneNotSafe | estopHeld | tableEnd
deriving DecidableEq, Repr

/-- The authorization request (R50). -/
structure AuthRequest where
  transaction : Nat
  context : ContextId
  terminal : Option TerminalId
  lane : Option LaneId
  card : CardData
  program : Option ProgramId
  entries : List (PromptKind × Digits)
  amount : Nat
  products : ProductSet
  age : Nat
deriving DecidableEq, Repr

/-- What STATUS reports (R176). -/
structure StatusReport where
  load : LoadState
  saving : Bool
  online : Bool
  latch : Bool
  sourceHost : Bool
  sourceEstop : Bool
  estopHeld : Bool
  clockValid : Bool
  freeContexts : Nat
  offered : Nat
  records : Nat
  events : Nat
  dropped : Nat
  captured : Bool
  lanes : Tab 12 LaneState
  errors : LinkErrors
deriving DecidableEq, Repr

/-- What LANE STATE reports of a present channel (R177). -/
structure LaneChannelReport where
  nozzle : NozzleSeen
  handed : Option (Valve × CloseCause)
  quiet : Nat
deriving DecidableEq, Repr

/-- What LANE STATE reports of a bound context's channel (R177). -/
structure BoundChannelReport where
  state : ChannelState
  extended : Nat
  points : Option Points
  pendingLimit : Bool
  used : Bool
  endCause : Option EndCause
deriving DecidableEq, Repr

/-- What LANE STATE reports of a bound context (R177). -/
structure BoundReport where
  context : ContextId
  transaction : Nat
  state : ContextState
  phase : AllocationPhase
  channels : Triple BoundChannelReport
deriving DecidableEq, Repr

/-- What LANE STATE reports (R177). -/
structure LaneReport where
  config : LaneConfig
  state : LaneState
  fault : Option FaultKind
  prices : Tab 8 Nat
  adopting : Bool
  cut : Bool
  channels : Triple (Option LaneChannelReport)
  bound : Option BoundReport
deriving DecidableEq, Repr

/-- What LINK STATE reports of a terminal (R178). -/
structure TerminalReport where
  online : Bool
  mode : TerminalMode
  failures : Nat
  parity : Nat
  framing : Nat
  overrun : Nat
deriving DecidableEq, Repr

/-- What LINK STATE reports of a head (R178). -/
structure HeadReport where
  online : Bool
  failures : Nat
  failedTotal : Nat
  singleFrame : Bool
  commands : Nat
  last : Pair (Option LastReport)
  totalizer : Pair (Option Nat)
deriving DecidableEq, Repr

/-- Entries that READ TABLE returns (R40). -/
inductive TableEntries where
  | range (entries : List RangeEntry)
  | program (entries : List Program)
  | deny (entries : List Digits)
  | product (entries : List ProductEntry)
deriving DecidableEq, Repr

/-- What a reply carries after its class and reason (R196). Records, requests and events are laid out in Machine/Layouts.lean. -/
inductive Contents where
  | nothing
  | status (report : StatusReport)
  | lane (report : LaneReport)
  | links (terminals : Tab 8 TerminalReport) (heads : Tab 24 HeadReport)
  | authRequest (request : Option AuthRequest)
  | record (record : Option Record) (left : Nat)
  | event (event : Option Event) (left dropped : Nat)
  | capture (capture : Option Capture) (further : Nat)
  | loaded (written next : Nat)
  | entries (entries : TableEntries)
  | adopting (lanes : Nat)
  | parameters (pairs : List (Nat × Nat))
  | transaction (number : Nat)
deriving DecidableEq, Repr

/-- A reply (R196). -/
structure Reply where
  cls : ReplyClass
  reason : ReplyReason
  contents : Contents
deriving DecidableEq, Repr

/-- The answer on the line: the reply's code and tag, and the reply (R195). -/
structure Answer where
  code : Byte
  tag : Byte
  reply : Reply
deriving DecidableEq, Repr

/-- The Host Link Unit (section 11): the receiver, the receive holding, oldest first, the answer being sent, whether RESTART has been taken (R191), and the error counters. -/
structure HostUnit where
  receiver : Receiver
  holding : List HostFrame
  answering : Option Answer
  restarting : Bool
  errors : LinkErrors
deriving DecidableEq, Repr

/-- Where the part stands in its power sequence: main power absent, a start waiting for RST to go high (R182), frozen after PFAIL (R181), or working. -/
inductive Phase where
  | off | waiting | frozen | running
deriving DecidableEq, Repr

/-- Power and the input pins: each pin as `true` when it is low, its active level. -/
structure PowerUnit where
  phase : Phase
  rstLow : Bool
  pfailLow : Bool
  estopLow : Bool
deriving DecidableEq, Repr

/-- The state of the DV12, block by block. `pending` is the model's own: the queue of the commands that wait, first in, first out. -/
structure State where
  rd : Retained
  hlu : HostUnit
  tlu : TerminalUnit
  csu : CardUnit
  ae : AuthUnit
  dcu : DeliveryUnit
  lau : PriceUnit
  dlu : DispenserUnit
  scc : StopUnit
  reu : EventUnit
  til : LoaderUnit
  power : PowerUnit
  pending : List Instr
deriving DecidableEq, Repr

/-- Why the machine stops. -/
inductive Fault where
  /-- Raised by `finish` when the work inside one command passed `workBound` items, a bound of the model that no rule gives. Safe: the model stops where the part goes on. -/
  | workOverrun
deriving DecidableEq, Repr

/-- Why a command is refused. -/
inductive Refusal where
  /-- Raised by an arm of `exec` whose command has no meaning yet. Safe: the model stops where the part goes on. -/
  | notModelled (mnemonic : String)
deriving DecidableEq, Repr

/-! ### Starting values -/

/-- 1 January 2000, 00:00:00 (R183). -/
def DateTime.first : DateTime := ⟨2000, 1, 1, 0, 0, 0⟩

/-- An invalid reading of the first moment; what a cleared time field holds. -/
def Stamp.cleared : Stamp := ⟨.first, false⟩

/-- A timer started at `tenths` (section 0.5). -/
def Timer.start (tenths : Nat) : Timer := ⟨tenths, tenths⟩

/-- No flag set (R7). -/
def ContextFlags.clear : ContextFlags := ⟨false, false, false, false, false, false, false, false⟩

/-- The allocation record NONE, empty and clear (R112). -/
def Allocation.clear : Allocation := ⟨.none, .fill false, .fill none, false⟩

/-- A FREE context with every field cleared (R24, R183). Optional fields are absent, flags off, lists empty (section 1.3); what the fields that are none of these hold, the transaction number 0, no card digits, the expiry 0, 0 and the first moment, is a DESIGN CHOICE: notes/assumptions/37.md. -/
def Context.cleared : Context :=
  { state := .free, transaction := 0, terminal := none, held := false, lane := none, card := ⟨[], 0, 0⟩,
    program := none, copy := none, entries := [], requestedAmount := none, requestedSet := none, source := none,
    approval := none, prices := none, channels := none, allocation := .clear, flags := .clear, reason := none,
    started := .cleared, deadline := none }

/-- The retained contents after a cold start (R183), the indicator set (R182), with the retained check as it stands. -/
def Retained.cold (check : BitVec 16) : Retained :=
  { contexts := .fill 16 .cleared, freeList := List.finRange 16, counter := 1, records := [], standIn := [],
    latch := false, sourceHost := false, sourceEstop := false, locks := .fill 12 false, clock := .first,
    clockTenths := 0, clockValid := false, intact := true, check := check }

/-- A terminal entry after every start (R64). -/
def Terminal.starting : Terminal :=
  { online := false, failures := 0, offlinePoll := .expired, lastTaken := none, mode := .offline, current := none,
    attempts := 0, display := .welcome, displayTimer := none, interjection := none, parity := 0, framing := 0,
    overrun := 0 }

/-- A head entry after every start (R80). -/
def Head.starting : Head :=
  { online := false, failures := 0, failedTotal := 0, offlinePoll := .expired, singleFrame := false,
    last := ⟨none, none⟩, totalizer := ⟨none, none⟩, commands := [] }

/-- The Terminal Link Unit after every start, its link quiet (R64, R66). -/
def TerminalUnit.starting : TerminalUnit := ⟨.fill 8 .starting, .quiet, 7, 7⟩

/-- The Dispenser Link Unit after every start, its link quiet (R80, R96, R101). A HALT ALL still pending as the start begins is dropped: DESIGN CHOICE, notes/assumptions/49.md. -/
def DispenserUnit.starting : DispenserUnit :=
  { heads := .fill 24 .starting, line := .quiet, haltPending := false, cutByStop := false, cutByLock := false, commandPos := 23, activePos := 23,
    inactivePos := 23, runCount := 0, pollCount := 0, capture := none, further := 0 }

/-- An empty range entry (R41). R41 gives its length 0 alone; its digits, none, and its target, program number 0, are a DESIGN CHOICE: notes/assumptions/37.md. -/
def emptyRange : RangeEntry := ⟨0, [], .program 0⟩

/-- A program of kind NONE, its other fields zero, empty or absent (R38, R41). -/
def emptyProgram : Program := ⟨.unused, [], 0, 0, none, none, false, 0, 0⟩

/-- A product of class DIESEL and price 0 (R41). -/
def emptyProduct : ProductEntry := ⟨.diesel, 0, none⟩

/-- An empty lane configuration (R103). -/
def emptyLaneConfig : LaneConfig := ⟨false, none, .fill none⟩

/-- The card tables empty, the load pointer absent (R41). -/
def CardUnit.starting : CardUnit := ⟨.fill 128 emptyRange, .fill 32 emptyProgram, .fill 256 [], none⟩

/-- The product table empty, no lane in the adoption list (R41, R147). -/
def PriceUnit.starting : PriceUnit := ⟨.fill 8 emptyProduct, .fill 12 false⟩

/-- The Authorization Engine after every start (R45, R46, R48). -/
def AuthUnit.starting : AuthUnit := ⟨false, none, []⟩

/-- A lane's channel part after every start (R103). -/
def LaneChannel.starting : LaneChannel := ⟨.unknown, 0, none, .none, none⟩

/-- A lane after every start, before the load ends, in lane state `st` (R103). -/
def Lane.starting (st : LaneState) : Lane := ⟨emptyLaneConfig, st, .fill 8 0, none, .fill .starting⟩

/-- The event unit after every start, before the start queues its own events (R170, R172, R174). -/
def EventUnit.starting : EventUnit := ⟨[], 0, Config.defaultLevels, 0, false⟩

/-- The Host Link Unit after every start (R185, R192). -/
def HostUnit.starting : HostUnit := ⟨.hunting, [], none, false, ⟨0, 0, 0, 0, 0⟩⟩

/-- A poll to terminal `t` in OFFLINE mode (R65, R70). -/
def offlinePollOf (t : TerminalId) : TerminalPoll := ⟨t, none, .welcome⟩

/-- The state right after reset: a cold start with the indicator found clear (R182, R183, R185), at the end of its step 6, when the links begin working. COLD START is queued with detail 1, ATTN is asserted, the terminal link polls terminal 1 and the dispenser link polls head 1, the first offline polls (R66, R96). The serial flash holds no image and the retained check is 0: DESIGN CHOICE, notes/assumptions/3.md. -/
def State.reset : State :=
  { rd := .cold 0
    hlu := .starting
    tlu := { TerminalUnit.starting with
      terminals := (Tab.fill 8 Terminal.starting).set 0 { Terminal.starting with offlinePoll := .running (.start 20) }
      line := .sending (offlinePollOf 0)
      lastOffline := 0 }
    csu := .starting
    ae := .starting
    dcu := ⟨.fill 12 (.starting .closed)⟩
    lau := .starting
    dlu := { DispenserUnit.starting with
      heads := (Tab.fill 24 Head.starting).set 0 { Head.starting with offlinePoll := .running (.start 20) }
      line := .sending ⟨0, none, 0⟩
      inactivePos := 0 }
    scc := ⟨false, .fill 12 false, false⟩
    reu := { EventUnit.starting with
      events := [⟨.coldStart, 7, .nothing, 1, 1, .cleared⟩]
      attn := true }
    til := ⟨.loading, none, Config.defaultParameters, none⟩
    power := ⟨.running, false, false, false⟩
    pending := [] }

end Sys2Proof.Machine
end

