-- ==== Sys2Proof/Machine/Ops.lean ====
section
/-! DEFINITION. The named reads and writes of the state: contexts, lanes, terminals, heads, channel records, site parameters, bindings. -/

namespace Sys2Proof.Machine

open Sys2Proof

/-! ### Reads and writes of one entry -/

/-- Context `i`. -/
def State.ctx (s : State) (i : ContextId) : Context := s.rd.contexts.get i

/-- Context `i` replaced. -/
def State.setCtx (s : State) (i : ContextId) (c : Context) : State :=
  { s with rd := { s.rd with contexts := s.rd.contexts.set i c } }

/-- Context `i` changed by `f`. -/
def State.modCtx (s : State) (i : ContextId) (f : Context → Context) : State := s.setCtx i (f (s.ctx i))

/-- Lane `l`. -/
def State.lane (s : State) (l : LaneId) : Lane := s.dcu.lanes.get l

/-- Lane `l` replaced. -/
def State.setLane (s : State) (l : LaneId) (x : Lane) : State :=
  { s with dcu := { s.dcu with lanes := s.dcu.lanes.set l x } }

/-- Lane `l` changed by `f`. -/
def State.modLane (s : State) (l : LaneId) (f : Lane → Lane) : State := s.setLane l (f (s.lane l))

/-- The lane entry's part for channel `ch` changed by `f`. -/
def State.modLaneChannel (s : State) (l : LaneId) (ch : Channel) (f : LaneChannel → LaneChannel) : State :=
  s.modLane l fun x => { x with channels := x.channels.set ch (f (x.channels.get ch)) }

/-- Terminal `t`. -/
def State.term (s : State) (t : TerminalId) : Terminal := s.tlu.terminals.get t

/-- Terminal `t` replaced. -/
def State.setTerm (s : State) (t : TerminalId) (x : Terminal) : State :=
  { s with tlu := { s.tlu with terminals := s.tlu.terminals.set t x } }

/-- Terminal `t` changed by `f`. -/
def State.modTerm (s : State) (t : TerminalId) (f : Terminal → Terminal) : State := s.setTerm t (f (s.term t))

/-- The terminal link set. -/
def State.setTermLine (s : State) (x : TerminalLine) : State := { s with tlu := { s.tlu with line := x } }

/-- Head `h`. -/
def State.head (s : State) (h : HeadId) : Head := s.dlu.heads.get h

/-- Head `h` replaced. -/
def State.setHead (s : State) (h : HeadId) (x : Head) : State :=
  { s with dlu := { s.dlu with heads := s.dlu.heads.set h x } }

/-- Head `h` changed by `f`. -/
def State.modHead (s : State) (h : HeadId) (f : Head → Head) : State := s.setHead h (f (s.head h))

/-- The dispenser link set. -/
def State.setLine (s : State) (x : DispenserLine) : State := { s with dlu := { s.dlu with line := x } }

/-- The answer on the host link set. -/
def State.setAnswering (s : State) (a : Option Answer) : State := { s with hlu := { s.hlu with answering := a } }

/-! ### Site parameters (section 11.4) -/

/-- Site parameter number `n + 1`, as it stands. -/
def State.param (s : State) (n : Fin 14) : Nat := s.til.params.get n

/-- A site parameter given in seconds, as a timer length in tenths (section 0.5). -/
def State.paramTenths (s : State) (n : Fin 14) : Nat := 10 * s.param n

/-- Prompt time in tenths. -/
def State.promptTime (s : State) : Nat := s.paramTenths 0
/-- Host decision time in tenths. -/
def State.hostDecisionTime (s : State) : Nat := s.paramTenths 1
/-- Arm time in tenths. -/
def State.armTime (s : State) : Nat := s.paramTenths 2
/-- Continue time in tenths. -/
def State.continueTime (s : State) : Nat := s.paramTenths 3
/-- No-flow time in tenths. -/
def State.noFlowTime (s : State) : Nat := s.paramTenths 4
/-- Settle time in tenths. -/
def State.settleTime (s : State) : Nat := s.paramTenths 5
/-- Display time in tenths. -/
def State.displayTime (s : State) : Nat := s.paramTenths 6
/-- Zero poll count. -/
def State.zeroPollCount (s : State) : Nat := s.param 7
/-- Link retry count. -/
def State.retryCount (s : State) : Nat := s.param 8
/-- Head failure limit. -/
def State.headFailureLimit (s : State) : Nat := s.param 9
/-- Recovery time in tenths. -/
def State.recoveryTime (s : State) : Nat := s.paramTenths 10
/-- Host silence time in tenths. -/
def State.silenceTime (s : State) : Nat := s.paramTenths 11
/-- Slow volume in centilitres. -/
def State.slowVolume (s : State) : Nat := s.param 12
/-- Stand-in window in hours. -/
def State.standInWindow (s : State) : Nat := s.param 13

/-! ### Contexts in use, bindings, holds -/

/-- The context is in use (section 1.1). -/
def Context.inUse (c : Context) : Bool := decide (c.state ≠ .free)

/-- R2: the context holds that transaction and is in use. -/
def State.holds (s : State) (i : ContextId) (n : Nat) : Bool := (s.ctx i).inUse && decide ((s.ctx i).transaction = n)

/-- The context in use that holds transaction `n` (R2). -/
def State.findTransaction (s : State) (n : Nat) : Option ContextId := (List.finRange 16).find? fun i => s.holds i n

/-- The number of contexts not in FREE (R6). -/
def State.inUseCount (s : State) : Nat := (s.rd.contexts.items.filter Context.inUse).length

/-- The number of contexts in OFFERED (R63). -/
def State.offeredCount (s : State) : Nat := (s.rd.contexts.items.filter fun c => decide (c.state = .offered)).length

/-- The context bound to a lane: the one in use whose lane field names it (R10). -/
def State.bound (s : State) (l : LaneId) : Option ContextId :=
  (List.finRange 16).find? fun i => (s.ctx i).inUse && decide ((s.ctx i).lane = some l)

/-- A terminal's held context: the one in use whose terminal field names it and whose terminal held field is yes (R64). -/
def State.heldContext (s : State) (t : TerminalId) : Option ContextId :=
  (List.finRange 16).find? fun i => (s.ctx i).inUse && (s.ctx i).held && decide ((s.ctx i).terminal = some t)

/-- The lanes a terminal serves: those whose configuration names it (R35). -/
def State.terminalLanes (s : State) (t : TerminalId) : List LaneId :=
  (List.finRange 12).filter fun l => decide ((s.lane l).config.terminal = some t)

/-- The setup of a lane's channel: that of the bound context's channel record, else that of the lane configuration (R103). -/
def State.setup (s : State) (l : LaneId) (ch : Channel) : Option ChannelSetup :=
  match (s.bound l).bind fun i => (s.ctx i).channels with
  | some rs => (rs.get ch).setup
  | none => (s.lane l).config.channels.get ch

/-- Every channel of every lane, lane by lane and in letter order (R126). -/
def laneChannels : List (LaneId × Channel) :=
  (List.finRange 12).flatMap fun l => Channel.letters.map fun ch => (l, ch)

/-- The lane channels a head serves (R81). -/
def State.servedBy (s : State) (h : HeadId) : List (LaneId × Channel) :=
  laneChannels.filter fun p => (s.setup p.1 p.2).any fun x => decide (x.head = h)

/-- The record of a lane's channel in its bound context. -/
def State.laneRecord (s : State) (l : LaneId) (ch : Channel) : Option (ContextId × ChannelRecord) :=
  match s.bound l with
  | some i => (s.ctx i).channels.map fun rs => (i, rs.get ch)
  | none => none

/-- A context's channel record changed by `f`. -/
def Context.modChannel (c : Context) (ch : Channel) (f : ChannelRecord → ChannelRecord) : Context :=
  { c with channels := c.channels.map fun rs => rs.set ch (f (rs.get ch)) }

/-- Every channel record of a context changed by `f`. -/
def Context.mapChannels (c : Context) (f : ChannelRecord → ChannelRecord) : Context :=
  { c with channels := c.channels.map (·.map f) }

/-- A channel record of context `i` changed by `f`. -/
def State.modChannel (s : State) (i : ContextId) (ch : Channel) (f : ChannelRecord → ChannelRecord) : State :=
  s.modCtx i fun c => c.modChannel ch f

/-- Some channel record of the context has the property. -/
def Context.anyChannel (c : Context) (p : ChannelRecord → Bool) : Bool := c.channels.any (·.any p)

/-- The calendar clock's reading, as it stands, with its mark. -/
def State.stamp (s : State) : Stamp := ⟨s.rd.clock, s.rd.clockValid⟩

/-- The part is working: main power is present, the start has been decided, and PFAIL has not been taken (R181, R182). -/
def State.working (s : State) : Bool := decide (s.power.phase = .running)

/-- `f` while the part is working, nothing otherwise: no link, timer or input is taken then (R181, R182). -/
def State.whenWorking (s : State) (f : State → State) : State := if s.working then f s else s

/-! ### Channel state groups (section 1.3) -/

/-- Past IDLE: ZEROING, ALLOCATING, OPENING, FLOWING, CLOSING, SETTLING, DONE or FAILED. -/
def ChannelState.pastIdle : ChannelState → Bool
  | .idle | .refused => false
  | _ => true

/-- In progress: ZEROING, ALLOCATING, OPENING, FLOWING, CLOSING or SETTLING. -/
def ChannelState.inProgress : ChannelState → Bool
  | .idle | .refused | .done | .failed => false
  | _ => true

/-- Extending (R98): ALLOCATING, OPENING, FLOWING, CLOSING or SETTLING. -/
def ChannelState.extending : ChannelState → Bool
  | .allocating | .opening | .flowing | .closing | .settling => true
  | _ => false

/-- Flowing for an allocation (R113): OPENING or FLOWING. -/
def ChannelState.isFlowing : ChannelState → Bool
  | .opening | .flowing => true
  | _ => false

/-- Some channel of the context is past IDLE. -/
def Context.anyPastIdle (c : Context) : Bool := c.anyChannel fun r => r.state.pastIdle

/-- Some channel of the context is in progress. -/
def Context.anyInProgress (c : Context) : Bool := c.anyChannel fun r => r.state.inProgress

/-- A product is in a set (R199). -/
def inSet (p : Product) (set : ProductSet) : Bool := set.getLsb p

/-- The decision's permitted product set; empty while there is no approval. -/
def Context.permittedSet (c : Context) : ProductSet := (c.approval.map (·.permitted)).getD 0

/-- A channel is permitted: present, its product in the permitted product set (section 1.3). -/
def Context.permits (c : Context) (r : ChannelRecord) : Bool :=
  r.setup.any fun x => inSet x.product c.permittedSet

/-- A permitted channel that is unused and not REFUSED (R17, R20). -/
def Context.mayRelease (c : Context) (r : ChannelRecord) : Bool :=
  c.permits r && !r.used && decide (r.state ≠ .refused)

/-- The captured price of a product; 0 before binding. -/
def Context.price (c : Context) (p : Product) : Nat := (c.prices.map (·.get p)).getD 0

/-- A channel record at binding (R107). -/
def ChannelRecord.atBinding (setup : Option ChannelSetup) : ChannelRecord :=
  { setup := setup, state := .idle, extended := 0, low16 := 0, points := none, used := false, endCause := none,
    flowMark := 0, zeroPolls := 0, zeroEntry := 0, zeroAccepted := false, closeQueued := none, awaiting := false,
    noFlow := none, settle := none }

/-- A channel returned to IDLE, unused: both points absent (R108, R111, R117). It keeps its extended count, which R134 counts again if the channel is lifted anew and REFUSED from ZEROING: DEDUCED, notes/assumptions/52.md. -/
def ChannelRecord.toIdle (r : ChannelRecord) : ChannelRecord :=
  { r with state := .idle, points := none, closeQueued := none, endCause := none, noFlow := none, settle := none,
           awaiting := false }

/-- A channel that ends with a final count of its own: marked used when that count is above 0 (R118, R186). -/
def ChannelRecord.ended (r : ChannelRecord) (st : ChannelState) : ChannelRecord :=
  { r with state := st, used := r.used || decide (0 < r.extended), noFlow := none, settle := none,
           closeQueued := none, awaiting := false }

end Sys2Proof.Machine
end

