-- ==== Sys2Proof/Machine/Operands.lean ====
section
/-! DEFINITION. Reading the fields of host bodies and terminal items: digits, codes, presence bytes, multi-byte numbers (R199, R35, R73), and the codes the part sends (R200). -/

namespace Sys2Proof.Machine

open Sys2Proof

/-! ### Bytes -/

/-- Byte `i` of a body, 0 past its end. -/
def byteAt (bs : List Byte) (i : Nat) : Byte := bs.getD i 0

/-- A two-byte field at `i`, most significant byte first. -/
def wordAt (bs : List Byte) (i : Nat) : BitVec 16 := byteAt bs i ++ byteAt bs (i + 1)

/-- A four-byte field at `i`, most significant byte first. -/
def longAt (bs : List Byte) (i : Nat) : BitVec 32 :=
  (byteAt bs i ++ byteAt bs (i + 1)) ++ (byteAt bs (i + 2) ++ byteAt bs (i + 3))

/-- `n` bytes from `i`, 0 past the body's end. -/
def bytesAt (bs : List Byte) (i n : Nat) : List Byte := (List.range n).map fun k => byteAt bs (i + k)

/-- A yes-or-no byte: 0 no, 1 yes; what another value means the handbook does not say (notes/assumptions/9.md). -/
def flagOf (b : Byte) : Bool :=
  if b = 0 then false else if b = 1 then true else Config.flagByte b

/-! ### Digits -/

/-- The decimal digit an ASCII byte stands for. R199 gives ASCII for the digit strings of host frames; that the characters of CARD and ENTRY items come in ASCII too is PRESUMED: notes/assumptions/50.md. -/
def digitOf (b : Byte) : Option (Fin 10) :=
  if h : 48 ≤ b.toNat ∧ b.toNat ≤ 57 then some ⟨b.toNat - 48, by omega⟩ else none

/-- The digits an ASCII string stands for; none when a character is not a decimal digit. -/
def digitsOf : List Byte → Option Digits
  | [] => some []
  | b :: bs =>
    match digitOf b, digitsOf bs with
    | some d, some ds => some (d :: ds)
    | _, _ => none

/-- The ASCII byte of a digit. -/
def asciiOf (d : Fin 10) : Byte := BitVec.ofNat 8 (48 + d.val)

/-- The value of a digit string as a whole number (R35). -/
def valueOf (ds : Digits) : Nat := ds.foldl (fun n d => 10 * n + d.val) 0

/-- Two decimal digits as a number 0..99 (R73). -/
def twoDigits (bs : List Byte) : Option Nat :=
  if bs.length = 2 then (digitsOf bs).map valueOf else none

/-- A CARD item's card data: none for an item taken as a CARD ERROR, its flag clear, a character of its number no digit, or an expiry field not two digits (R73). The characters are read as ASCII: PRESUMED, notes/assumptions/50.md. -/
def readCard (c : CardItem) : Option CardData :=
  if c.readGood then
    match digitsOf c.number, twoDigits c.year, twoDigits c.month with
    | some ds, some y, some m => some ⟨ds, y, m⟩
    | _, _, _ => none
  else none

/-- R35: the digit count lies in the kind's range and the further check passes; `lanes` are the lanes of the terminal. -/
def acceptsEntry (k : PromptKind) (lanes : List LaneId) (ds : Digits) : Bool :=
  match k with
  | .lane => decide (1 ≤ ds.length ∧ ds.length ≤ 2) && lanes.any fun l => decide (numberOf l = valueOf ds)
  | .driver => decide (1 ≤ ds.length ∧ ds.length ≤ 8)
  | .vehicle => decide (1 ≤ ds.length ∧ ds.length ≤ 8)
  | .odometer => decide (1 ≤ ds.length ∧ ds.length ≤ 7) && decide (0 < valueOf ds)
  | .reeferHours => decide (1 ≤ ds.length ∧ ds.length ≤ 6)
  | .trip => decide (1 ≤ ds.length ∧ ds.length ≤ 10)

/-! ### Codes read -/

/-- Prompt kind codes 1..6 (section 11.5). -/
def promptKindOf (code : Nat) : Option PromptKind :=
  match code with
  | 1 => some .lane
  | 2 => some .driver
  | 3 => some .vehicle
  | 4 => some .odometer
  | 5 => some .reeferHours
  | 6 => some .trip
  | _ => none

/-- Program kind codes 0..3 (section 11.5). -/
def programKindOf (code : Nat) : Option ProgramKind :=
  match code with
  | 0 => some .unused
  | 1 => some .fleet
  | 2 => some .bank
  | 3 => some .site
  | _ => none

/-- Product class codes 1 and 2 (section 11.5). -/
def productClassOf (code : Nat) : Option ProductClass :=
  match code with
  | 1 => some .diesel
  | 2 => some .exhaustFluid
  | _ => none

/-- Table codes 1..4 (R195). -/
def tableNameOf (code : Nat) : Option TableName :=
  match code with
  | 1 => some .range
  | 2 => some .program
  | 3 => some .deny
  | 4 => some .product
  | _ => none

/-- Entries of a table (R36). -/
def TableName.size : TableName → Nat
  | .range => 128
  | .program => 32
  | .deny => 256
  | .product => 8

/-- A head channel number 1..2 (R103). -/
def headChannelOf (n : Nat) : Option HeadChannel :=
  match n with
  | 1 => some .one
  | 2 => some .two
  | _ => none

/-! ### Codes sent (section 11.5) -/

/-- Prompt kind codes. -/
def promptCode : PromptKind → Nat
  | .lane => 1
  | .driver => 2
  | .vehicle => 3
  | .odometer => 4
  | .reeferHours => 5
  | .trip => 6

/-- Reason codes. -/
def Reason.code : Reason → Nat
  | .cardInvalid => 1
  | .cardExpired => 2
  | .cardNotAccepted => 3
  | .denyList => 4
  | .noProduct => 5
  | .hostDeclined => 6
  | .hostTimeout => 7
  | .offline => 8
  | .standInLimit => 9
  | .driver => 10
  | .prompt => 11
  | .lane => 12
  | .terminalLost => 13
  | .hostCancel => 14
  | .hostStop => 15
  | .hostLateDecline => 16
  | .allStop => 17
  | .laneFault => 18
  | .restart => 19

/-- Record kind codes. -/
def RecordKind.code : RecordKind → Nat
  | .sale => 1
  | .noSale => 2
  | .decline => 3
  | .cancel => 4

/-- Decision source codes. -/
def DecisionSource.code : DecisionSource → Nat
  | .site => 1
  | .host => 2
  | .standIn => 3

/-- Fault kind codes; 6 is ZERO FAILED and 7 RECOVERY EXPIRED. -/
def FaultKind.code : FaultKind → Nat
  | .headLost => 1
  | .commandFailed => 2
  | .meterJump => 3
  | .meterMismatch => 4
  | .flowWithoutRelease => 5

/-- The detail ZERO FAILED. -/
def zeroFailedCode : Nat := 6

/-- The detail RECOVERY EXPIRED. -/
def recoveryExpiredCode : Nat := 7

/-- Failure kind codes. -/
def FailureKind.code : FailureKind → Nat
  | .noAnswer => 1
  | .badCheck => 2
  | .refused => 3
  | .unexpected => 4

/-- Event kind codes 1..18. -/
def EventKind.code : EventKind → Nat
  | .laneLockout => 1
  | .allStop => 2
  | .coldStart => 3
  | .laneFault => 4
  | .tablesInvalid => 5
  | .warmStart => 6
  | .headOffline => 7
  | .lateDecline => 8
  | .saveFailed => 9
  | .terminalOffline => 10
  | .overLimit => 11
  | .standInUsed => 12
  | .standInListFull => 13
  | .linkCapture => 14
  | .headOnline => 15
  | .terminalOnline => 16
  | .saveDone => 17
  | .priceAdopted => 18

/-- The place of an event kind in the level table. -/
def EventKind.index (k : EventKind) : Fin 20 := ⟨k.code - 1, by cases k <;> decide⟩

/-- A settable kind or condition code, 4..20, as its place in the level table (section 11.5). -/
def settableOf (code : Nat) : Option (Fin 20) := if h : 4 ≤ code ∧ code ≤ 20 then some ⟨code - 1, by omega⟩ else none

/-- Reply class codes. -/
def ReplyClass.code : ReplyClass → Nat
  | .done => 0
  | .partly => 1
  | .refused => 2

/-- Reply reason codes. -/
def ReplyReason.code : ReplyReason → Nat
  | .none => 0
  | .unknownRequest => 1
  | .badLength => 2
  | .badValue => 3
  | .clamped => 4
  | .busy => 5
  | .loading => 6
  | .noTables => 7
  | .unknownTransaction => 8
  | .tooLate => 9
  | .wrongState => 10
  | .laneNotSafe => 11
  | .estopHeld => 12
  | .tableEnd => 13

/-- Message numbers (R79). -/
def Message.number : Message → Nat
  | .welcome => 1
  | .readAgain => 2
  | .cardNotAccepted => 3
  | .enter _ => 4
  | .invalidEntry => 5
  | .selectLane => 6
  | .laneInUse _ => 7
  | .authorizing => 8
  | .declined _ => 9
  | .liftNozzle _ => 10
  | .stationBusy => 11
  | .stationClosed => 12
  | .cancelled => 13
  | .limitReached _ => 14
  | .productNotAllowed _ => 15
  | .pleaseWait => 16

/-- Message parameters (R79). -/
def Message.parameter : Message → Nat
  | .enter k => promptCode k
  | .laneInUse l => numberOf l
  | .declined r => r.code
  | .liftNozzle l => numberOf l
  | .limitReached l => numberOf l
  | .productNotAllowed l => numberOf l
  | _ => 0

/-- The code of a request: its row number in section 11.3. -/
def requestCode : Request → Byte
  | .status => 1
  | .laneState _ => 2
  | .linkState => 3
  | .nextAuth => 4
  | .authResult _ => 5
  | .uplinkState _ => 6
  | .nextRecord => 7
  | .nextEvent => 8
  | .setEventLevels _ _ => 9
  | .readCapture => 10
  | .clearCapture => 11
  | .loadTable _ _ => 12
  | .readTable _ _ _ => 13
  | .setPrices _ => 14
  | .setLane _ => 15
  | .setSiteParameters _ => 16
  | .setClock _ => 17
  | .saveTables => 18
  | .stopLane _ => 19
  | .cancelTransaction _ => 20
  | .resetLane _ => 21
  | .allStop => 22
  | .allResume => 23
  | .restart => 24
  | .unknown code => code

/-- The entries of a LOAD TABLE counted and sized (section 11.3); none where the table code gives no size. -/
def entriesLength : LoadEntries → Option Nat
  | .range es => some (12 * es.length)
  | .program es => some (29 * es.length)
  | .deny es => some (20 * es.length)
  | .product es => some (5 * es.length)
  | .unknown _ => none

/-- The body length a request's layout requires (section 11.3); none where no length is tested (R195). -/
def requiredLength : Request → Option Nat
  | .status => some 0
  | .laneState _ => some 1
  | .linkState => some 0
  | .nextAuth => some 0
  | .authResult _ => some 28
  | .uplinkState _ => some 1
  | .nextRecord => some 0
  | .nextEvent => some 0
  | .setEventLevels _ ps => some (2 + 2 * ps.length)
  | .readCapture => some 0
  | .clearCapture => some 0
  | .loadTable _ es => (entriesLength es).map (4 + ·)
  | .readTable _ _ _ => some 3
  | .setPrices ps => some (1 + 5 * ps.length)
  | .setLane _ => some 21
  | .setSiteParameters ps => some (1 + 3 * ps.length)
  | .setClock _ => some 7
  | .saveTables => some 0
  | .stopLane _ => some 1
  | .cancelTransaction _ => some 4
  | .resetLane _ => some 1
  | .allStop => some 0
  | .allResume => some 0
  | .restart => some 0
  | .unknown _ => none

/-! ### Host bodies read from their bytes (sections 11.3, 11.6) -/

/-- AUTH RESULT's fields. -/
def readAuthResult (b : List Byte) : AuthResultBody :=
  { transaction := longAt b 0, result := byteAt b 4, amount := longAt b 5, products := byteAt b 9, limits := byteAt b 10,
    dieselLimit := longAt b 11, defLimit := longAt b 15, codeLength := byteAt b 19, codeChars := bytesAt b 20 8 }

/-- A digit field without the 0 bytes at its end, which stand for digits that were not sent (R199). -/
def sentDigits (bs : List Byte) : List Byte := (bs.reverse.dropWhile fun b => decide (b = 0)).reverse

/-- A RANGE entry's 12 bytes: prefix length, ten prefix digits, target; the order is PRESUMED (notes/assumptions/10.md). -/
def readRange (b : List Byte) : RangeEntry :=
  { length := (byteAt b 0).toNat, digits := sentDigits (bytesAt b 1 10),
    target :=
      if 1 ≤ (byteAt b 11).toNat ∧ (byteAt b 11).toNat ≤ 32 then .program (byteAt b 11)
      else if byteAt b 11 = Config.excludedCode then .excluded else .program (byteAt b 11) }

/-- A DENY entry's 20 bytes: digit count and nineteen digits; a count above 19 gives a string that no check passes. -/
def readDeny (b : List Byte) : List Byte := bytesAt (bytesAt b 1 19) 0 (byteAt b 0).toNat

/-- A PRODUCT entry's 5 bytes: class and price. -/
def readProduct (b : List Byte) : ProductFields := ⟨byteAt b 0, longAt b 1⟩

/-- `n` entries of `size` bytes each, from `i`. -/
def entriesAt {α : Type} (read : List Byte → α) (size n i : Nat) (b : List Byte) : List α :=
  (List.range n).map fun k => read (bytesAt b (i + size * k) size)

/-- LOAD TABLE's entries by its table code. A body without a table code byte reads as code 0, which R37 refuses with BAD VALUE: DESIGN CHOICE, notes/assumptions/38.md. -/
def readLoadEntries (b : List Byte) : LoadEntries :=
  match tableNameOf (byteAt b 0).toNat with
  | some .range => .range (entriesAt readRange 12 (byteAt b 3).toNat 4 b)
  | some .program => .program (entriesAt Config.programLayout 29 (byteAt b 3).toNat 4 b)
  | some .deny => .deny (entriesAt readDeny 20 (byteAt b 3).toNat 4 b)
  | some .product => .product (entriesAt readProduct 5 (byteAt b 3).toNat 4 b)
  | none => .unknown (byteAt b 0)

/-- A channel's six bytes of SET LANE. -/
def readLaneChannel (b : List Byte) (i : Nat) : LaneChannelFields :=
  ⟨flagOf (byteAt b i), byteAt b (i + 1), byteAt b (i + 2), byteAt b (i + 3), wordAt b (i + 4)⟩

/-- SET LANE's fields. -/
def readSetLane (b : List Byte) : SetLaneBody :=
  ⟨byteAt b 0, flagOf (byteAt b 1), byteAt b 2, ⟨readLaneChannel b 3, readLaneChannel b 9, readLaneChannel b 15⟩⟩

/-- SET CLOCK's fields. -/
def readSetClock (b : List Byte) : SetClockBody :=
  ⟨wordAt b 0, byteAt b 2, byteAt b 3, byteAt b 4, byteAt b 5, byteAt b 6⟩

/-- The request that a code and a body spell. READ TABLE's three bytes are the table, the start index and the count, in the order of R40's words, and SET EVENT LEVELS' bytes the mask level, the count of pairs, and each pair's kind and level, in the order of section 9.4's; SET PRICES' bytes are the count of pairs and then each pair's product, one byte, and price, four bytes, in the order of R150's words: PRESUMED, notes/assumptions/38.md. The pairs of SET SITE PARAMETERS follow R197. -/
def readRequest (code : Byte) (b : List Byte) : Request :=
  match code.toNat with
  | 1 => .status
  | 2 => .laneState (byteAt b 0)
  | 3 => .linkState
  | 4 => .nextAuth
  | 5 => .authResult (readAuthResult b)
  | 6 => .uplinkState (byteAt b 0)
  | 7 => .nextRecord
  | 8 => .nextEvent
  | 9 => .setEventLevels (byteAt b 0) (entriesAt (fun e => (byteAt e 0, byteAt e 1)) 2 (byteAt b 1).toNat 2 b)
  | 10 => .readCapture
  | 11 => .clearCapture
  | 12 => .loadTable ⟨byteAt b 1, byteAt b 2⟩ (readLoadEntries b)
  | 13 => .readTable (byteAt b 0) (byteAt b 1) (byteAt b 2)
  | 14 => .setPrices (entriesAt (fun e => (byteAt e 0, longAt e 1)) 5 (byteAt b 0).toNat 1 b)
  | 15 => .setLane (readSetLane b)
  | 16 => .setSiteParameters (entriesAt (fun e => (byteAt e 0, wordAt e 1)) 3 (byteAt b 0).toNat 1 b)
  | 17 => .setClock (readSetClock b)
  | 18 => .saveTables
  | 19 => .stopLane (byteAt b 0)
  | 20 => .cancelTransaction (longAt b 0)
  | 21 => .resetLane (byteAt b 0)
  | 22 => .allStop
  | 23 => .allResume
  | 24 => .restart
  | _ => .unknown code

/-! ### The frame check -/

/-- One bit of the CRC-16 with polynomial 0x1021, not reflected (section 11.1). -/
def crcBit (crc : BitVec 16) : BitVec 16 := if crc.msb then (crc <<< 1) ^^^ 0x1021 else crc <<< 1

/-- One byte of the CRC-16. -/
def crcByte (crc : BitVec 16) (b : Byte) : BitVec 16 :=
  crcBit (crcBit (crcBit (crcBit (crcBit (crcBit (crcBit (crcBit (crc ^^^ (b ++ (0 : Byte))))))))))

/-- The CRC-16 of the host link frame check: initial value 0xFFFF, final XOR 0 (section 11.1). -/
def crc16 (bs : List Byte) : BitVec 16 := bs.foldl crcByte 0xFFFF

/-- The most significant byte of a 16-bit field. -/
def highByte (w : BitVec 16) : Byte := (w >>> 8).setWidth 8

/-- The least significant byte of a 16-bit field. -/
def lowByte (w : BitVec 16) : Byte := w.setWidth 8

/-- The bytes a frame's check is taken over: the two length bytes, the code, the tag and the body (section 11.1). -/
def coveredBytes (f : RawFrame) : List Byte :=
  highByte (BitVec.ofNat 16 (f.body.length + 2)) ::
    lowByte (BitVec.ofNat 16 (f.body.length + 2)) :: f.code :: f.tag :: f.body

/-- The frame's check is good (R193). -/
def checkGood (f : RawFrame) : Bool := decide (crc16 (coveredBytes f) = f.check)

/-- The valid frame that a raw frame with a good check is. -/
def frameOf (f : RawFrame) : HostFrame := ⟨f.tag, f.body.length, readRequest f.code f.body⟩

end Sys2Proof.Machine
end

