-- ==== Sys2Proof/Machine/Flags.lean ====
section
/-! DEFINITION. The flag words of records, and what the output pins follow: ATTN, HALT, the cut lines, the line driver enables (R154, R162, R175, section 0.6). -/

namespace Sys2Proof.Machine

open Sys2Proof

/-- A flag's weight in the record's two-byte flag field. -/
def flagBit (b : Bool) (weight : Nat) : Nat := if b then weight else 0

/-- The record flags as their two-byte field (section 11.5). -/
def ContextFlags.word (f : ContextFlags) : Nat :=
  flagBit f.overLimit 1 + flagBit f.fault 2 + flagBit f.lockout 4 + flagBit f.allStop 8 + flagBit f.lateDecline 16 +
    flagBit f.recovered 32 + flagBit f.meterEstimated 64 + flagBit f.meterMismatch 128

/-- The level of AUTH WAITING (code 19). -/
def EventUnit.authWaiting (u : EventUnit) : Nat := u.levels.get 18

/-- The level of RECORD WAITING (code 20). -/
def EventUnit.recordWaiting (u : EventUnit) : Nat := u.levels.get 19

/-- The condition of ATTN (R175). -/
def State.attnCondition (s : State) : Bool :=
  s.reu.events.any (fun e => decide (s.reu.mask < e.level) || decide (e.level = 7)) ||
    (decide (0 < s.offeredCount) && decide (s.reu.mask < s.reu.authWaiting)) ||
    (!s.rd.records.isEmpty && decide (s.reu.mask < s.reu.recordWaiting))

/-- ATTN tested afresh (R175). -/
def State.testAttn (s : State) : State := { s with reu := { s.reu with attn := s.attnCondition } }

/-- HALT and every cut line asserted and ATTN released, from the beginning of a start until its decision (R154, R175, R182). -/
def State.assertAll (s : State) : State :=
  { s with scc := { s.scc with halt := true, cut := .fill 12 true }, reu := { s.reu with attn := false } }

/-- HALT following the all-stop latch (R154). -/
def State.followLatch (s : State) : State := { s with scc := { s.scc with halt := s.rd.latch } }

/-- Every cut line following the lock the Retained Domain holds for its lane (R162). -/
def State.followLocks (s : State) : State := { s with scc := { s.scc with cut := s.rd.locks } }

/-- The TDE pin, which enables the terminal link's line driver: while a poll is being sent (section 0.6, R65; DEDUCED, and for a start that waits for RST a DESIGN CHOICE, notes/assumptions/30.md). -/
def State.tde (s : State) : Bool :=
  match s.tlu.line with
  | .sending _ => true
  | _ => false

/-- The DDE pin, which enables the dispenser link's line driver: while a frame or a HALT ALL is being sent (section 0.6, R83, R97; DEDUCED, and for a start that waits for RST a DESIGN CHOICE, notes/assumptions/30.md). -/
def State.dde (s : State) : Bool :=
  match s.dlu.line with
  | .sending _ => true
  | .haltAll _ => true
  | _ => false

end Sys2Proof.Machine
end

