-- ==== Sys2Proof/Machine/Events.lean ====
section
/-! DEFINITION. Records and events (chapter 9): queuing, coalescing and overflow of events, the record queue. -/

namespace Sys2Proof.Machine

open Sys2Proof

/-- Places of the queued events of a kind and subject (R171): there is at most one. -/
def sameOccurrence (k : EventKind) (sub : Subject) (e : Event) : Bool := decide (e.kind = k) && decide (e.subject = sub)

/-- R171: the occurrence gathered into the queued event; it keeps its place. -/
def coalesce (lvl detail : Nat) (now : Stamp) (e : Event) : Event :=
  { e with level := lvl, detail := detail, count := saturating 255 (e.count + 1), time := now }

/-- The lowest level below 7 among the queued events (R172). -/
def lowestLevel (es : List Event) : Option Nat :=
  ((es.map (·.level)).filter (fun n => decide (n < 7))).min?

/-- R172: the queue without the event a level-7 arrival removes: of the lowest level below 7, the one nearest the head. -/
def removeLowest (es : List Event) : List Event :=
  match lowestLevel es with
  | some n => es.eraseP fun e => decide (e.level = n)
  | none => es

/-- The dropped count raised by one, saturating (R172). -/
def EventUnit.drop (u : EventUnit) : EventUnit := { u with dropped := countUp u.dropped }

/-- R170 to R172: the event unit after an occurrence of a kind, its level read from the level table. -/
def EventUnit.occur (u : EventUnit) (k : EventKind) (sub : Subject) (detail : Nat) (now : Stamp) : EventUnit :=
  let lvl := u.levels.get k.index
  if lvl = 0 then u
  else if u.events.any (sameOccurrence k sub) then
    { u with events := u.events.map fun e => if sameOccurrence k sub e then coalesce lvl detail now e else e }
  else if u.events.length < Config.eventCapacity then
    { u with events := u.events ++ [⟨k, lvl, sub, detail, 1, now⟩] }
  else if lvl = 7 then
    { u.drop with events := removeLowest u.events ++ [⟨k, lvl, sub, detail, 1, now⟩] }
  else u.drop

/-- An event queued by a block (R170), ATTN tested within it (R175). -/
def State.queueEvent (s : State) (k : EventKind) (sub : Subject) (detail : Nat) : State :=
  { s with reu := s.reu.occur k sub detail s.stamp }.testAttn

/-- A record appended to the tail of the record queue (R166, R167). -/
def State.appendRecord (s : State) (r : Record) : State :=
  { s with rd := { s.rd with records := s.rd.records ++ [r] } }.testAttn

/-- The queued record that holds a transaction number (R169). -/
def State.findRecord (s : State) (n : Nat) : Option Record := s.rd.records.find? fun r => decide (r.transaction = n)

/-- R169: the LATE DECLINE flag set in place in the queued record of a transaction. -/
def State.markRecord (s : State) (n : Nat) : State :=
  { s with rd := { s.rd with records := s.rd.records.map fun r =>
      if r.transaction = n then { r with flags := { r.flags with lateDecline := true } } else r } }

end Sys2Proof.Machine
end

