-- ==== Sys2Proof/Machine/Calendar.lean ====
section
/-! DEFINITION. The calendar clock (R188), the stand-in window (R61), and the passing of one tenth of a second. -/

namespace Sys2Proof.Machine

open Sys2Proof

/-- The length of a month: February has 29 days in the years divisible by 4 (R188). -/
def daysIn (year month : Nat) : Nat :=
  match month with
  | 2 => if year % 4 = 0 then 29 else 28
  | 4 | 6 | 9 | 11 => 30
  | _ => 31

/-- The days of the months of `year` before `month`. -/
def daysBefore (year month : Nat) : Nat := ((List.range (month - 1)).map fun m => daysIn year (m + 1)).sum

/-- A reading as seconds since 1 January 2000, 00:00:00. -/
def DateTime.seconds (t : DateTime) : Nat :=
  let y := t.year - 2000
  let days := 365 * y + (y + 3) / 4 + daysBefore t.year t.month + (t.day - 1)
  ((days * 24 + t.hour) * 60 + t.minute) * 60 + t.second

/-- The reading is one that the clock may hold (R188). -/
def DateTime.legal (t : DateTime) : Bool :=
  decide (2000 ≤ t.year ∧ t.year ≤ 2099 ∧ 1 ≤ t.month ∧ t.month ≤ 12 ∧ 1 ≤ t.day ∧ t.day ≤ daysIn t.year t.month ∧
    t.hour ≤ 23 ∧ t.minute ≤ 59 ∧ t.second ≤ 59)

/-- The start of the minute after a reading's; the last minute of 2099 is followed by the first of 2000 (R188). -/
def DateTime.nextMinute (t : DateTime) : DateTime :=
  if t.minute < 59 then { t with minute := t.minute + 1, second := 0 }
  else if t.hour < 23 then { t with hour := t.hour + 1, minute := 0, second := 0 }
  else if t.day < daysIn t.year t.month then { t with day := t.day + 1, hour := 0, minute := 0, second := 0 }
  else if t.month < 12 then ⟨t.year, t.month + 1, 1, 0, 0, 0⟩
  else if t.year < 2099 then ⟨t.year + 1, 1, 1, 0, 0, 0⟩
  else .first

/-- The last minute the clock can read (R188). -/
def DateTime.lastMinute (t : DateTime) : Bool :=
  decide (2099 ≤ t.year ∧ 12 ≤ t.month ∧ daysIn t.year t.month ≤ t.day ∧ 23 ≤ t.hour ∧ 59 ≤ t.minute)

/-- R61: the entry's window of `hours` has passed at reading `now`. -/
def StandInEntry.passed (e : StandInEntry) (now : DateTime) (hours : Nat) : Bool :=
  decide (e.firstUse.seconds + 3600 * hours ≤ now.seconds)

/-- Every stand-in entry whose window has passed removed (R61). -/
def State.sweepStandIn (s : State) : State :=
  { s with rd := { s.rd with standIn := s.rd.standIn.filter fun e => !e.passed s.rd.clock s.standInWindow } }

/-- The running clock moved on to its next minute; past the end of 2099 it becomes invalid (R188). The check of R180 covers the valid mark and is left as it was written, so that the match R181 speaks of may be lost where the clock passes the end of 2099 before the next start: DEDUCED, notes/assumptions/54.md. -/
def Retained.nextMinute (r : Retained) : Retained :=
  { r with clock := r.clock.nextMinute, clockTenths := 0, clockValid := r.clockValid && !r.clock.lastMinute }

/-- A change of the clock's minute, with the sweep of R61 while the part works and the clock is valid. -/
def State.minuteChange (s : State) : State :=
  let s' := { s with rd := s.rd.nextMinute }
  if s'.working && s'.rd.clockValid then s'.sweepStandIn else s'

/-- One tenth of a second on the clock, which runs from either supply (R188). -/
def State.clockTick (s : State) : State :=
  if s.rd.clockTenths < 9 then { s with rd := { s.rd with clockTenths := s.rd.clockTenths + 1 } }
  else if s.rd.clock.second < 59 then
    { s with rd := { s.rd with clockTenths := 0, clock := { s.rd.clock with second := s.rd.clock.second + 1 } } }
  else s.minuteChange

/-! ### One tenth of a second on the timers -/

/-- A timer one tenth on. -/
def Timer.tick (t : Timer) : Timer := { t with left := t.left - 1 }

/-- A timer that has run out. -/
def Timer.out (t : Timer) : Bool := decide (t.left = 0)

/-- An offline poll timer one tenth on. -/
def PollTimer.tick : PollTimer → PollTimer
  | .running t => .running t.tick
  | p => p

/-- An offline poll timer that has run out and whose expiry has not been taken. -/
def PollTimer.out : PollTimer → Bool
  | .running t => t.out
  | _ => false

/-- A context's timers one tenth on. -/
def Context.tick (c : Context) : Context :=
  { c with deadline := c.deadline.map Timer.tick }.mapChannels fun r =>
    { r with noFlow := r.noFlow.map Timer.tick, settle := r.settle.map Timer.tick }

/-- A lane's fault settle timers one tenth on. -/
def Lane.tick (l : Lane) : Lane :=
  { l with channels := l.channels.map fun x => { x with faultSettle := x.faultSettle.map Timer.tick } }

/-- A terminal's timers one tenth on. -/
def Terminal.tick (t : Terminal) : Terminal :=
  { t with offlinePoll := t.offlinePoll.tick, displayTimer := t.displayTimer.map Timer.tick,
           interjection := t.interjection.map fun p => (p.1, p.2.tick) }

/-- Every timer of the working part one tenth on. -/
def State.timersTick (s : State) : State :=
  { s with
    rd := { s.rd with contexts := s.rd.contexts.map Context.tick }
    tlu := { s.tlu with terminals := s.tlu.terminals.map Terminal.tick }
    ae := { s.ae with silence := s.ae.silence.map Timer.tick }
    dcu := { s.dcu with lanes := s.dcu.lanes.map Lane.tick }
    dlu := { s.dlu with heads := s.dlu.heads.map fun h => { h with offlinePoll := h.offlinePoll.tick } } }

/-- The expiry that a context's deadline gives in its state (section 1.11). -/
def deadlineExpiry (st : ContextState) (i : ContextId) : Option Instr :=
  match st with
  | .prompting => some (.promptTimerExpiry i)
  | .offered | .taken => some (.hostDecisionTimerExpiry i)
  | .armed => some (.armTimerExpiry i)
  | .ending => some (.continueTimerExpiry i)
  | .recovering => some (.recoveryTimerExpiry i)
  | _ => none

/-- A context's deadline has run out: its expiry. -/
def State.dueDeadline (s : State) (i : ContextId) : Option Instr :=
  if (s.ctx i).deadline.any Timer.out then deadlineExpiry (s.ctx i).state i else none

/-- A lane channel's timers: the expiry of the first that has run out. -/
def State.dueChannel (s : State) (p : LaneId × Channel) : Option Instr :=
  match s.laneRecord p.1 p.2 with
  | some (_, r) =>
    if r.noFlow.any Timer.out then some (.noFlowTimerExpiry p.1 p.2)
    else if r.settle.any Timer.out then some (.settleTimerExpiry p.1 p.2)
    else if ((s.lane p.1).channels.get p.2).faultSettle.any Timer.out then some (.faultSettleTimerExpiry p.1 p.2) else none
  | none => if ((s.lane p.1).channels.get p.2).faultSettle.any Timer.out then some (.faultSettleTimerExpiry p.1 p.2) else none

/-- A terminal's timers: the expiry of the first that has run out. -/
def State.dueTerminal (s : State) (t : TerminalId) : Option Instr :=
  if (s.term t).displayTimer.any Timer.out then some (.displayTimerExpiry t)
  else if (s.term t).interjection.any (fun p => p.2.out) then some (.interjectionTimerExpiry t)
  else if (s.term t).offlinePoll.out then some (.terminalOfflinePollTimerExpiry t) else none

/-- A head's offline poll timer has run out: its expiry. -/
def State.dueHead (s : State) (h : HeadId) : Option Instr :=
  if (s.head h).offlinePoll.out then some (.headOfflinePollTimerExpiry h) else none

/-- The expiry that the working part takes next: of the timers that have run out, the host-silence timer's, then contexts', channels', terminals', heads'. Their order among themselves is left open (R13, R17: "either may be taken first"): DESIGN CHOICE, notes/assumptions/2.md. -/
def State.dueExpiry (s : State) : Option Instr :=
  if !s.working then none
  else if s.ae.silence.any Timer.out then some .hostSilenceTimerExpiry
  else ((List.finRange 16).findSome? s.dueDeadline).or
    ((laneChannels.findSome? s.dueChannel).or
      (((List.finRange 8).findSome? s.dueTerminal).or ((List.finRange 24).findSome? s.dueHead)))

/-- One tenth of a second passes: the clock runs from either supply, the timers only while the part works (R181, R188). -/
def State.tick (s : State) : State := (s.whenWorking State.timersTick).clockTick

end Sys2Proof.Machine
end

