-- ==== Sys2Proof/Machine/Arithmetic.lean ====
section
/-! DEFINITION. Limit and sale arithmetic (chapter 7): volumes, points, the budget, class parts, water-filling, the two divisions, the sale. -/

namespace Sys2Proof.Machine

open Sys2Proof

/-! ### Volumes and points -/

/-- The volume in cl of `p` pulses on a meter of factor `k` (R133). -/
def volumeOf (p k : Nat) : Nat := p * 100 / k

/-- A point held at its maximum (R132). -/
def heldPoint (n : Nat) : Nat := if n ≤ Config.maxPoint then n else Config.maxPoint

/-- The stop point of an allowed volume (R140). -/
def stopPoint (allow k : Nat) : Nat := heldPoint (((allow + 1) * k - 1) / 100)

/-- The slow point of an allowed volume for the slow volume `slow` (R140). -/
def slowPoint (allow slow k : Nat) : Nat :=
  if slow < allow then heldPoint (((allow - slow + 1) * k - 1) / 100) else 0

/-- Both points of an allowed volume (R140). -/
def pointsFor (allow slow k : Nat) : Points := ⟨stopPoint allow k, slowPoint allow slow k⟩

/-- The counted pulses of a channel (R134). A DONE or FAILED channel's final count is its extended count (R99, R120). A REFUSED channel's may hold pulses of an earlier release that was withdrawn: DEDUCED, notes/assumptions/52.md. -/
def ChannelRecord.countedPulses (r : ChannelRecord) : Nat :=
  match r.state with
  | .idle | .zeroing => 0
  | _ => r.extended

/-- The volume of a pulse count on the channel; 0 on an absent channel (R133). -/
def ChannelRecord.volume (r : ChannelRecord) (p : Nat) : Nat := (r.setup.map fun x => volumeOf p x.k).getD 0

/-- The counted volume of a channel (R134). -/
def ChannelRecord.countedVolume (r : ChannelRecord) : Nat := r.volume r.countedPulses

/-- The stop point in force; 0 where there is none. -/
def ChannelRecord.stopInForce (r : ChannelRecord) : Nat := (r.points.map (·.stop)).getD 0

/-- The captured price of the channel's product; 0 on an absent channel. -/
def Context.channelPrice (c : Context) (r : ChannelRecord) : Nat := (r.setup.map fun x => c.price x.product).getD 0

/-! ### The budget -/

/-- The number of products in a set. -/
def setSize (set : ProductSet) : Nat := (List.finRange 8).countP fun p => inSet p set

/-- The approved amount in cents; 0 without an approval. -/
def Context.approved (c : Context) : Nat := (c.approval.map (·.amount)).getD 0

/-- The budget in cu (R135). -/
def Context.budget (c : Context) : Int := 1000 * (c.approved : Int) - 500 * (setSize c.permittedSet : Int)

/-- The channel records of a context; three absent ones before binding. -/
def Context.records (c : Context) : Triple ChannelRecord := c.channels.getD (.fill (.atBinding none))

/-- The cost in cu of the volumes given for the three channels (R132). -/
def Context.cost (c : Context) (volumes : Triple Nat) : Nat :=
  volumes.a * c.channelPrice c.records.a + volumes.b * c.channelPrice c.records.b +
    volumes.c * c.channelPrice c.records.c

/-- The counted volume of each channel. -/
def Context.countedVolumes (c : Context) : Triple Nat := c.records.map ChannelRecord.countedVolume

/-- The remaining budget in cu (R136). -/
def Context.remaining (c : Context) : Int := c.budget - (c.cost c.countedVolumes : Int)

/-- The lowest captured price among the permitted products (R136). -/
def Context.lowestPrice (c : Context) : Option Nat :=
  (((List.finRange 8).filter fun p => inSet p c.permittedSet).map c.price).min?

/-- The budget is spent (R136). -/
def Context.spent (c : Context) : Bool :=
  decide (c.remaining ≤ 0) || c.lowestPrice.any fun p => decide (c.remaining < (p : Int))

/-! ### Class parts (R137) -/

/-- What a division divides among: the channels that share it, and the volume each channel is taken at, fixed or counted. -/
structure Division where
  sharing : Triple Bool
  volumes : Triple Nat
deriving DecidableEq, Repr

/-- The class of a channel's product. -/
def classOf (cls : Product → ProductClass) (r : ChannelRecord) : Option ProductClass := r.setup.map fun x => cls x.product

/-- The volume limit of a class in the decision. -/
def Context.classLimit (c : Context) : ProductClass → Option Nat
  | .diesel => c.approval.bind (·.dieselLimit)
  | .exhaustFluid => c.approval.bind (·.defLimit)

/-- The volumes of a class added over the three channels. -/
def Context.classVolume (c : Context) (cls : Product → ProductClass) (k : ProductClass) (volumes : Triple Nat) : Nat :=
  (Channel.letters.map fun ch => if classOf cls (c.records.get ch) = some k then volumes.get ch else 0).sum

/-- The channels of a class that share a division, in letter order. -/
def Context.classSharing (c : Context) (cls : Product → ProductClass) (k : ProductClass) (d : Division) : List Channel :=
  Channel.letters.filter fun ch => d.sharing.get ch && decide (classOf cls (c.records.get ch) = some k)

/-- A channel's part of its class's remaining volume; none where it is unbounded (R137). -/
def Context.part (c : Context) (cls : Product → ProductClass) (d : Division) (ch : Channel) : Option Nat :=
  match classOf cls (c.records.get ch) with
  | none => some 0
  | some k =>
    (c.classLimit k).map fun limit =>
      let rest := limit - c.classVolume cls k d.volumes
      let sharers := c.classSharing cls k d
      rest / sharers.length + (if sharers.head? = some ch then rest % sharers.length else 0)

/-! ### Water-filling (R138) -/

/-- The channel of the lowest bounded cap, in letter order among equals. -/
def lowestCap : List (Channel × Option Nat) → Option (Channel × Nat)
  | [] => none
  | (_, none) :: rest => lowestCap rest
  | (ch, some cap) :: rest =>
    match lowestCap rest with
    | some (ch', cap') => if cap' < cap then some (ch', cap') else some (ch, cap)
    | none => some (ch, cap)

/-- Equal shares of `m`, the leftover to the first in letter order (R138 step 4). -/
def equalShares (m : Nat) : List (Channel × Option Nat) → List (Channel × Nat)
  | [] => []
  | (ch, _) :: rest =>
    (ch, m / (rest.length + 1) + m % (rest.length + 1)) :: rest.map fun x => (x.1, m / (rest.length + 1))

/-- The shares of `m` cu among channels with their money caps, in at most `n` rounds (R138). -/
def waterFill : Nat → Nat → List (Channel × Option Nat) → List (Channel × Nat)
  | _, _, [] => []
  | 0, m, left => equalShares m left
  | n + 1, m, left =>
    match lowestCap left with
    | some (ch, cap) =>
      if cap ≤ m / left.length then (ch, cap) :: waterFill n (m - cap) (left.filter fun x => decide (x.1 ≠ ch))
      else equalShares m left
    | none => equalShares m left

/-- A channel's share in a list of shares; 0 where it has none. -/
def shareIn (shares : List (Channel × Nat)) (ch : Channel) : Nat :=
  ((shares.find? fun x => decide (x.1 = ch)).map (·.2)).getD 0

/-! ### The divisions -/

/-- What a division gives a channel: V_share and its points (R139, R140). -/
structure Share where
  volume : Nat
  points : Points
deriving DecidableEq, Repr

/-- The volume a share buys (R139). -/
def shareVolume (share price : Nat) (part : Option Nat) : Nat :=
  match part with
  | some p => if share / price ≤ p then share / price else p
  | none => share / price

/-- The shares of a division by channel, in cu (R137, R138). -/
def Context.sharesOf (c : Context) (cls : Product → ProductClass) (d : Division) : List (Channel × Nat) :=
  let sharers := Channel.letters.filter fun ch => d.sharing.get ch
  let amount := c.budget - (c.cost d.volumes : Int)
  if amount ≤ 0 then sharers.map fun ch => (ch, 0)
  else waterFill 3 amount.toNat
    (sharers.map fun ch => (ch, (c.part cls d ch).map fun p => p * c.channelPrice (c.records.get ch)))

/-- One division: the share of each channel that takes part (R137 to R140). -/
def Context.divide (c : Context) (cls : Product → ProductClass) (slow : Nat) (d : Division) : Triple (Option Share) :=
  .build fun ch =>
    if d.sharing.get ch then
      let r := c.records.get ch
      let v := shareVolume (shareIn (c.sharesOf cls d) ch) (c.channelPrice r) (c.part cls d ch)
      some ⟨v, pointsFor (r.countedVolume + v) slow ((r.setup.map (·.k)).getD 1)⟩
    else none

/-- The phase-1 division (R141). -/
def Context.phaseOne (c : Context) (cls : Product → ProductClass) (slow : Nat) : Triple (Option Share) :=
  c.divide cls slow
    ⟨c.records.map fun r => r.state.isFlowing || decide (r.state = .allocating), c.countedVolumes⟩

/-- A raising channel that a pass holds at its points in force (R143 step 4). -/
def heldBack (r : ChannelRecord) (x : Option Share) : Bool :=
  match x with
  | some sh =>
    r.state.isFlowing &&
      (decide (sh.points.stop < r.stopInForce) || (decide (r.state = .opening) && r.closeQueued.isSome))
  | none => false

/-- The passes of the phase-2 division: at most `n` of them hold a channel (R143). -/
def Context.passes (c : Context) (cls : Product → ProductClass) (slow : Nat) : Nat → Division → Triple (Option Share)
  | 0, d => c.divide cls slow d
  | n + 1, d =>
    let shares := c.divide cls slow d
    let back := Triple.build fun ch => heldBack (c.records.get ch) (shares.get ch)
    if back.any id then
      c.passes cls slow n
        ⟨.build fun ch => d.sharing.get ch && !back.get ch,
         .build fun ch =>
           let r := c.records.get ch
           if back.get ch then Nat.max (r.volume r.stopInForce) r.countedVolume else d.volumes.get ch⟩
    else shares

/-- The volume a lowering channel is taken at in phase 2 (R142). -/
def loweredVolume (r : ChannelRecord) (x : Option Lowering) : Nat :=
  match x with
  | some w => r.volume (Nat.max (w.fixed.getD 0) r.extended)
  | none => r.countedVolume

/-- The phase-2 division (R143): the raising channels are the flowing ones outside the lowering set and the joining ones still in ALLOCATING. -/
def Context.phaseTwo (c : Context) (cls : Product → ProductClass) (slow : Nat) : Triple (Option Share) :=
  c.passes cls slow 3
    ⟨.build fun ch =>
        let r := c.records.get ch
        (r.state.isFlowing && (c.allocation.lowering.get ch).isNone) ||
          (decide (r.state = .allocating) && c.allocation.joining.get ch),
     .build fun ch => loweredVolume (c.records.get ch) (c.allocation.lowering.get ch)⟩

/-! ### The sale (R145, R146) -/

/-- The volume of a channel's final count; 0 where it has none (R145). -/
def ChannelRecord.soldVolume (r : ChannelRecord) : Nat :=
  match r.state with
  | .done | .failed => r.volume r.extended
  | _ => 0

/-- The volume of a product over the three channels. -/
def Context.productVolume (c : Context) (p : Product) : Nat :=
  (c.records.toList.map fun r => if r.setup.any (fun x => decide (x.product = p)) then r.soldVolume else 0).sum

/-- The sale line amount in cents, an exact half cent rounded up (R145). -/
def lineAmount (volume price : Nat) : Nat := (volume * price + 500) / 1000

/-- The sale lines, in order of product number (R145). -/
def Context.saleLines (c : Context) : List SaleLine :=
  (List.finRange 8).filterMap fun p =>
    if 0 < c.productVolume p then
      some ⟨p, c.productVolume p, c.price p, lineAmount (c.productVolume p) (c.price p)⟩
    else none

/-- The sale total of some lines (R146). -/
def saleTotal (lines : List SaleLine) : Nat := saturating Config.maxTotal (lines.map (·.amount)).sum

/-- The total volume of the context's channels in cl (R20, R24). -/
def Context.totalVolume (c : Context) : Nat := (c.records.toList.map ChannelRecord.soldVolume).sum

end Sys2Proof.Machine
end

