-- ==== Sys2Proof/Machine/Layouts.lean ====
section
/-! DEFINITION. The byte layouts of section 11.6: the authorization request, the transaction record, the event record, the host frame of a reply, the dispenser-link frame; the body of the site table image (section 10.6); the retained check's CRC (R180). -/

namespace Sys2Proof.Machine

open Sys2Proof

/-- The lowest `size` bytes of a number, most significant byte first (section 11.1). -/
def bigEndian (size n : Nat) : List Byte := (List.range size).map fun i => BitVec.ofNat 8 (n / 256 ^ (size - 1 - i))

/-- A number as `size` bytes, most significant byte first (section 11.1). A value that does not fit is left open: notes/assumptions/8.md. -/
def field (size n : Nat) : List Byte := if n < 256 ^ size then bigEndian size n else Config.fieldBeyondRange size n

/-- Bytes followed by zeros up to `size` (R199). -/
def padded (size : Nat) (bs : List Byte) : List Byte := (bs ++ List.replicate size 0).take size

/-- A digit string as a count byte and a fixed field of ASCII digits (R199). -/
def digitField (size : Nat) (ds : Digits) : List Byte := field 1 ds.length ++ padded size (ds.map asciiOf)

/-- An optional number whose range begins at 1: 0 when absent (R199). -/
def optionalByte {n : Nat} (x : Option (Fin n)) : List Byte := field 1 ((x.map numberOf).getD 0)

/-- One prompt entry of 12 bytes (section 11.6). -/
def entryField (e : PromptKind × Digits) : List Byte := field 1 (promptCode e.1) ++ digitField 10 e.2

/-- The prompt entry count and the four entries (section 11.6). The bytes of the entries beyond the count are 0: PRESUMED, notes/assumptions/36.md. -/
def entriesField (es : List (PromptKind × Digits)) : List Byte :=
  field 1 es.length ++ padded 48 (es.flatMap entryField)

/-- The year less 2000, month, day, hour, minute, second (R199). -/
def timeField (t : DateTime) : List Byte :=
  field 1 (t.year - 2000) ++ field 1 t.month ++ field 1 t.day ++ field 1 t.hour ++ field 1 t.minute ++ field 1 t.second

/-- The authorization request's 86 bytes (section 11.6). -/
def AuthRequest.bytes (r : AuthRequest) : List Byte :=
  field 4 r.transaction ++ field 1 (numberOf r.context) ++ optionalByte r.terminal ++ optionalByte r.lane ++
    digitField 19 r.card.number ++ field 1 r.card.year ++ field 1 r.card.month ++ optionalByte r.program ++
    entriesField r.entries ++ field 4 r.amount ++ [r.products] ++ field 2 r.age

/-- One sale line of 13 bytes (section 11.6). -/
def SaleLine.bytes (l : SaleLine) : List Byte :=
  field 1 (numberOf l.product) ++ field 4 l.volume ++ field 4 l.price ++ field 4 l.amount

/-- The approval code length and its eight characters (section 11.6). The characters beyond the length are 0: PRESUMED, notes/assumptions/36.md. -/
def codeField (code : Option (List Byte)) : List Byte :=
  field 1 (code.getD []).length ++ padded 8 (code.getD [])

/-- The transaction record's 157 bytes (section 11.6). The bytes of the sale lines beyond the count are 0: PRESUMED, notes/assumptions/36.md. -/
def Record.bytes (r : Record) : List Byte :=
  field 4 r.transaction ++ field 1 r.kind.code ++ optionalByte r.terminal ++ optionalByte r.lane ++
    optionalByte r.program ++ digitField 19 r.card.number ++ field 1 r.card.year ++ field 1 r.card.month ++
    entriesField r.entries ++ field 1 ((r.source.map DecisionSource.code).getD 0) ++ field 4 r.approved ++
    codeField r.code ++ field 1 r.lines.length ++ padded 39 (r.lines.flatMap SaleLine.bytes) ++ field 4 r.total ++
    field 4 r.excess ++ field 2 r.flags.word ++ field 1 ((r.reason.map Reason.code).getD 0) ++
    timeField r.started.time ++ timeField r.ended.time ++
    field 1 (flagBit r.started.valid 1 + flagBit r.ended.valid 2)

/-- An event's subject type and number (section 11.6). -/
def Subject.bytes : Subject → List Byte
  | .nothing => [0, 0]
  | .lane l => 1 :: field 1 (numberOf l)
  | .head h => 2 :: field 1 (numberOf h)
  | .terminal t => 3 :: field 1 (numberOf t)

/-- The event record's 16 bytes (section 11.6). -/
def Event.bytes (e : Event) : List Byte :=
  field 1 e.kind.code ++ field 1 e.level ++ e.subject.bytes ++ field 4 e.detail ++ field 1 e.count ++
    timeField e.time.time ++ field 1 (flagBit e.time.valid 1)

/-- The bytes of a reply after its class and reason, for the replies the handbook lays out (R200); none for those it describes by named fields only (section 0.5). The count of records left and the count of events left, whose size R200 does not give, are one byte each: PRESUMED, notes/assumptions/36.md. -/
def Contents.bytes : Contents → Option (List Byte)
  | .nothing => some []
  | .authRequest none => some [0]
  | .authRequest (some r) => some (1 :: r.bytes)
  | .record none n => some (0 :: field 1 n)
  | .record (some r) n => some (1 :: (field 1 n ++ r.bytes))
  | .event none n d => some (0 :: (field 1 n ++ field 2 d))
  | .event (some e) n d => some (1 :: (field 1 n ++ field 2 d ++ e.bytes))
  | _ => none

/-- A reply's body (R196). -/
def Reply.bytes (r : Reply) : Option (List Byte) :=
  r.contents.bytes.map fun b => field 1 r.cls.code ++ field 1 r.reason.code ++ b

/-- A host frame: start, length, code, tag, body and check (section 11.6). -/
def hostFrameBytes (code tag : Byte) (body : List Byte) : List Byte :=
  let covered := field 2 (body.length + 2) ++ code :: tag :: body
  0xA5 :: (covered ++ [highByte (crc16 covered), lowByte (crc16 covered)])

/-- The frame an answer is sent as. -/
def Answer.bytes (a : Answer) : Option (List Byte) := a.reply.bytes.map (hostFrameBytes a.code a.tag)

/-! ### The dispenser-link frame -/

/-- The kind of exchange a command makes. -/
def Payload.kind : Payload → ExchangeKind
  | .zero _ _ => .zero
  | .limit _ _ => .limit
  | .openValve => .openValve
  | .release _ => .release
  | .close _ _ => .close
  | .final => .final

/-- Frame kinds 1..7 (section 11.6). -/
def ExchangeKind.code : ExchangeKind → Nat
  | .poll => 1
  | .zero => 2
  | .limit => 3
  | .openValve => 4
  | .release => 5
  | .close => 6
  | .final => 7

/-- Head channel numbers. -/
def headChannelNumber : HeadChannel → Nat
  | .one => 1
  | .two => 2

/-- What follows the head channel in a command's frame (section 11.6). -/
def Payload.bytes : Payload → List Byte
  | .zero price _ => field 4 price
  | .limit p _ => field 4 p.stop ++ field 4 p.slow
  | .release p => field 4 p.stop ++ field 4 p.slow
  | _ => []

/-- The byte that makes the 8-bit sum of a frame zero (section 11.6). -/
def sumCheck (bs : List Byte) : Byte := - bs.foldl (· + ·) 0

/-- A dispenser-link frame (section 11.6). -/
def dispenserFrame (address kind : Nat) (body : List Byte) : List Byte :=
  let bs := field 1 address ++ field 1 kind ++ field 1 body.length ++ body
  bs ++ [sumCheck bs]

/-- The frame of an exchange with a head. -/
def Exchange.bytes (x : Exchange) : List Byte :=
  match x.command with
  | none => dispenserFrame (numberOf x.head) ExchangeKind.poll.code []
  | some c => dispenserFrame (numberOf x.head) c.payload.kind.code (field 1 (headChannelNumber c.headChannel) ++ c.payload.bytes)

/-- HALT ALL, sent to address 0 (section 11.6). -/
def haltAllBytes : List Byte := dispenserFrame 0 8 []

/-- What the dispenser link is sending, as bytes. -/
def DispenserLine.bytes : DispenserLine → Option (List Byte)
  | .sending x => some x.bytes
  | .haltAll _ => some haltAllBytes
  | _ => none

/-! ### The site table image (section 10.6) -/

/-- The length of the image's body: 7,892 bytes (section 10.6). -/
def imageLength : BitVec 16 := 7892

/-- A RANGE entry in its 12 bytes (section 11.3); the order of its fields and the code of EXCLUDED are notes/assumptions/10.md. -/
def rangeBytes (e : RangeEntry) : List Byte :=
  BitVec.ofNat 8 e.length :: padded 10 e.digits ++ [match e.target with
    | .program n => n
    | .excluded => Config.excludedCode]

/-- Program kind codes 0..3 (section 11.5). -/
def ProgramKind.code : ProgramKind → Byte
  | .unused => 0
  | .fleet => 1
  | .bank => 2
  | .site => 3

/-- A program's fields as LOAD TABLE carries them (section 2.5, R199). -/
def Program.fields (p : Program) : ProgramFields :=
  { kind := p.kind.code, prompts := p.prompts.map fun k => BitVec.ofNat 8 (promptCode k), permitted := p.permitted,
    requested := BitVec.ofNat 32 p.requested,
    limits := BitVec.ofNat 8 (flagBit p.dieselLimit.isSome 1 + flagBit p.defLimit.isSome 2),
    dieselLimit := BitVec.ofNat 32 (p.dieselLimit.getD 0), defLimit := BitVec.ofNat 32 (p.defLimit.getD 0),
    standIn := p.standIn, standInAmount := BitVec.ofNat 32 p.standInAmount, standInUses := BitVec.ofNat 8 p.standInUses }

/-- A PROGRAM entry in its 29 bytes, whose layout is open (notes/assumptions/10.md). -/
def Program.bytes (p : Program) : List Byte := (List.finRange 29).map (Config.programByte p.fields)

/-- A DENY entry in its 20 bytes: a digit string (R199). -/
def denyBytes (ds : Digits) : List Byte := BitVec.ofNat 8 ds.length :: padded 19 (ds.map asciiOf)

/-- Product class codes 1 and 2 (section 11.5). -/
def ProductClass.code : ProductClass → Byte
  | .diesel => 1
  | .exhaustFluid => 2

/-- A PRODUCT entry in its 5 bytes: class and site price. -/
def ProductEntry.bytes (e : ProductEntry) : List Byte := e.cls.code :: bigEndian 4 e.price

/-- A yes-or-no byte. -/
def yesByte (b : Bool) : Byte := if b then 1 else 0

/-- A channel's six bytes of SET LANE; an absent channel's fields are 0 (sections 6.2 and 11.3). -/
def setupBytes (x : Option ChannelSetup) : List Byte :=
  match x with
  | none => List.replicate 6 0
  | some z =>
    [1, BitVec.ofNat 8 (numberOf z.head), BitVec.ofNat 8 (headChannelNumber z.headChannel), BitVec.ofNat 8 (numberOf z.product)] ++
      bigEndian 2 z.k

/-- A lane configuration as the body of a SET LANE without its lane byte: 20 bytes (section 10.6). -/
def LaneConfig.bytes (c : LaneConfig) : List Byte :=
  [yesByte c.isOpen, BitVec.ofNat 8 ((c.terminal.map numberOf).getD 0)] ++ setupBytes c.channels.a ++ setupBytes c.channels.b ++
    setupBytes c.channels.c

/-- The body of the image: the four tables whole, the twelve lane configurations, the fourteen site parameters (section 10.6). -/
def SiteImage.bytes (x : SiteImage) : List Byte :=
  x.ranges.items.flatMap rangeBytes ++ x.programs.items.flatMap Program.bytes ++ x.deny.items.flatMap denyBytes ++
    x.products.items.flatMap ProductEntry.bytes ++ x.lanes.items.flatMap LaneConfig.bytes ++ x.params.items.flatMap (bigEndian 2)

/-! ### The retained check (R180) -/

/-- What the retained check is taken over: the retained contents without the clock's running reading, and without the check itself (R180). The clock's valid mark is among them, and R188 may clear it after the check was written: notes/assumptions/54.md. -/
def Retained.covered (r : Retained) : Retained := { r with clock := .first, clockTenths := 0, check := 0 }

end Sys2Proof.Machine

/-- FREE VALUE. The bytes of the retained contents, in the order in which the check takes them: the handbook gives no layout of the Retained Domain (notes/assumptions/5.md). -/
opaque Sys2Proof.Config.retainedBytes : Sys2Proof.Machine.Retained → List Sys2Proof.Byte

namespace Sys2Proof.Machine

/-- The CRC-16 of the retained contents (R180). -/
def Retained.crc (r : Retained) : BitVec 16 := crc16 (Config.retainedBytes r.covered)

/-- The retained check written (R180). -/
def Retained.writeCheck (r : Retained) : Retained := { r with check := r.crc }

/-- The retained check matches the retained contents (R182), as they stand at the start: a valid mark that the clock has cleared since the check was written counts as cleared (DEDUCED, notes/assumptions/54.md). -/
def Retained.matches (r : Retained) : Bool := decide (r.check = r.crc)

/-- The retained contents after a loss of main power that came without PFAIL: the check no longer matches them (R180). One that did gives way to its complement, whose value is a DESIGN CHOICE: notes/assumptions/5.md. -/
def Retained.unmatched (r : Retained) : Retained := { r with check := if r.check = r.crc then ~~~r.check else r.check }

end Sys2Proof.Machine
end

