-- ==== Sys2Proof/Machine/Prices.lean ====
section
/-! DEFINITION. Prices and their adoption lane by lane (R147 to R149). -/

namespace Sys2Proof.Machine

open Sys2Proof

/-- The newest price of a product: its pending price where it has one, its site price otherwise (R147). -/
def ProductEntry.newest (e : ProductEntry) : Nat := e.pending.getD e.price

/-- The newest price of every product. -/
def PriceUnit.newestPrices (u : PriceUnit) : Tab 8 Nat := u.products.map ProductEntry.newest

/-- The class of a product, as the product table gives it. -/
def State.productClass (s : State) (p : Product) : ProductClass := (s.lau.products.get p).cls

/-- A lane takes the newest prices, leaves the adoption list and has PRICE ADOPTED queued (R148). -/
def State.adopt (s : State) (l : LaneId) : State :=
  let s := s.modLane l fun x => { x with prices := s.lau.newestPrices }
  let s := { s with lau := { s.lau with adoption := s.lau.adoption.set l false } }
  s.queueEvent .priceAdopted (.lane l) 0

/-- A product entry whose pending price has become its site price (R149). -/
def ProductEntry.settle (e : ProductEntry) : ProductEntry := { e with price := e.newest, pending := none }

/-- Pending prices become site prices when the adoption list is empty (R149). -/
def State.settlePrices (s : State) : State :=
  if s.lau.adoption.items.all (!·) then
    { s with lau := { s.lau with products := s.lau.products.map ProductEntry.settle } }
  else s

/-- A lane that stands in the adoption list adopts, when the DCU asks (R148, R149). -/
def State.adoptIfListed (s : State) (l : LaneId) : State :=
  if s.lau.adoption.get l then (s.adopt l).settlePrices else s

/-- The lanes in the adoption list. -/
def State.adoptingCount (s : State) : Nat := (s.lau.adoption.items.filter id).length

end Sys2Proof.Machine
end

