-- ==== Sys2Proof/Machine/Terminals.lean ====
section
/-! DEFINITION. Island terminals (chapter 4): modes, messages, polls, and terminals coming ONLINE. -/

namespace Sys2Proof.Machine

open Sys2Proof

/-! ### Modes (R71, R77) -/

/-- IDLE with WELCOME; every other field of the mode at rest (R72). -/
def Terminal.toIdle (x : Terminal) : Terminal :=
  { x with mode := .idle, current := none, attempts := 0, display := .welcome, displayTimer := none, interjection := none }

/-- SHOW with a message, its display timer started (R71, R72). -/
def Terminal.enterShow (x : Terminal) (m : Message) (time : Nat) : Terminal :=
  { x with mode := .shown, current := none, attempts := 0, display := m, displayTimer := some (.start time), interjection := none }

/-- The display of a prompt (R71). -/
def promptDisplay : PromptKind → Message
  | .lane => .selectLane
  | k => .enter k

/-- PROMPT with a new prompt (R75, R77). -/
def Terminal.enterPrompt (x : Terminal) (k : PromptKind) : Terminal :=
  { x with mode := .prompt, current := some k, attempts := 0, display := promptDisplay k, displayTimer := none, interjection := none }

/-- WAIT with AUTHORIZING (R77). -/
def Terminal.enterWait (x : Terminal) : Terminal :=
  { x with mode := .wait, current := none, attempts := 0, display := .authorizing, displayTimer := none, interjection := none }

/-- An interjection, its timer started; it replaces any other (R71). -/
def Terminal.interject (x : Terminal) (m : Message) (time : Nat) : Terminal :=
  { x with interjection := some (m, .start time) }

/-- Terminal `t` in SHOW with a message for the display time. -/
def State.showOn (s : State) (t : TerminalId) (m : Message) : State := s.modTerm t fun x => x.enterShow m s.displayTime

/-- An interjection on terminal `t` for the display time. -/
def State.interjectOn (s : State) (t : TerminalId) (m : Message) : State :=
  s.modTerm t fun x => x.interject m s.displayTime

/-- The terminal a context holds. -/
def Context.heldTerminal (c : Context) : Option TerminalId := if c.held then c.terminal else none

/-- A message to a context's terminal on behalf of a context that may not hold it: it reaches an ONLINE terminal that is IDLE, or in SHOW with no held context, and is dropped otherwise (R77). -/
def State.tellFreely (s : State) (t : TerminalId) (m : Message) : State :=
  let x := s.term t
  if x.online && (decide (x.mode = .idle) || (decide (x.mode = .shown) && (s.heldContext t).isNone)) then s.showOn t m
  else s

/-- PRODUCT NOT ALLOWED or LIMIT REACHED for a context (R77). -/
def State.tell (s : State) (i : ContextId) (m : Message) : State :=
  match (s.ctx i).terminal with
  | some t => if (s.ctx i).held then s.showOn t m else s.tellFreely t m
  | none => s

/-! ### The terminal link (R65, R66) -/

/-- What a terminal is to show: WELCOME in OFFLINE mode, else its interjection when it has one, else its mode's display (R65). -/
def Terminal.shows (x : Terminal) : Message :=
  match x.mode with
  | .offline => .welcome
  | _ => (x.interjection.map (·.1)).getD x.display

/-- The poll of a terminal (R65). -/
def State.pollOf (s : State) (t : TerminalId) : TerminalPoll := ⟨t, (s.term t).lastTaken, (s.term t).shows⟩

/-- An OFFLINE terminal due for a poll (R66). -/
def Terminal.due (x : Terminal) : Bool := !x.online && decide (x.offlinePoll = .expired)

/-- A poll of an OFFLINE terminal begun: its timer started at 2.0 s (R66). -/
def State.pollOffline (s : State) (t : TerminalId) : State :=
  let s := s.modTerm t fun x => { x with offlinePoll := .running (.start Config.offlinePollTime) }
  { s with tlu := { s.tlu with lastOffline := t, line := .sending (s.pollOf t) } }

/-- A poll of an ONLINE terminal begun (R66). -/
def State.pollOnline (s : State) (t : TerminalId) : State :=
  { s with tlu := { s.tlu with lastOnline := t, line := .sending (s.pollOf t) } }

/-- The next exchange on the terminal link, when it is free (R66). -/
def State.chooseTerminal (s : State) : State :=
  if s.tlu.line ≠ .quiet then s
  else
    match (rotateFrom s.tlu.lastOffline).find? (fun t => (s.term t).due) with
    | some t => s.pollOffline t
    | none =>
      match (rotateFrom s.tlu.lastOnline).find? (fun t => (s.term t).online) with
      | some t => s.pollOnline t
      | none => s

/-- The terminal whose reply window is open. -/
def TerminalLine.awaits : TerminalLine → Option TerminalId
  | .window p => some p.terminal
  | _ => none

/-- A valid reply: the window closes, the failure count is 0, and an OFFLINE terminal comes ONLINE in IDLE mode (R68, R69). -/
def State.validReply (s : State) (t : TerminalId) : State :=
  let s := s.setTermLine .quiet
  if (s.term t).online then s.modTerm t fun x => { x with failures := 0 }
  else
    let s := s.modTerm t fun x => { x.toIdle with online := true, failures := 0, offlinePoll := .stopped }
    s.queueEvent .terminalOnline (.terminal t) 0

/-- A reply from terminal `t` taken while its window is open, by `act`; the link then chooses again. A reply at any other moment is discarded (R65). -/
def State.takeReply (s : State) (t : TerminalId) (act : State → State) : State :=
  if s.working && decide (s.tlu.line.awaits = some t) then (act (s.validReply t)).chooseTerminal else s

/-- An item with its sequence bit: a repeat is not acted on again (R70). -/
def State.takeItem (s : State) (t : TerminalId) (seq : Bool) (act : State → State) : State :=
  if (s.term t).lastTaken = some seq then s
  else act (s.modTerm t fun x => { x with lastTaken := some seq })

/-- The byte errors of a reply on the terminal's counters (R67). -/
def Terminal.addErrors (x : Terminal) (e : ByteErrors) : Terminal :=
  { x with parity := saturating 65535 (x.parity + e.parity), framing := saturating 65535 (x.framing + e.framing),
           overrun := saturating 65535 (x.overrun + e.overrun) }

/-- A terminal gone OFFLINE (R68). -/
def Terminal.goOffline (x : Terminal) : Terminal :=
  { x with online := false, failures := 0, offlinePoll := .running (.start Config.offlinePollTime), lastTaken := none,
           mode := .offline, current := none, attempts := 0, display := .welcome, displayTimer := none, interjection := none }

end Sys2Proof.Machine
end

