-- ==== Sys2Proof/Machine/Contexts.lean ====
section
/-! DEFINITION. The Transaction Manager (chapter 1): binding, unbinding, closing, approval, decline and cancellation. -/

namespace Sys2Proof.Machine

open Sys2Proof

/-! ### Small changes to a context -/

/-- The reason of the first decline, cancellation or stop stands (R8). -/
def Context.withReason (c : Context) (r : Reason) : Context := { c with reason := some (c.reason.getD r) }

/-- The FAULT flag set (R7). -/
def Context.flagFault (c : Context) : Context := { c with flags := { c.flags with fault := true } }

/-- The LOCKOUT flag set (R7). -/
def Context.flagLockout (c : Context) : Context := { c with flags := { c.flags with lockout := true } }

/-- The ALL STOP flag set (R7). -/
def Context.flagAllStop (c : Context) : Context := { c with flags := { c.flags with allStop := true } }

/-- The LATE DECLINE flag set (R7). -/
def Context.flagLateDecline (c : Context) : Context := { c with flags := { c.flags with lateDecline := true } }

/-- The OVER LIMIT flag set (R7, R146). -/
def Context.flagOverLimit (c : Context) : Context := { c with flags := { c.flags with overLimit := true } }

/-- The METER MISMATCH flag set (R7, R99). -/
def Context.flagMismatch (c : Context) : Context := { c with flags := { c.flags with meterMismatch := true } }

/-- The METER ESTIMATED flag set (R7, R187). -/
def Context.flagEstimated (c : Context) : Context := { c with flags := { c.flags with meterEstimated := true } }

/-- The states in which a stop or cancellation closes a context at once: PROMPTING, OFFERED, TAKEN, ARMED with no channel past IDLE (R22). -/
def Context.cancellable (c : Context) : Bool :=
  match c.state with
  | .prompting | .offered | .taken => true
  | .armed => !c.anyPastIdle
  | _ => false

/-- The states in which a stop moves a context to STOPPING (R21). -/
def Context.stoppable (c : Context) : Bool :=
  match c.state with
  | .armed => c.anyPastIdle
  | .delivering | .ending => true
  | _ => false

/-! ### Binding (R10, R11) -/

/-- The lane's prices captured and fresh channel records made (R10, R11, R107). -/
def Context.bindTo (c : Context) (l : LaneId) (x : Lane) : Context :=
  { c with lane := some l, prices := some x.prices, allocation := .clear,
           channels := some (x.config.channels.map ChannelRecord.atBinding) }

/-- A context bound to a lane, which becomes IN USE (R10, R106). -/
def State.bindLane (s : State) (i : ContextId) (l : LaneId) : State :=
  (s.modCtx i fun c => c.bindTo l (s.lane l)).modLane l fun x => { x with state := .inUse }

/-- Some present channel of the context draws a product. -/
def Context.draws (c : Context) (p : Product) : Bool :=
  c.anyChannel fun r => r.setup.any fun x => decide (x.product = p)

/-- The products of a predicate as a set (R199). -/
def setOf (f : Product → Bool) : ProductSet := BitVec.ofNat 8 ((List.finRange 8).map fun p => if f p then 2 ^ p.val else 0).sum

/-- The requested product set of a bound, screened context (R11). -/
def Context.requestable (c : Context) : ProductSet :=
  setOf fun p => inSet p ((c.copy.map (·.permitted)).getD 0) && c.draws p && decide (0 < c.price p)

/-! ### Unbinding (R106, R128) -/

/-- The state of a lane that nothing holds: IDLE when its open flag is set and the load is over, CLOSED otherwise (R106, R128). -/
def State.freeLaneState (s : State) (l : LaneId) : LaneState :=
  if (s.lane l).config.isOpen && decide (s.til.load ≠ .loading) then .idle else .closed

/-- Every present channel's quiet count is 2 (R128, R131). -/
def State.laneQuiet (s : State) (l : LaneId) : Bool :=
  Channel.letters.all fun ch => (s.setup l ch).isNone || decide (((s.lane l).channels.get ch).quiet = 2)

/-- The fault closes and fault settle timers of a lane at rest (R128). -/
def Lane.clearFault (x : Lane) : Lane :=
  { x with fault := none, channels := x.channels.map fun y => { y with faultClose := .none, faultSettle := none } }

/-- The end of FAULT STOP, where both its conditions hold (R128). In LOADING the table configuration is empty, so a lane in FAULT STOP whose recovering context is freed has no present channel left and its FAULT STOP ends at once: DEDUCED, notes/assumptions/18.md. -/
def State.testFaultStop (s : State) (l : LaneId) : State :=
  if decide ((s.lane l).state = .faultStop) && (s.bound l).isNone && s.laneQuiet l then
    (s.modLane l fun x => { x.clearFault with state := s.freeLaneState l }).adoptIfListed l
  else s

/-- The lane LOCKED, its lock held in the Retained Domain and its cut line asserted (R129, R162, R187). -/
def State.lockLane (s : State) (l : LaneId) : State :=
  let s := s.modLane l fun x =>
    { x with state := .locked, channels := x.channels.map fun y => { y with faultClose := .none, faultSettle := none } }
  { s with rd := { s.rd with locks := s.rd.locks.set l true }, scc := { s.scc with cut := s.scc.cut.set l true } }

/-- The lane's part of unbinding: an IN USE lane becomes IDLE or CLOSED, another stays (R106). -/
def State.releaseLane (s : State) (l : LaneId) : State :=
  if (s.lane l).state = .inUse then s.modLane l fun x => { x with state := s.freeLaneState l } else s

/-! ### Closing (R24) -/

/-- The path that closes a context (R24 step 1): SALE or NO SALE by total volume, or a kind given. -/
inductive ClosePath where
  | byVolume
  | kind (k : RecordKind)
deriving DecidableEq, Repr

/-- The record kind of a path (R24 step 1). -/
def Context.recordKind (c : Context) : ClosePath → RecordKind
  | .kind k => k
  | .byVolume => if 0 < c.totalVolume then .sale else .noSale

/-- The lines of a record: only a SALE carries any (R145, R166). -/
def Context.recordLines (c : Context) (k : RecordKind) : List SaleLine := if k = .sale then c.saleLines else []

/-- A card number of more than 19 digits is carried as its first 19 (R166). -/
def CardData.recorded (d : CardData) : CardData := { d with number := d.number.take 19 }

/-- The record built from a context's fields (R166). -/
def Context.toRecord (c : Context) (k : RecordKind) (now : Stamp) : Record :=
  let lines := c.recordLines k
  { transaction := c.transaction, kind := k, terminal := c.terminal, lane := c.lane, program := c.program,
    card := c.card.recorded, entries := c.entries, source := c.source, approved := c.approved,
    code := c.approval.bind (·.code), lines := lines, total := saleTotal lines,
    excess := saleTotal lines - c.approved, flags := c.flags, reason := c.reason, started := c.started, ended := now }

/-- The sale total of a closing exceeds the approved amount (R146). -/
def Context.overApproved (c : Context) (k : RecordKind) : Bool :=
  decide (c.approved < saleTotal (c.recordLines k))

/-- What an event about a context's lane is about. -/
def laneSubject : Option LaneId → Subject
  | some l => .lane l
  | none => .nothing

/-- The closing message of a DECLINE or CANCEL record (R24 step 6, R78). -/
def closingMessage (k : RecordKind) (r : Option Reason) : Option Message :=
  match k, r with
  | .decline, some .cardNotAccepted => some .cardNotAccepted
  | .decline, some x => some (.declined x)
  | .cancel, _ => some .cancelled
  | _, _ => none

/-- Context `i` cleared, FREE, at the tail of the free list and out of the request list (R24 steps 4 and 7). -/
def State.freeContext (s : State) (i : ContextId) : State :=
  { s with rd := { s.rd with contexts := s.rd.contexts.set i .cleared, freeList := s.rd.freeList ++ [i] }
           ae := { s.ae with requests := s.ae.requests.filter fun j => decide (j ≠ i) } }

/-- Steps 1 to 3 of closing: the OVER LIMIT flag and event, the record appended (R24, R146). -/
def State.writeRecord (s : State) (i : ContextId) (path : ClosePath) : State :=
  let k := (s.ctx i).recordKind path
  let s := if (s.ctx i).overApproved k then
      (s.modCtx i Context.flagOverLimit).queueEvent .overLimit (laneSubject (s.ctx i).lane) 0
    else s
  s.appendRecord ((s.ctx i).toRecord k s.stamp)

/-- Step 5 of closing, the context being free: the lane's state, a lock where the closing gives one, adoption, and the end of FAULT STOP (R24, R106, R128, R187). -/
def State.unbind (s : State) (lane : Option LaneId) (lock : Bool) : State :=
  match lane with
  | none => s
  | some l =>
    let s := if lock then (s.lockLane l).queueEvent .laneLockout (.lane l) recoveryExpiredCode else s.releaseLane l
    (s.adoptIfListed l).testFaultStop l

/-- Step 6 of closing: a held terminal shows the closing message of a DECLINE or CANCEL (R24, R78). -/
def State.sayClosing (s : State) (t : Option TerminalId) (m : Option Message) : State :=
  match t, m with
  | some t, some m => s.showOn t m
  | _, _ => s

/-- Closing a context (R24). `lock` is set where its lane becomes LOCKED at unbinding (R187). Steps 4 and 7 are made before step 5, so that the lane has no bound context when its FAULT STOP is tested; ATTN is tested afresh after them (R175). -/
def State.closeContext (s : State) (i : ContextId) (path : ClosePath) (lock : Bool) : State :=
  let s := s.writeRecord i path
  let c := s.ctx i
  let s := ((s.freeContext i).testAttn.unbind c.lane lock)
  s.sayClosing c.heldTerminal (closingMessage (c.recordKind path) c.reason)

/-- A decline: the reason, and a DECLINE record (R9, R11, R14). -/
def State.decline (s : State) (i : ContextId) (r : Reason) : State :=
  (s.modCtx i fun c => c.withReason r).closeContext i (.kind .decline) false

/-- A decline by a decision, which writes its source (R14, R55, R58). -/
def State.declineBy (s : State) (i : ContextId) (source : DecisionSource) (r : Reason) : State :=
  (s.modCtx i fun c => { c with source := some source }).decline i r

/-- A cancellation: the reason, and a CANCEL record (R13, R15, R18). -/
def State.cancel (s : State) (i : ContextId) (r : Reason) : State :=
  (s.modCtx i fun c => c.withReason r).closeContext i (.kind .cancel) false

/-! ### Approval (R16) -/

/-- A context ARMED by an approval (R16). -/
def Context.arm (c : Context) (source : DecisionSource) (a : Approval) (time : Nat) : Context :=
  { c with state := .armed, source := some source, approval := some a, deadline := some (.start time) }

/-- LIFT NOZZLE with the lane, for a context that holds its terminal (R16). -/
def State.sayLift (s : State) (i : ContextId) : State :=
  match (s.ctx i).heldTerminal, (s.ctx i).lane with
  | some t, some l => s.showOn t (.liftNozzle l)
  | _, _ => s

/-- An approval: the decision is written, the arm timer started, the request list left, LIFT NOZZLE shown (R16). -/
def State.approve (s : State) (i : ContextId) (source : DecisionSource) (a : Approval) : State :=
  let s := s.modCtx i fun c => c.arm source a s.armTime
  let s := { s with ae := { s.ae with requests := s.ae.requests.filter fun j => decide (j ≠ i) } }
  (s.sayLift i).testAttn

/-! ### Tests that end a context (R20, R21, R187) -/

/-- No unused permitted channel that is not REFUSED remains (R17, R20). -/
def Context.exhausted (c : Context) : Bool := !c.anyChannel c.mayRelease

/-- ENDING's closing conditions (R20). -/
def State.testEnding (s : State) (i : ContextId) : State :=
  if (s.ctx i).exhausted || (s.ctx i).spent then s.closeContext i .byVolume false else s

/-- ENDING entered, its continue timer started; a continue time of 0 s closes at once (R19, R20). -/
def State.enterEnding (s : State) (i : ContextId) : State :=
  let s := s.modCtx i fun c => { c with state := .ending, deadline := some (.start s.continueTime) }
  if s.continueTime = 0 then s.closeContext i .byVolume false else s.testEnding i

/-- A used channel of the context is DONE (R19). -/
def Context.usedDone (c : Context) : Bool := c.anyChannel fun r => r.used && decide (r.state = .done)

/-- No channel awaits recovery, and none is in CLOSING or SETTLING (R187). -/
def Context.recovered (c : Context) : Bool :=
  !c.anyChannel fun r => r.awaiting || decide (r.state = .closing) || decide (r.state = .settling)

/-- ARMED after a channel change: the arm timer stops while a channel is past IDLE; when none is any longer it is restarted, or the context closes where no permitted channel is left (R17). A timer that still runs, since no channel was past IDLE before, runs on. -/
def State.changedArmed (s : State) (i : ContextId) : State :=
  let c := s.ctx i
  if c.anyPastIdle then s.modCtx i fun c => { c with deadline := none }
  else if c.exhausted then s.closeContext i (.kind .noSale) false
  else if c.deadline.isNone then s.modCtx i fun c => { c with deadline := some (.start s.armTime) }
  else s

/-- The Transaction Manager's tests after a channel change, by the context's state (R17, R19, R20, R21, R187). -/
def State.contextChanged (s : State) (i : ContextId) : State :=
  let c := s.ctx i
  match c.state with
  | .armed => s.changedArmed i
  | .delivering => if !c.anyInProgress && c.usedDone then s.enterEnding i else s
  | .ending =>
    if c.anyInProgress then s.modCtx i fun c => { c with state := .delivering, deadline := none } else s.testEnding i
  | .stopping => if c.anyInProgress then s else s.closeContext i .byVolume false
  | .recovering => if c.recovered then s.closeContext i .byVolume false else s
  | _ => s

end Sys2Proof.Machine
end

