-- ==== Sys2Proof/Machine/Screening.lean ====
section
/-! DEFINITION. Card screening (R26 to R33) and the stand-in list (R58 to R62). -/

namespace Sys2Proof.Machine

open Sys2Proof

/-! ### Card data checks (R27 to R29) -/

/-- The value of a digit in the check sum at a position counted from 1 at the right (R28). -/
def checkValue (position d : Nat) : Nat :=
  if position % 2 = 1 then d else if 9 < 2 * d then 2 * d - 9 else 2 * d

/-- The check sum of digits taken from the right, the first of them at `position` (R28). -/
def checkSum : Nat → Digits → Nat
  | _, [] => 0
  | position, d :: ds => checkValue position d.val + checkSum (position + 1) ds

/-- The check digit passes (R28). -/
def checkDigitGood (ds : Digits) : Bool := decide (checkSum 1 ds.reverse % 10 = 0)

/-- Test 1: the number's length, the expiry month and the check digit (R27, R28). -/
def CardData.formGood (d : CardData) : Bool :=
  decide (12 ≤ d.number.length ∧ d.number.length ≤ 19 ∧ 1 ≤ d.month ∧ d.month ≤ 12) && checkDigitGood d.number

/-- The card is expired at a clock reading (R29). -/
def CardData.expired (d : CardData) (now : DateTime) : Bool :=
  decide (2000 + d.year < now.year) || (decide (now.year = 2000 + d.year) && decide (d.month < now.month))

/-! ### Range lookup (R30, R31) -/

/-- The first `n` prefix digits of an entry, where all of them are decimal digits. -/
def rangeDigits (e : RangeEntry) : Option Digits := digitsOf (e.digits.take e.length)

/-- A range entry matches a card number (R30). -/
def rangeMatches (e : RangeEntry) (number : Digits) : Bool :=
  decide (e.length ≠ 0) && decide (rangeDigits e = some (number.take e.length))

/-- The matching entry of the longest prefix length, and of those the one at the lowest index (R31). -/
def bestRange (number : Digits) : List RangeEntry → Option RangeEntry
  | [] => none
  | e :: es =>
    match bestRange number es with
    | some b => if rangeMatches e number && decide (b.length ≤ e.length) then some e else some b
    | none => if rangeMatches e number then some e else none

/-- The program a target names, where its kind is not NONE (R31). -/
def CardUnit.targetProgram (u : CardUnit) : RangeTarget → Option ProgramId
  | .excluded => none
  | .program n =>
    match idOf 32 n.toNat with
    | some p => if (u.programs.get p).kind = .unused then none else some p
    | none => none

/-- Test 3: the range lookup (R31). -/
def CardUnit.lookup (u : CardUnit) (number : Digits) : Option ProgramId :=
  (bestRange number u.ranges.items).bind fun e => u.targetProgram e.target

/-- Test 4: the deny list (R32). An empty slot holds no digits. -/
def CardUnit.denied (u : CardUnit) (number : Digits) : Bool :=
  u.deny.items.any fun x => decide (x ≠ []) && decide (x = number)

/-- What screening answers: a decline reason or a program (R26). -/
inductive Screened where
  | declined (r : Reason)
  | accepted (p : ProgramId)
deriving DecidableEq, Repr

/-- The screening sequence: the first test that fails gives the reason (R26). -/
def CardUnit.screen (u : CardUnit) (d : CardData) (now : Stamp) : Screened :=
  if !d.formGood then .declined .cardInvalid
  else if now.valid && d.expired now.time then .declined .cardExpired
  else
    match u.lookup d.number with
    | none => .declined .cardNotAccepted
    | some p => if u.denied d.number then .declined .denyList else .accepted p

/-! ### The stand-in list (R60, R62) -/

/-- A card's entry in the stand-in list (R58). -/
def Retained.standInEntry (r : Retained) (card : Digits) : Option StandInEntry :=
  r.standIn.find? fun e => decide (e.card = card)

/-- The entry placed after any entry with the same or an earlier first-use time (R62). -/
def placeEntry (e : StandInEntry) : List StandInEntry → List StandInEntry
  | [] => [e]
  | x :: xs => if e.firstUse.seconds < x.firstUse.seconds then e :: x :: xs else x :: placeEntry e xs

/-- The stand-in list after an approval for a card (R62). -/
def standInAfter (list : List StandInEntry) (card : Digits) (now : DateTime) : List StandInEntry :=
  if list.any fun e => decide (e.card = card) then
    list.map fun e => if e.card = card then { e with uses := e.uses + 1 } else e
  else placeEntry ⟨card, 1, now⟩ (if list.length < Config.standInCapacity then list else list.tail)

/-- The making of an entry for a card removes another (R62). -/
def standInFull (list : List StandInEntry) (card : Digits) : Bool :=
  !(list.any fun e => decide (e.card = card)) && decide (Config.standInCapacity ≤ list.length)

/-- The uses held in a card's entry; 0 where it has none (R59). -/
def usesOf (list : List StandInEntry) (card : Digits) : Nat :=
  ((list.find? fun e => decide (e.card = card)).map (·.uses)).getD 0

/-- A stand-in approval recorded: the list, STAND-IN LIST FULL where an entry was removed, STAND-IN USED (R59, R62). -/
def State.useStandIn (s : State) (i : ContextId) : State :=
  let card := (s.ctx i).card.number
  let full := standInFull s.rd.standIn card
  let s := { s with rd := { s.rd with standIn := standInAfter s.rd.standIn card s.rd.clock } }
  let s := if full then s.queueEvent .standInListFull .nothing 0 else s
  s.queueEvent .standInUsed (laneSubject (s.ctx i).lane) (usesOf s.rd.standIn card)

end Sys2Proof.Machine
end

