-- ==== Sys2Proof/Machine/Authorization.lean ====
section
/-! DEFINITION. The Authorization Engine (chapter 3) and the path of a card from its read to its decision (R3 to R14). -/

namespace Sys2Proof.Machine

open Sys2Proof

/-! ### Decisions (R42 to R44, R58, R59) -/

/-- The approval that the program copy and the request give at an amount: the requested set, the program's limits, no code (R43, R59). -/
def Context.ownApproval (c : Context) (amount : Nat) : Approval :=
  { amount := amount, permitted := c.requestedSet.getD 0, dieselLimit := c.copy.bind (·.dieselLimit),
    defLimit := c.copy.bind (·.defLimit), code := none }

/-- The requested amount; 0 before screening. -/
def Context.requested (c : Context) : Nat := c.requestedAmount.getD 0

/-- The origins of a stand-in check (section 3.5). -/
inductive Origin where
  | atDecision | uplinkLoss | timeout
deriving DecidableEq, Repr

/-- The reason of a check refused for want of allowance or of a valid clock (R58). -/
def Origin.reason : Origin → Reason
  | .timeout => .hostTimeout
  | _ => .offline

/-- The reason a stand-in check gives, once the passed entries are removed; none where it approves (R58). -/
def State.standInRefusal (s : State) (c : Context) (o : Origin) : Option Reason :=
  match c.copy with
  | none => some o.reason
  | some p =>
    if !p.standIn then some o.reason
    else if !s.rd.clockValid then some o.reason
    else if (s.rd.standInEntry c.card.number).any fun e => decide (p.standInUses ≤ e.uses) then some .standInLimit
    else none

/-- The stand-in amount of the program copy. -/
def Context.standInAmount (c : Context) : Nat := (c.copy.map (·.standInAmount)).getD 0

/-- The stand-in check (R58, R59): every passed entry goes first. -/
def State.standInCheck (s : State) (i : ContextId) (o : Origin) : State :=
  let s := s.sweepStandIn
  match s.standInRefusal (s.ctx i) o with
  | some r => s.declineBy i .standIn r
  | none =>
    let c := s.ctx i
    (s.useStandIn i).approve i .standIn (c.ownApproval (Nat.min c.standInAmount c.requested))

/-- The context offered to the host: OFFERED, at the tail of the request list, its host decision timer started, AUTHORIZING shown (R44). -/
def State.offer (s : State) (i : ContextId) : State :=
  let s := s.modCtx i fun c => { c with state := .offered, deadline := some (.start s.hostDecisionTime) }
  let s := { s with ae := { s.ae with requests := s.ae.requests ++ [i] } }
  let s := match (s.ctx i).heldTerminal with
    | some t => s.modTerm t Terminal.enterWait
    | none => s
  s.testAttn

/-- The decision asked for (R42): the prompt timer stops first (R12). -/
def State.askDecision (s : State) (i : ContextId) : State :=
  let s := s.modCtx i fun c => { c with deadline := none }
  let c := s.ctx i
  if (c.copy.map (·.kind)) = some .site then s.approve i .site (c.ownApproval c.requested)
  else if s.ae.online then s.offer i
  else s.standInCheck i .atDecision

/-! ### Prompts (R12) -/

/-- A prompt shown to the driver, its prompt timer started (R12). -/
def State.showPrompt (s : State) (i : ContextId) (k : PromptKind) : State :=
  let s := (s.modCtx i fun c => { c with state := .prompting, deadline := some (.start s.promptTime) }).testAttn
  match (s.ctx i).heldTerminal with
  | some t => s.modTerm t fun x => x.enterPrompt k
  | none => s

/-- The program's prompts still to be run. -/
def Context.promptsLeft (c : Context) : List PromptKind := ((c.copy.map (·.prompts)).getD []).drop c.entries.length

/-- The next program prompt, or the decision (R12). -/
def State.nextStep (s : State) (i : ContextId) : State :=
  match (s.ctx i).promptsLeft with
  | k :: _ => s.showPrompt i k
  | [] => s.askDecision i

/-- The requested product set computed; an empty one declines with NO PRODUCT (R11). -/
def State.requestProducts (s : State) (i : ContextId) : State :=
  let s := s.modCtx i fun c => { c with requestedSet := some c.requestable }
  if (s.ctx i).requestable = 0 then s.decline i .noProduct else s.nextStep i

/-! ### The card arrival (R3, R4, R9) -/

/-- Conditions 5 and 6 of R3. -/
def State.roomRefusal (s : State) : Option Message :=
  if s.rd.freeList = [] then some .stationBusy
  else if Config.recordCapacity ≤ s.rd.records.length + s.inUseCount then some .stationBusy
  else none

/-- The condition of R3 that fails first, as the message it gives. -/
def State.cardRefusal (s : State) (t : TerminalId) : Option Message :=
  let lanes := s.terminalLanes t
  if s.til.load ≠ .run then some .stationClosed
  else if s.rd.latch then some .stationClosed
  else if !(lanes.any fun l => (s.lane l).config.isOpen) then some .stationClosed
  else
    match lanes with
    | [l] => if (s.lane l).state ≠ .idle then some (.laneInUse l) else s.roomRefusal
    | _ => s.roomRefusal

/-- The transaction counter advanced (R5). -/
def nextTransaction (n : Nat) : Nat := if n < Config.maxTransaction then n + 1 else 1

/-- A context allocated to a card read (R4). It is PROMPTING from here on, though the state is seen only after the first step that waits. -/
def Context.allocated (t : TerminalId) (card : CardData) (n : Nat) (now : Stamp) : Context :=
  { Context.cleared with state := .prompting, transaction := n, terminal := some t, held := true, card := card, started := now }

/-- The context at the head of the free list taken (R1, R4, R5). -/
def State.allocate (s : State) (i : ContextId) (rest : List ContextId) (t : TerminalId) (card : CardData) : State :=
  { s with rd := { s.rd with
      contexts := s.rd.contexts.set i (.allocated t card s.rd.counter s.stamp)
      freeList := rest
      counter := nextTransaction s.rd.counter } }

/-- The program fields copied into a context (R9). -/
def Context.screenedTo (c : Context) (p : ProgramId) (prog : Program) : Context :=
  { c with program := some p, copy := some prog, requestedAmount := some prog.requested }

/-- Screening, and what follows its answer (R9). -/
def State.screenCard (s : State) (i : ContextId) : State :=
  match s.csu.screen (s.ctx i).card s.stamp with
  | .declined r => s.decline i r
  | .accepted p =>
    let s := s.modCtx i fun c => c.screenedTo p (s.csu.programs.get p)
    if (s.ctx i).lane.isSome then s.requestProducts i else s.showPrompt i .lane

/-- A good card read at an IDLE terminal: refused with a message, or taken (R3, R4, R73). -/
def State.takeCard (s : State) (t : TerminalId) (card : CardData) : State :=
  match s.cardRefusal t, s.rd.freeList with
  | some m, _ => s.showOn t m
  | none, [] => s
  | none, i :: rest =>
    let lanes := s.terminalLanes t
    let s := s.allocate i rest t card
    match lanes with
    | [l] => (s.bindLane i l).screenCard i
    | _ => s.screenCard i

/-! ### Entries (R10, R12, R13, R74, R75) -/

/-- The held context of a terminal cancelled for spent attempts: reason LANE on the LANE prompt, PROMPT otherwise (R75). -/
def attemptReason : PromptKind → Reason
  | .lane => .lane
  | _ => .prompt

/-- A counted attempt: the third cancels, an earlier one sets an interjection and restarts the prompt timer (R74, R75). -/
def State.countAttempt (s : State) (i : ContextId) (t : TerminalId) (k : PromptKind) (m : Message) : State :=
  if 3 ≤ (s.term t).attempts + 1 then (s.modTerm t fun x => { x with attempts := 3 }).cancel i (attemptReason k)
  else
    let s := (s.modTerm t fun x => { x with attempts := x.attempts + 1 }).interjectOn t m
    s.modCtx i fun c => { c with deadline := some (.start s.promptTime) }

/-- A valid LANE entry: the lane is bound where it is IDLE and open, and an attempt is counted otherwise (R10). -/
def State.takeLane (s : State) (i : ContextId) (t : TerminalId) (l : LaneId) : State :=
  if (s.lane l).state = .idle ∧ (s.lane l).config.isOpen then (s.bindLane i l).requestProducts i
  else s.countAttempt i t .lane (.laneInUse l)

/-- A valid program-prompt entry: appended, and the next prompt or the decision follows (R12). -/
def State.takeEntry (s : State) (i : ContextId) (k : PromptKind) (ds : Digits) : State :=
  (s.modCtx i fun c => { c with entries := c.entries ++ [(k, ds)] }).nextStep i

/-- The lane of a terminal that a valid LANE entry names (R35). -/
def laneNamed (lanes : List LaneId) (ds : Digits) : Option LaneId := lanes.find? fun l => decide (numberOf l = valueOf ds)

/-- An entry that passed the check of its prompt kind (R74): the interjection goes first. -/
def State.takeValid (s : State) (i : ContextId) (t : TerminalId) (k : PromptKind) (ds : Digits) : State :=
  let s := s.modTerm t fun x => { x with interjection := none }
  match k, laneNamed (s.terminalLanes t) ds with
  | .lane, some l => s.takeLane i t l
  | .lane, none => s
  | k, _ => s.takeEntry i k ds

/-- An ENTRY item taken in PROMPT mode for the held context (R74). -/
def State.checkEntry (s : State) (i : ContextId) (t : TerminalId) (k : PromptKind) (chars : List Byte) : State :=
  match digitsOf chars with
  | some ds =>
    if acceptsEntry k (s.terminalLanes t) ds then s.takeValid i t k ds else s.countAttempt i t k .invalidEntry
  | none => s.countAttempt i t k .invalidEntry

/-! ### The uplink (R45, R47) -/

/-- The walk of an uplink loss over some contexts of the request list, oldest first (R47). -/
def State.walkOffered (s : State) : List ContextId → State
  | [] => s
  | i :: rest =>
    (if (s.ctx i).state = .offered then s.standInCheck i .uplinkLoss else s).walkOffered rest

/-- The uplink goes OFFLINE from ONLINE (R47). -/
def State.loseUplink (s : State) : State :=
  if s.ae.online then { s with ae := { s.ae with online := false } }.walkOffered s.ae.requests else s

end Sys2Proof.Machine
end

