-- ==== Sys2Proof/Machine/DispenserLink.lean ====
section
/-! DEFINITION. The Dispenser Link Unit (chapter 5): command lists, the arbiter, attempts, the fault capture. -/

namespace Sys2Proof.Machine

open Sys2Proof

/-- The refusals that make a command FAILED (R89). -/
inductive RefusalKind where
  | busy | bad
deriving DecidableEq, Repr

/-- What becomes of a command (R89). `accepted` carries what the reply carries, `failed` the failure kind, with BUSY or BAD where it is REFUSED; `discarded true` marks a command DISCARDED because its own head is OFFLINE (R124). -/
inductive CommandOutcome where
  | accepted (count totalizer : BitVec 32) (valve : Valve)
  | failed (kind : FailureKind) (refusal : Option RefusalKind)
  | discarded (ownHeadLost : Bool)
  | withdrawn
deriving DecidableEq, Repr

/-! ### Command lists (R91 to R93) -/

/-- The same channel: the lane and the channel letter a command was queued for (R89), not the head channel it carries. The two tell apart only a command that waits while its channel is moved: DEDUCED, notes/assumptions/40.md. -/
def Command.sameChannel (c d : Command) : Bool := decide (c.lane = d.lane) && decide (c.channel = d.channel)

/-- A command of the same kind for the same channel (R91). -/
def Command.sameKind (c d : Command) : Bool := c.sameChannel d && decide (c.payload.kind = d.payload.kind)

/-- A CLOSE. -/
def Command.isClose (c : Command) : Bool := decide (c.payload.kind = .close)

/-- A release command of R92 and R94: ZERO, LIMIT, OPEN or RELEASE. -/
def Command.releasing (c : Command) : Bool :=
  match c.payload with
  | .zero _ _ | .limit _ _ | .openValve | .release _ => true
  | _ => false

/-- An OPEN or a RELEASE. -/
def Command.opening (c : Command) : Bool :=
  match c.payload with
  | .openValve | .release _ => true
  | _ => false

/-- The commands that a joining CLOSE withdraws (R92). -/
def withdrawnBy (c : Command) (cs : List Command) : List Command := cs.filter fun d => c.sameChannel d && d.releasing

/-- A list after a command joins it or replaces its like (R91 to R93). -/
def joinList (cs : List Command) (c : Command) : List Command :=
  if cs.any c.sameKind then cs.map fun d => if c.sameKind d then c else d
  else if c.isClose then
    let rest := cs.filter fun d => !(c.sameChannel d && d.releasing)
    rest.filter Command.isClose ++ c :: rest.filter fun d => !d.isClose
  else cs ++ [c]

/-- The commands withdrawn as a command joins a list (R92). -/
def joinWithdrawn (cs : List Command) (c : Command) : List Command :=
  if cs.any c.sameKind then [] else if c.isClose then withdrawnBy c cs else []

/-- The LIMIT that a RELEASE is split into (R90). -/
def Command.splitLimit (c : Command) (p : Points) : Command := { c with payload := .limit p false }

/-- The OPEN that a RELEASE is split into (R90). -/
def Command.splitOpen (c : Command) : Command := { c with payload := .openValve }

/-- A RELEASE refused as unsupported put back as LIMIT and OPEN at the place it held, right behind the CLOSE entries; a LIMIT that joined after it gives the new LIMIT its points and is removed (R90). No OPEN for the channel stands there while its RELEASE is on the line; one that did would be the split one's like, and is not kept beside it (R91). -/
def splitBack (cs : List Command) (c : Command) (p : Points) : List Command :=
  let newer := cs.find? (c.splitLimit p).sameKind
  let limit := newer.getD (c.splitLimit p)
  let rest := cs.filter fun d => !((c.splitLimit p).sameKind d || c.splitOpen.sameKind d)
  rest.filter Command.isClose ++ limit :: c.splitOpen :: rest.filter fun d => !d.isClose

/-- The head serves a channel of a LOCKED lane (R91, R94). -/
def State.headLocked (s : State) (h : HeadId) : Bool :=
  (s.servedBy h).any fun p => decide ((s.lane p.1).state = .locked)

/-- The commands in a head's list changed. -/
def State.setCommands (s : State) (h : HeadId) (cs : List Command) : State := s.modHead h fun x => { x with commands := cs }

/-- The exchange on the dispenser link, sending or awaiting its reply, or to go on after a HALT ALL. -/
def DispenserLine.exchange : DispenserLine → Option Exchange
  | .sending x => some x
  | .window x => some x
  | .haltAll (some (x, _)) => some x
  | _ => none

/-- A LIMIT or RELEASE for a lane's channel. -/
def Command.setsPoints (c : Command) (l : LaneId) (ch : Channel) : Bool :=
  decide (c.lane = l) && decide (c.channel = ch) &&
    (decide (c.payload.kind = .limit) || decide (c.payload.kind = .release))

/-- The command on the line. -/
def State.lineCommand (s : State) : Option Command := s.dlu.line.exchange.bind (·.command)

/-- The pending-limit flag of a lane's channel (R107, R108): a LIMIT or RELEASE for it is queued or on the line, be it an earlier transaction's: DEDUCED, notes/assumptions/42.md. -/
def State.pendingLimit (s : State) (l : LaneId) (ch : Channel) : Bool :=
  s.dlu.heads.items.any (fun h => h.commands.any fun c => c.setsPoints l ch) ||
    s.lineCommand.any fun c => c.setsPoints l ch

/-! ### Heads (R80, R81, R85) -/

/-- A head is active (R81). -/
def State.headActive (s : State) (h : HeadId) : Bool :=
  (s.servedBy h).any fun p =>
    decide ((s.lane p.1).state = .faultStop) || decide ((s.lane p.1).state = .locked) ||
      (s.laneRecord p.1 p.2).any fun x => x.2.state.pastIdle

/-- A head due for a poll (R96). -/
def Head.due (x : Head) : Bool := x.online || decide (x.offlinePoll = .expired)

/-- An ONLINE head that has failed its last exchange but not its limit (R85). -/
def Head.failOnce (x : Head) : Head := { x with failures := x.failures + 1, failedTotal := countUp x.failedTotal }

/-- A head gone OFFLINE, but for its command list (R85 steps 3 and 4). -/
def Head.goOffline (x : Head) : Head :=
  { x with online := false, singleFrame := false, last := ⟨none, none⟩, totalizer := ⟨none, none⟩, failures := 0,
           offlinePoll := .running (.start Config.offlinePollTime) }

/-! ### The arbiter (R95, R96) -/

/-- The link retry count read at the start of an exchange; a single attempt with an OFFLINE head (R84). -/
def State.retriesFor (s : State) (h : HeadId) : Nat := if (s.head h).online then s.retryCount else 0

/-- The first head in rotation after the command position with a property (R95). A head that serves a LOCKED lane is sent no command (R94); what its list holds waits for the end of the lock: DEDUCED, notes/assumptions/22.md. -/
def State.nextCommandHead (s : State) (p : Head → Bool) : Option HeadId :=
  (rotateFrom s.dlu.commandPos).find? fun h => !s.headLocked h && p (s.head h)

/-- The entry at the head of a head's list put on the line (R93, R95). -/
def State.serve (s : State) (h : HeadId) (c : Command) (rest : List Command) (run : Nat) : State :=
  let s := s.setCommands h rest
  { s with dlu := { s.dlu with
      commandPos := h, runCount := run, cutByStop := false, cutByLock := false, line := .sending ⟨h, some c, s.retriesFor h⟩ } }

/-- A head polled: its poll begins an exchange, and starts the timer of an OFFLINE head (R86, R96). -/
def State.pollHead (s : State) (h : HeadId) (active : Bool) (count : Nat) : State :=
  let s := if (s.head h).online then s
    else s.modHead h fun x => { x with offlinePoll := .running (.start Config.offlinePollTime) }
  { s with dlu := { s.dlu with
      activePos := if active then h else s.dlu.activePos
      inactivePos := if active then s.dlu.inactivePos else h
      runCount := 0
      pollCount := count
      cutByStop := false
      cutByLock := false
      line := .sending ⟨h, none, s.retriesFor h⟩ } }

/-- The next due active head (R96). -/
def State.nextActive (s : State) : Option HeadId :=
  (rotateFrom s.dlu.activePos).find? fun h => (s.head h).due && s.headActive h

/-- The next due inactive head (R96). -/
def State.nextInactive (s : State) : Option HeadId :=
  (rotateFrom s.dlu.inactivePos).find? fun h => (s.head h).due && !s.headActive h

/-- Step 4 of the arbiter: the poll (R96). -/
def State.choosePoll (s : State) : State :=
  if 3 ≤ s.dlu.pollCount then
    match s.nextInactive, s.nextActive with
    | some h, _ => s.pollHead h false 0
    | none, some h => s.pollHead h true 0
    | none, none => s
  else
    match s.nextActive, s.nextInactive with
    | some h, _ => s.pollHead h true (s.dlu.pollCount + 1)
    | none, some h => s.pollHead h false 0
    | none, none => s

/-- Some ONLINE head is active (R95 step 3). -/
def State.someActive (s : State) : Bool := (List.finRange 24).any fun h => (s.head h).online && s.headActive h

/-- The head the arbiter serves with a command in steps 2 and 3, and the run count after it, which stays in 0..4 (R95, R96). -/
def State.chooseHead (s : State) : Option (HeadId × Nat) :=
  match s.nextCommandHead (fun x => x.commands.any Command.isClose) with
  | some h => some (h, s.dlu.runCount)
  | none =>
    if decide (4 ≤ s.dlu.runCount) && s.someActive then none
    else (s.nextCommandHead fun x => !x.commands.isEmpty).map fun h => (h, Nat.min 4 (s.dlu.runCount + 1))

/-- One choice of the arbiter on a free link: the state after it, and an OPEN or RELEASE removed under the all-stop latch, after which the arbiter chooses again (R95). -/
def State.choose (s : State) : State × Option Command :=
  if s.dlu.haltPending then (s.setLine (.haltAll none), none)
  else
    match s.chooseHead with
    | none => (s.choosePoll, none)
    | some (h, run) =>
      match (s.head h).commands with
      | [] => (s, none)
      | c :: rest => if s.rd.latch && c.opening then (s.setCommands h rest, some c) else (s.serve h c rest run, none)

/-! ### The fault capture (R101) -/

/-- A capturable failure taken (R101). -/
def State.captureFailure (s : State) (h : HeadId) (ch : Option HeadChannel) (k : ExchangeKind) (f : FailureKind) : State :=
  if s.dlu.capture.isSome then { s with dlu := { s.dlu with further := countUp s.dlu.further } }
  else { s with dlu := { s.dlu with capture := some ⟨h, ch, k, f, s.stamp⟩ } }.queueEvent .linkCapture (.head h) f.code

/-- The kind of an exchange. -/
def Exchange.kind (x : Exchange) : ExchangeKind := (x.command.map fun c => c.payload.kind).getD .poll

/-- The head channel of an exchange's command. -/
def Exchange.headChannel (x : Exchange) : Option HeadChannel := x.command.map (·.headChannel)

/-! ### Poll reports (R87, R88, R98) -/

/-- Count indications (R87). -/
inductive Indication where
  | changed | unchanged | noComparison
deriving DecidableEq, Repr

/-- The count indication of a report (R87). -/
def indicationOf (restarted : Bool) (last : Option LastReport) (r : ChannelReport) : Indication :=
  if restarted then .noComparison
  else
    match last with
    | none => .noComparison
    | some p => if p.low16 = r.low16 then .unchanged else .changed

/-- A report as the head table keeps it (R80). -/
def lastOf (r : ChannelReport) : LastReport := ⟨r.nozzle, r.valve, r.cause, r.zeroed, r.low16⟩

/-- A head entry after the reports of a reply (R87). -/
def Head.keepReports (x : Head) (rs : List ChannelReport) : Head :=
  { x with last := rs.foldl (fun p r => p.set r.channel (some (lastOf r))) x.last }

/-- A poll reply carries the report of every head channel that the lane configuration names (R83). -/
def State.replyComplete (s : State) (h : HeadId) (rs : List ChannelReport) : Bool :=
  (s.servedBy h).all fun p =>
    (s.setup p.1 p.2).all fun x => rs.any fun r => decide (r.channel = x.headChannel)

/-- The delta of a report against the last low-16 count (R98). -/
def countDelta (reported last : BitVec 16) : Nat := (reported - last).toNat

/-- The extended count after a delta is added (R98); past 4,294,967,295 no result is given: notes/assumptions/7.md. -/
def addCount (ext delta : Nat) : Nat :=
  if ext + delta ≤ Config.maxPoint then ext + delta else (Config.countBeyondRange ext delta).toNat

/-- A report gives METER JUMP on a channel record (R98). -/
def jumps (r : ChannelRecord) (restarted : Bool) (low16 : BitVec 16) : Bool :=
  r.state.extending && !restarted && decide (32768 ≤ countDelta low16 r.low16)

/-- Count extension (R88, R98). -/
def ChannelRecord.extend (r : ChannelRecord) (restarted : Bool) (low16 : BitVec 16) : ChannelRecord :=
  if !r.state.extending then r
  else if restarted || decide (32768 ≤ countDelta low16 r.low16) then { r with low16 := low16 }
  else { r with extended := addCount r.extended (countDelta low16 r.low16), low16 := low16 }

end Sys2Proof.Machine
end

