-- ==== Sys2Proof/Machine/Delivery.lean ====
section
/-! DEFINITION. Delivery control (chapter 6): what happens inside one command, as pieces of work taken one after another, each by its own rule. -/

namespace Sys2Proof.Machine

open Sys2Proof

/-- One report handed to the DCU for a lane's channel (R87). -/
structure Handed where
  lane : LaneId
  channel : Channel
  report : ChannelReport
  indication : Indication
  restarted : Bool
deriving DecidableEq, Repr

/-- A piece of work inside one command. Work on behalf of a context names it by number and transaction (R2). -/
inductive Work where
  /-- A command queued for a head channel (R91). -/
  | queue (c : Command)
  /-- A command's outcome reported (R89). -/
  | outcome (c : Command) (o : CommandOutcome)
  /-- The OPEN of a channel whose LIMIT failed is withdrawn (R92). -/
  | withdrawOpen (c : Command)
  /-- A lane fault found (R124). -/
  | fault (l : LaneId) (k : FaultKind)
  /-- The CLOSEs of a first fault (R127). -/
  | faultCloses (l : LaneId) (k : FaultKind)
  /-- The close of a context whose lane became LOCKED (R23). -/
  | lockoutClose (i : ContextId) (n : Nat)
  /-- An event queued (R170). -/
  | event (k : EventKind) (sub : Subject) (detail : Nat)
  /-- A context enters STOPPING; its CLOSEs carry an end cause (R21, R123). -/
  | stop (i : ContextId) (n : Nat) (cause : EndCause)
  /-- The Transaction Manager's tests after a channel change (R17, R19, R20, R21, R187). -/
  | changed (i : ContextId) (n : Nat)
  /-- A trigger of an allocation; the second kind is a DONE (R112). -/
  | trigger (i : ContextId) (n : Nat) (second : Bool)
  /-- Phase 1's test: every lowering channel has its fixed count (R114). -/
  | lowered (i : ContextId) (n : Nat)
  /-- What phase 2 gives one channel (R115). -/
  | raise (i : ContextId) (n : Nat) (ch : Channel) (share : Option Share)
  /-- The end of phase 2 (R112). -/
  | allocated (i : ContextId) (n : Nat)
  /-- All stop applied to a context (R155). -/
  | allStop (i : ContextId)
  /-- A report handed on (R87). -/
  | handed (x : Handed)
  /-- A report acted on, after the faults it shows (R109 to R121). -/
  | act (x : Handed)
  /-- The lane's own notes of a report, after it has been acted on (R109, R128). -/
  | noted (x : Handed)
  /-- A capturable failure (R101). -/
  | capture (h : HeadId) (ch : Option HeadChannel) (k : ExchangeKind) (f : FailureKind)
  /-- The list of a head that has gone OFFLINE is discarded (R85 step 2). -/
  | discardList (h : HeadId)
  /-- The rest of a head's going OFFLINE (R85, R126). -/
  | headGone (h : HeadId) (f : FailureKind)
  /-- A channel whose head has gone OFFLINE (R126). -/
  | channelLost (l : LaneId) (ch : Channel)
  /-- The arbiter chooses, if the link is free (R95). -/
  | arbitrate
deriving DecidableEq, Repr

/-- The owner of commands queued for a lane now: its bound context and transaction. -/
def State.ownerOf (s : State) (l : LaneId) : Option (ContextId × Nat) := (s.bound l).map fun i => (i, (s.ctx i).transaction)

/-- A command for a channel of context `i`, bound to its lane (R89). -/
def State.commandFor (s : State) (i : ContextId) (ch : Channel) (p : Payload) : Option Command :=
  match (s.ctx i).lane, ((s.ctx i).records.get ch).setup with
  | some l, some x => some ⟨x.head, x.headChannel, l, ch, some (i, (s.ctx i).transaction), p⟩
  | _, _ => none

/-- The queuing of a command for a channel of context `i`. -/
def State.queueFor (s : State) (i : ContextId) (ch : Channel) (p : Payload) : List Work :=
  ((s.commandFor i ch p).map Work.queue).toList

/-- The record of a command's channel, where its transaction is still active (R2, R89). -/
def State.activeRecord (s : State) (c : Command) : Option (ContextId × Nat × ChannelRecord) :=
  match c.owner with
  | some (i, n) => if s.holds i n && (s.ctx i).channels.isSome then some (i, n, (s.ctx i).records.get c.channel) else none
  | none => none

/-! ### Channel changes -/

/-- REFUSED, its end cause absent (R111). -/
def ChannelRecord.refuse (r : ChannelRecord) : ChannelRecord :=
  { r with state := .refused, points := none, endCause := none, closeQueued := none, awaiting := false }

/-- CLOSING with an end cause (R120). -/
def ChannelRecord.beginClosing (r : ChannelRecord) (cause : EndCause) : ChannelRecord :=
  { r with state := .closing, endCause := some cause, closeQueued := none, noFlow := none }

/-- Points lowered to a count (R108). -/
def Points.lowerTo (p : Points) (count : Nat) : Points := ⟨Nat.min p.stop count, Nat.min p.slow count⟩

/-- SETTLING: the points lowered to the count at closure, the settle timer started, the no-flow timer stopped (R108, R120). -/
def ChannelRecord.beginSettling (r : ChannelRecord) (count time : Nat) : ChannelRecord :=
  { r with state := .settling, points := r.points.map fun p => p.lowerTo count, noFlow := none,
           settle := some (.start time), closeQueued := none, awaiting := false }

/-- The end cause that a reported close cause gives a FLOWING channel (R120). -/
def endCauseOf : CloseCause → EndCause
  | .stopPoint => .stopPoint
  | .nozzle => .nozzle
  | .halt => .halt
  | .none => .headClosed
  | .command => .headClosed

/-- Valve-open accepted: used, FLOWING, or CLOSING where a CLOSE is already queued (R117, R118). -/
def ChannelRecord.opened (r : ChannelRecord) (noFlow : Nat) : ChannelRecord :=
  match r.closeQueued with
  | some cause => { (r.beginClosing cause) with used := true, flowMark := r.extended }
  | none => { r with used := true, state := .flowing, noFlow := some (.start noFlow), flowMark := r.extended }

/-- A channel that leaves an allocation with its joining mark (R116). -/
def Context.leaveJoining (c : Context) (ch : Channel) : Context :=
  { c with allocation := { c.allocation with joining := c.allocation.joining.set ch false } }

/-- A lowering channel's count fixed, where it has none yet (R114). -/
def Context.fixLowering (c : Context) (ch : Channel) (count : Lowering → Nat) : Context :=
  let f := fun (x : Option Lowering) => x.map fun w => if w.fixed.isSome then w else { w with fixed := some (count w) }
  { c with allocation := { c.allocation with lowering := c.allocation.lowering.set ch (f (c.allocation.lowering.get ch)) } }

/-- An allocation abandoned (R116). -/
def Context.abandon (c : Context) : Context := { c with allocation := .clear }

/-! ### Queuing and withdrawal (R91, R92) -/

/-- A command taken into a list, and the commands it withdraws reported (R91, R92). -/
def State.join (s : State) (c : Command) : State × List Work :=
  let cs := (s.head c.head).commands
  (s.setCommands c.head (joinList cs c), (joinWithdrawn cs c).map fun d => .outcome d .withdrawn)

/-- A command queued (R90, R91). -/
def State.queueCommand (s : State) (c : Command) : State × List Work :=
  if !(s.head c.head).online then (s, [.outcome c (.discarded true)])
  else if s.headLocked c.head then (s, [.outcome c (.discarded false)])
  else if s.rd.latch && c.opening then (s, [.outcome c .withdrawn])
  else
    match c.payload with
    | .release p =>
      if (s.head c.head).singleFrame then ((s.join (c.splitLimit p)).1.join c.splitOpen) else s.join c
    | _ => s.join c

/-- The OPEN of a channel whose LIMIT failed removed and reported WITHDRAWN (R92). -/
def State.dropOpen (s : State) (c : Command) : State × List Work :=
  let cs := (s.head c.head).commands
  (s.setCommands c.head (cs.filter fun d => !(c.splitOpen.sameKind d)),
   (cs.filter fun d => c.splitOpen.sameKind d).map fun d => .outcome d .withdrawn)

/-! ### Outcomes by kind of command (R110 to R121) -/

/-- A channel record of a context changed, and what follows. -/
def State.withChannel (s : State) (i : ContextId) (ch : Channel) (f : ChannelRecord → ChannelRecord) (ws : List Work) :
    State × List Work := (s.modChannel i ch f, ws)

/-- A channel REFUSED for a ZERO that did not complete (R111). -/
def State.zeroFailed (s : State) (i : ContextId) (n : Nat) (l : LaneId) (ch : Channel) : State × List Work :=
  s.withChannel i ch .refuse [.event .laneFault (.lane l) zeroFailedCode, .changed i n]

/-- The outcome of a ZERO, taken for the channel's latest entry to ZEROING only (R110, R111). -/
def State.zeroOutcome (s : State) (c : Command) (entry : Nat) (o : CommandOutcome) : State × List Work :=
  match s.activeRecord c with
  | none => (s, [])
  | some (i, n, r) =>
    if r.state ≠ .zeroing ∨ r.zeroEntry ≠ entry then (s, [])
    else
      match o with
      | .accepted _ _ _ => s.withChannel i c.channel (fun r => { r with zeroAccepted := true }) []
      | .withdrawn => (s, [])
      | _ => s.zeroFailed i n c.lane c.channel

/-- An accepted LIMIT: lowered points come into force on an OPENING or FLOWING channel, and a lowering channel's count is fixed (R108, R114). -/
def State.limitAccepted (s : State) (i : ContextId) (n : Nat) (ch : Channel) (p : Points) (lowers : Bool)
    (count : Nat) : State × List Work :=
  if lowers then
    let s := s.modChannel i ch fun r => if r.state.isFlowing then { r with points := some p } else r
    (s.modCtx i fun c => c.fixLowering ch fun w => Nat.max w.target.stop count, [.lowered i n])
  else (s, [])

/-- The outcome of a LIMIT (R92, R108, R114). -/
def State.limitOutcome (s : State) (c : Command) (p : Points) (lowers : Bool) (o : CommandOutcome) : State × List Work :=
  match o with
  | .accepted count _ _ =>
    match s.activeRecord c with
    | some (i, n, _) => s.limitAccepted i n c.channel p lowers count.toNat
    | none => (s, [])
  | .failed _ _ => (s, [.fault c.lane .commandFailed, .withdrawOpen c])
  | .discarded false => (s, [.fault c.lane .commandFailed])
  | _ => (s, [])

/-- A valve-open acceptance (R117, R118): an ARMED context moves to DELIVERING (R17). -/
def State.valveOpened (s : State) (i : ContextId) (n : Nat) (ch : Channel) : State × List Work :=
  let s := s.modChannel i ch fun r => r.opened s.noFlowTime
  (s.modCtx i fun c => if c.state = .armed then { c with state := .delivering, deadline := none } else c, [.changed i n])

/-- The outcome of an OPEN or RELEASE (R117, R118). -/
def State.openOutcome (s : State) (c : Command) (o : CommandOutcome) : State × List Work :=
  match s.activeRecord c with
  | none =>
    match o with
    | .failed _ _ | .discarded false => (s, [.fault c.lane .commandFailed])
    | _ => (s, [])
  | some (i, n, r) =>
    match o with
    | .accepted _ _ _ => if r.state = .opening then s.valveOpened i n c.channel else (s, [])
    | .withdrawn => if r.state = .opening then s.withChannel i c.channel .toIdle [.changed i n] else (s, [])
    | .discarded true => (s, [])
    | _ =>
      s.withChannel i c.channel
        (fun r => if r.state = .opening then r.beginClosing (.fault .commandFailed) else r)
        [.fault c.lane .commandFailed, .changed i n]

/-- The acceptance of a CLOSE queued by a lane fault starts the channel's fault settle timer (R128). -/
def State.faultCloseAccepted (s : State) (l : LaneId) (ch : Channel) : State :=
  if (s.lane l).state = .faultStop then
    s.modLaneChannel l ch fun x => { x with faultClose := .settling, faultSettle := some (.start s.settleTime) }
  else s

/-- The outcome of a CLOSE (R114, R120, R128). One that fails makes its channel FAILED in CLOSING, and in SETTLING where a report showed the valve closed first: notes/assumptions/24.md. The CLOSE of a hang-up that withdrew a lowering channel's LIMIT and is DISCARDED as its head goes OFFLINE leaves that channel without a fixed count, and the allocation waits: DEDUCED, notes/assumptions/41.md. -/
def State.closeOutcome (s : State) (c : Command) (byFault : Bool) (o : CommandOutcome) : State × List Work :=
  match o with
  | .accepted count _ _ =>
    let s := if byFault then s.faultCloseAccepted c.lane c.channel else s
    match s.activeRecord c with
    | none => (s, [])
    | some (i, n, _) =>
      let s := s.modChannel i c.channel fun r =>
        if r.state = .closing then r.beginSettling count.toNat s.settleTime else r
      (s.modCtx i fun x => x.fixLowering c.channel fun _ => count.toNat, [.lowered i n])
  | .failed _ _ | .discarded false =>
    match s.activeRecord c with
    | none => (s, [.fault c.lane .commandFailed])
    | some (i, n, _) =>
      s.withChannel i c.channel
        (fun r => if r.state = .closing ∨ r.state = .settling then { r.ended .failed with endCause := some (.fault .commandFailed) }
          else r)
        [.fault c.lane .commandFailed, .changed i n]
  | _ => (s, [])

/-- The final-count check passes (R99). -/
def finalGood (ext final : Nat) : Bool := decide (ext ≤ final ∧ final < ext + 65536)

/-- A FINAL count taken: the channel is DONE at it (R99, R121). -/
def ChannelRecord.finish (r : ChannelRecord) (count : BitVec 32) : ChannelRecord :=
  { r with extended := count.toNat, low16 := count.setWidth 16 }.ended .done

/-- An accepted FINAL (R99, R121): a METER MISMATCH sets its flag and is found as a lane fault after the channel is DONE; a used channel's DONE is a trigger 2 (R112). -/
def State.finalAccepted (s : State) (i : ContextId) (n : Nat) (c : Command) (r : ChannelRecord) (count : BitVec 32) :
    State × List Work :=
  let s := s.modChannel i c.channel fun r => r.finish count
  if finalGood r.extended count.toNat then (s, [.trigger i n true, .changed i n])
  else (s.modCtx i Context.flagMismatch, [.fault c.lane .meterMismatch, .trigger i n true, .changed i n])

/-- The outcome of a FINAL (R121). One accepted for a channel that is FAILED by then takes no count and is not checked, since R120 keeps that channel's last known count: DEDUCED, notes/assumptions/24.md. -/
def State.finalOutcome (s : State) (c : Command) (o : CommandOutcome) : State × List Work :=
  match s.activeRecord c with
  | none =>
    match o with
    | .failed _ _ | .discarded false => (s, [.fault c.lane .commandFailed])
    | _ => (s, [])
  | some (i, n, r) =>
    match o with
    | .accepted count _ _ => if r.state = .settling then s.finalAccepted i n c r count else (s, [])
    | .failed _ _ | .discarded false =>
      s.withChannel i c.channel (fun r => if r.state = .settling then r.ended .failed else r)
        [.fault c.lane .commandFailed, .changed i n]
    | _ => (s, [])

/-- A command DISCARDED by the lockout of its own lane is no fault and reaches no channel: its context is being closed (R129). -/
def State.ownLockout (s : State) (c : Command) (o : CommandOutcome) : Bool :=
  decide (o = .discarded false) && decide ((s.lane c.lane).state = .locked)

/-- A command's outcome, by the kind of the command (R89). -/
def State.takeOutcome (s : State) (c : Command) (o : CommandOutcome) : State × List Work :=
  if s.ownLockout c o then (s, [])
  else
    match c.payload with
    | .zero _ entry => s.zeroOutcome c entry o
    | .limit p lowers => s.limitOutcome c p lowers o
    | .openValve => s.openOutcome c o
    | .release _ => s.openOutcome c o
    | .close _ byFault => s.closeOutcome c byFault o
    | .final => s.finalOutcome c o

/-! ### Lane faults (R124 to R130) -/

/-- FAULT STOP entered: the kind recorded, every quiet count 0, no fault close begun (R127). -/
def Lane.enterFaultStop (x : Lane) (k : FaultKind) : Lane :=
  { x with state := .faultStop, fault := some k,
           channels := x.channels.map fun y => { y with quiet := 0, faultClose := .none, faultSettle := none } }

/-- A first fault's effect on the bound context (R127). -/
def State.faultContext (s : State) (i : ContextId) (k : FaultKind) : State × List Work :=
  let s := s.modCtx i Context.flagFault
  let c := s.ctx i
  if c.cancellable then (s.cancel i .laneFault, [])
  else if c.stoppable then (s.modCtx i fun c => c.withReason .laneFault, [.stop i c.transaction (.fault k)])
  else (s, [])

/-- A first fault: FAULT STOP (R127). The bound context is taken first, so one whose stop leaves no channel in progress has closed (R21) before the CLOSEs are queued: DEDUCED, notes/assumptions/51.md. -/
def State.firstFault (s : State) (l : LaneId) (k : FaultKind) : State × List Work :=
  let s := (s.modLane l fun x => x.enterFaultStop k).queueEvent .laneFault (.lane l) k.code
  match s.bound l with
  | some i =>
    let r := s.faultContext i k
    (r.1, r.2 ++ [.faultCloses l k])
  | none => (s, [.faultCloses l k])

/-- The heads that serve a lane's present channels. -/
def State.laneHeads (s : State) (l : LaneId) : List HeadId :=
  (List.finRange 24).filter fun h => (s.servedBy h).any fun p => decide (p.1 = l)

/-- The lists of some heads emptied, and every entry reported DISCARDED (R94). -/
def State.emptyLists (s : State) : List HeadId → State × List Work
  | [] => (s, [])
  | h :: hs =>
    let r := (s.setCommands h []).emptyLists hs
    (r.1, ((s.head h).commands.map fun c => .outcome c (.discarded false)) ++ r.2)

/-- The exchange on the line, where it is a command to one of some heads, makes no further attempt (R94, R129). -/
def State.cutLine (s : State) (hs : List HeadId) : State :=
  if s.lineCommand.any fun c => decide (c.head ∈ hs) then { s with dlu := { s.dlu with cutByLock := true } } else s

/-- The lockout of a lane's heads: only POLL is sent to them from now on (R94, R129). The lists are emptied in the order of the head addresses: DESIGN CHOICE, notes/assumptions/47.md. -/
def State.lockout (s : State) (hs : List HeadId) : State × List Work := (s.cutLine hs).emptyLists hs

/-- A second fault: the lane LOCKED, its heads' lists emptied, its context closed, the events (R129). -/
def State.secondFault (s : State) (l : LaneId) (k : FaultKind) : State × List Work :=
  let s := (s.lockLane l).modLane l fun x => { x with fault := some k }
  let r := s.lockout (s.laneHeads l)
  (r.1,
   r.2 ++ ((s.bound l).map fun i => Work.lockoutClose i (s.ctx i).transaction).toList ++
     [.event .laneFault (.lane l) k.code, .event .laneLockout (.lane l) k.code])

/-- A lane fault, by the lane's state (R124, R127, R129, R130). -/
def State.takeFault (s : State) (l : LaneId) (k : FaultKind) : State × List Work :=
  match (s.lane l).state with
  | .faultStop => s.secondFault l k
  | .locked => (s.queueEvent .laneFault (.lane l) k.code, [])
  | _ => s.firstFault l k

/-- The CLOSE of a fault for one channel: complete from the start on a DONE channel, owed while its head is OFFLINE, queued otherwise (R127, R128). Where the fault has closed the context no channel is DONE any longer, so one that was is sent a CLOSE too: DEDUCED, notes/assumptions/51.md. -/
def State.faultCloseOne (s : State) (l : LaneId) (k : FaultKind) (ch : Channel) : State × List Work :=
  match s.setup l ch with
  | none => (s, [])
  | some x =>
    let rec? := s.laneRecord l ch
    if rec?.any fun p => decide (p.2.state = .done) then
      (s.modLaneChannel l ch fun y => { y with faultClose := .complete }, [])
    else if (s.head x.head).online then
      let s := s.modLaneChannel l ch fun y => { y with faultClose := .queued }
      let s := match rec? with
        | some (i, _) => s.modChannel i ch fun r =>
            if r.state = .flowing then r.beginClosing (.fault k)
            else if r.state = .opening then { r with closeQueued := some (.fault k) } else r
        | none => s
      (s, [.queue ⟨x.head, x.headChannel, l, ch, s.ownerOf l, .close (.fault k) true⟩])
    else (s.modLaneChannel l ch fun y => { y with faultClose := .owed }, [])

/-- One step after another over a list, the work gathered in order. -/
def State.gather {α : Type} (f : State → α → State × List Work) (s : State) : List α → State × List Work
  | [] => (s, [])
  | x :: xs =>
    let r := f s x
    let t := r.1.gather f xs
    (t.1, r.2 ++ t.2)

/-- The CLOSEs of a first fault, while the lane is still in FAULT STOP (R127). They are queued in letter order: DESIGN CHOICE, notes/assumptions/48.md. -/
def State.queueFaultCloses (s : State) (l : LaneId) (k : FaultKind) : State × List Work :=
  if (s.lane l).state = .faultStop then s.gather (fun s ch => s.faultCloseOne l k ch) Channel.letters else (s, [])

/-- A context closed by its lane's lockout: every channel in progress taken at its last known count (R23). -/
def State.closeByLockout (s : State) (i : ContextId) (n : Nat) : State × List Work :=
  if s.holds i n then
    let s := s.modCtx i fun c =>
      (c.flagLockout.mapChannels fun r => if r.state.inProgress then r.ended .failed else r)
    (s.closeContext i .byVolume false, [])
  else (s, [])

/-! ### Stopping (R21, R123) -/

/-- One channel of a context that enters STOPPING (R123). -/
def State.stopChannel (i : ContextId) (cause : EndCause) (s : State) (ch : Channel) : State × List Work :=
  match ((s.ctx i).records.get ch).state with
  | .zeroing | .allocating => s.withChannel i ch .toIdle []
  | .opening =>
    s.withChannel i ch (fun r => { r with closeQueued := some cause }) (s.queueFor i ch (.close cause false))
  | .flowing => s.withChannel i ch (fun r => r.beginClosing cause) (s.queueFor i ch (.close cause false))
  | _ => (s, [])

/-- STOPPING entered: any allocation abandoned, the channels acted on, and the closing tested (R21, R123). The channels are acted on in letter order: DESIGN CHOICE, notes/assumptions/48.md. -/
def State.enterStopping (s : State) (i : ContextId) (n : Nat) (cause : EndCause) : State × List Work :=
  if s.holds i n then
    let s := (s.modCtx i fun c => { c.abandon with state := .stopping, deadline := none }).testAttn
    let r := s.gather (State.stopChannel i cause) Channel.letters
    (r.1, r.2 ++ [.changed i n])
  else (s, [])

/-- A host stop or cancellation of a context that is not in RECOVERING (R22). -/
def State.hostStop (s : State) (i : ContextId) (r : Reason) : State × List Work :=
  let c := s.ctx i
  if c.cancellable then (s.cancel i r, [])
  else if c.stoppable then (s.modCtx i fun c => c.withReason r, [.stop i c.transaction .stopped])
  else (s, [])

/-- All stop applied to a context in use (R155). -/
def State.allStopContext (s : State) (i : ContextId) : State × List Work :=
  if (s.ctx i).inUse then
    let s := s.modCtx i Context.flagAllStop
    let c := s.ctx i
    if c.cancellable then (s.cancel i .allStop, [])
    else if c.stoppable then (s.modCtx i fun c => c.withReason .allStop, [.stop i c.transaction .stopped])
    else (s, [])
  else (s, [])

/-! ### The allocation (R112 to R116) -/

/-- The lowering entry that a target gives a flowing channel (R113). -/
def loweringOf (r : ChannelRecord) (x : Option Share) : Option Lowering :=
  match x with
  | some sh =>
    if r.state.isFlowing && decide (sh.points.stop < r.stopInForce) then some ⟨sh.points, none⟩ else none
  | none => none

/-- Phase 1 begins (R113). The LIMITs of the lowering channels are queued in letter order: DESIGN CHOICE, notes/assumptions/48.md. -/
def State.beginAllocation (s : State) (i : ContextId) (n : Nat) : State × List Work :=
  let c := s.ctx i
  let targets := c.phaseOne s.productClass s.slowVolume
  let lowering := Triple.build fun ch => loweringOf (c.records.get ch) (targets.get ch)
  let s := s.modCtx i fun c => { c with allocation :=
    { phase := .lowering, joining := c.records.map fun r => decide (r.state = .allocating),
      lowering := lowering, resplit := false } }
  (s,
   (Channel.letters.flatMap fun ch =>
      match lowering.get ch with
      | some w => s.queueFor i ch (.limit w.target true)
      | none => []) ++ [.lowered i n])

/-- A trigger of an allocation (R112). A trigger 2 with no channel in OPENING, FLOWING or ALLOCATING does nothing, be an allocation in flight or not: it leaves the re-split wanted flag as it is: DEDUCED, notes/assumptions/46.md. -/
def State.takeTrigger (s : State) (i : ContextId) (n : Nat) (second : Bool) : State × List Work :=
  if !s.holds i n then (s, [])
  else
    let c := s.ctx i
    if second && (decide (c.state ≠ .delivering) ||
        !(c.anyChannel fun r => r.state.isFlowing || decide (r.state = .allocating))) then (s, [])
    else if c.allocation.phase = .none then s.beginAllocation i n
    else (s.modCtx i fun c => { c with allocation := { c.allocation with resplit := true } }, [])

/-- Every lowering channel has its fixed count (R114). -/
def Allocation.allFixed (a : Allocation) : Bool := a.lowering.all fun x => x.all fun w => w.fixed.isSome

/-- Phase 2, once every lowering channel has its fixed count (R114, R115). -/
def State.testLowered (s : State) (i : ContextId) (n : Nat) : State × List Work :=
  if s.holds i n && decide ((s.ctx i).allocation.phase = .lowering) && (s.ctx i).allocation.allFixed then
    let shares := (s.ctx i).phaseTwo s.productClass s.slowVolume
    (s.modCtx i fun c => { c with allocation := { c.allocation with phase := .raising } },
     (Channel.letters.map fun ch => Work.raise i n ch (shares.get ch)) ++ [.allocated i n])
  else (s, [])

/-- What phase 2 gives one channel, in letter order (R115). -/
def State.raiseChannel (s : State) (i : ContextId) (n : Nat) (ch : Channel) (x : Option Share) : State × List Work :=
  if s.holds i n && decide ((s.ctx i).allocation.phase = .raising) then
    match x with
    | none => (s, [])
    | some sh =>
      let r := (s.ctx i).records.get ch
      if r.state.isFlowing then
        if r.stopInForce < sh.points.stop then
          s.withChannel i ch (fun r => { r with points := some sh.points }) (s.queueFor i ch (.limit sh.points false))
        else (s, [])
      else if r.state = .allocating then
        if 0 < sh.volume then
          s.withChannel i ch (fun r => { r with state := .opening, points := some sh.points })
            (s.queueFor i ch (.release sh.points))
        else
          let s := s.modChannel i ch .refuse
          match (s.ctx i).lane with
          | some l => (s.tell i (.limitReached l), [.changed i n])
          | none => (s, [.changed i n])
      else (s, [])
  else (s, [])

/-- The end of phase 2: the next allocation where a re-split is wanted (R112). -/
def State.endAllocation (s : State) (i : ContextId) (n : Nat) : State × List Work :=
  if s.holds i n && decide ((s.ctx i).allocation.phase = .raising) then
    let again := (s.ctx i).allocation.resplit
    let s := s.modCtx i Context.abandon
    if again then s.beginAllocation i n else (s, [])
  else (s, [])

/-! ### Reports (R109 to R125, R128) -/

/-- FLOW WITHOUT RELEASE is found in a report (R125). -/
def State.flowWithoutRelease (s : State) (x : Handed) : Bool :=
  decide (x.indication = .changed) &&
    (match s.laneRecord x.lane x.channel with
     | none => true
     | some (_, r) =>
       decide (r.state = .idle) || decide (r.state = .refused) || decide (r.state = .allocating) || decide (r.state = .done)) &&
    !(decide ((s.lane x.lane).state = .faultStop) &&
      decide (((s.lane x.lane).channels.get x.channel).faultClose ≠ .complete))

/-- A report handed on: its count extension, the faults it shows, then what the DCU does with it (R98, R124, R125). Both faults are found in the report as it is handed on, so the exception of R125 for FAULT STOP goes by the lane's state before the report: one report of an ALLOCATING channel that is a METER JUMP and CHANGED gives METER JUMP, then FLOW WITHOUT RELEASE as the second fault: DEDUCED, notes/assumptions/20.md. -/
def State.takeReport (s : State) (x : Handed) : State × List Work :=
  let flow := s.flowWithoutRelease x
  match s.laneRecord x.lane x.channel with
  | none => (s, (if flow then [.fault x.lane .flowWithoutRelease] else []) ++ [.act x, .noted x])
  | some (i, r) =>
    let jump := jumps r x.restarted x.report.low16
    (s.modChannel i x.channel fun r => r.extend x.restarted x.report.low16,
     (if jump then [.fault x.lane .meterJump] else []) ++
       (if flow then [.fault x.lane .flowWithoutRelease] else []) ++ [.act x, .noted x])

/-- The nozzle as the lane last saw it. -/
def State.nozzleSeen (s : State) (l : LaneId) (ch : Channel) : NozzleSeen := ((s.lane l).channels.get ch).nozzle

/-- A lift (R109). -/
def State.isLift (s : State) (x : Handed) : Bool :=
  decide (x.report.nozzle = .lifted) && decide (s.nozzleSeen x.lane x.channel ≠ .lifted)

/-- A hang-up (R109). -/
def State.isHangUp (s : State) (x : Handed) : Bool :=
  decide (x.report.nozzle = .hung) && decide (s.nozzleSeen x.lane x.channel = .lifted)

/-- ZEROING entered: the counter 0, a new entry (R110). -/
def ChannelRecord.beginZeroing (r : ChannelRecord) : ChannelRecord :=
  { r with state := .zeroing, zeroPolls := 0, zeroEntry := r.zeroEntry + 1, zeroAccepted := false }

/-- A lift on a lane whose context is ARMED, DELIVERING or ENDING (R109). Entering ZEROING is reported before the ZERO is queued, which a locked head discards at once. -/
def State.takeLift (s : State) (i : ContextId) (x : Handed) : State × List Work :=
  let c := s.ctx i
  let r := c.records.get x.channel
  if !c.permits r then
    ((s.modChannel i x.channel .refuse).tell i (.productNotAllowed x.lane), [.changed i c.transaction])
  else if r.state = .idle ∧ r.used = false then
    let r' := r.beginZeroing
    s.withChannel i x.channel .beginZeroing
      (.changed i c.transaction :: s.queueFor i x.channel (.zero (c.channelPrice r') r'.zeroEntry))
  else (s, [])

/-- The report completes the zero handshake (R110). -/
def zeroComplete (r : ChannelRecord) (x : ChannelReport) (limit : Nat) : Bool :=
  decide (x.nozzle = .lifted) && decide (x.valve = .closed) && x.zeroed && decide (x.low16 = 0) &&
    decide (r.zeroPolls < limit)

/-- ALLOCATING entered: the extension begins (R98, R110). -/
def ChannelRecord.beginAllocating (r : ChannelRecord) : ChannelRecord :=
  { r with state := .allocating, extended := 0, low16 := 0, flowMark := 0 }

/-- A report examined in the zero handshake, once the ZERO has been accepted (R110, R111). -/
def State.countZero (s : State) (i : ContextId) (x : Handed) (r : ChannelRecord) : State × List Work :=
  let n := (s.ctx i).transaction
  if zeroComplete r x.report s.zeroPollCount then
    s.withChannel i x.channel .beginAllocating [.trigger i n false]
  else
    let s := s.modChannel i x.channel fun r => { r with zeroPolls := r.zeroPolls + 1 }
    if s.zeroPollCount ≤ r.zeroPolls + 1 then s.zeroFailed i n x.lane x.channel else (s, [])

/-- A CLOSE for a channel of context `i` stands in its head's list. -/
def State.closeStands (s : State) (i : ContextId) (ch : Channel) : Bool :=
  (s.commandFor i ch (.close .stopped false)).any fun c => (s.head c.head).commands.any c.sameKind

/-- A hang-up by channel state (R111, R116, R118). In OPENING a CLOSE is queued, also where an earlier one has been sent and the RELEASE it went past is split behind it (R90): it withdraws the OPEN. One for which a CLOSE still stands in the list does nothing: DEDUCED, notes/assumptions/25.md. -/
def State.takeHangUp (s : State) (i : ContextId) (x : Handed) (r : ChannelRecord) : State × List Work :=
  let n := (s.ctx i).transaction
  match r.state with
  | .zeroing => s.withChannel i x.channel .toIdle [.changed i n]
  | .allocating =>
    ((s.modChannel i x.channel .toIdle).modCtx i fun c => c.leaveJoining x.channel, [.changed i n])
  | .opening =>
    if r.closeQueued.isSome && s.closeStands i x.channel then (s, [])
    else
      s.withChannel i x.channel (fun r => { r with closeQueued := some .stopped })
        (s.queueFor i x.channel (.close .stopped false))
  | _ => (s, [])

/-- A report for a FLOWING channel: the no-flow timer, and a closed valve (R119, R120). -/
def State.takeFlowing (s : State) (i : ContextId) (x : Handed) (r : ChannelRecord) : State × List Work :=
  let s := if r.extended ≠ r.flowMark then
      s.modChannel i x.channel fun r => { r with noFlow := some (.start s.noFlowTime), flowMark := r.extended }
    else s
  if x.report.valve = .closed then
    s.withChannel i x.channel
      (fun r => { r.beginSettling r.extended s.settleTime with endCause := some (endCauseOf x.report.cause) }) []
  else (s, [])

/-- A report for a CLOSING channel: a closed valve moves it to SETTLING (R120). -/
def State.takeClosing (s : State) (i : ContextId) (x : Handed) : State × List Work :=
  if x.report.valve = .closed then
    s.withChannel i x.channel (fun r => r.beginSettling r.extended s.settleTime) []
  else (s, [])

/-- The states of a context in which a lift is taken (R109). -/
def ContextState.takesLifts : ContextState → Bool
  | .armed | .delivering | .ending => true
  | _ => false

/-- A report acted on by its channel's state (R109 to R122). -/
def State.actOnReport (s : State) (x : Handed) : State × List Work :=
  match s.laneRecord x.lane x.channel with
  | none => (s, [])
  | some (i, r) =>
    if s.isLift x && (s.ctx i).state.takesLifts && decide (r.state ≠ .zeroing) then
      let a := s.takeLift i x
      if r.state = .flowing then
        let b := a.1.takeFlowing i x r
        (b.1, a.2 ++ b.2)
      else if r.state = .closing then
        let b := a.1.takeClosing i x
        (b.1, a.2 ++ b.2)
      else a
    else if s.isHangUp x && (decide (r.state = .zeroing) || decide (r.state = .allocating) || decide (r.state = .opening)) then
      s.takeHangUp i x r
    else
      match r.state with
      | .zeroing => if r.zeroAccepted then s.countZero i x r else (s, [])
      | .flowing => s.takeFlowing i x r
      | .closing => s.takeClosing i x
      | _ => (s, [])

/-- The quiet count after a report (R128). -/
def quietAfter (x : Handed) (quiet : Nat) : Nat :=
  if x.report.valve = .closed ∧ x.indication = .unchanged then Nat.min 2 (quiet + 1) else 0

/-- A nozzle position as the lane keeps it (R103). -/
def seenOf : Nozzle → NozzleSeen
  | .hung => .hung
  | .lifted => .lifted

/-- The lane's notes of a report: nozzle seen, valve and close cause, the quiet count in FAULT STOP and LOCKED, and the end of FAULT STOP (R109, R128, R177). -/
def State.noteReport (s : State) (x : Handed) : State × List Work :=
  let counts := decide ((s.lane x.lane).state = .faultStop) || decide ((s.lane x.lane).state = .locked)
  let s := s.modLaneChannel x.lane x.channel fun y =>
    { y with nozzle := seenOf x.report.nozzle, handed := some (x.report.valve, x.report.cause),
             quiet := if counts then quietAfter x y.quiet else y.quiet }
  (s.testFaultStop x.lane, [])

/-! ### A head's loss (R85, R126) -/

/-- The list of a head that has gone OFFLINE: removed, each entry reported DISCARDED, in list order (R85 step 2). -/
def State.discardCommands (s : State) (h : HeadId) : State × List Work :=
  (s.setCommands h [], (s.head h).commands.map fun c => .outcome c (.discarded true))

/-- The HEAD OFFLINE event, then each channel the head serves, lane by lane in letter order (R85, R126). That the event is queued before what R126 finds is DEDUCED: notes/assumptions/53.md. -/
def State.loseHead (s : State) (h : HeadId) (f : FailureKind) : State × List Work :=
  (s.queueEvent .headOffline (.head h) f.code, (s.servedBy h).map fun p => .channelLost p.1 p.2)

/-- A channel's quiet count set to 0 on a lane in FAULT STOP or LOCKED (R126). -/
def State.unquiet (s : State) (l : LaneId) (ch : Channel) : State :=
  if (s.lane l).state = .faultStop ∨ (s.lane l).state = .locked then
    s.modLaneChannel l ch fun y => { y with quiet := 0 }
  else s

/-- HEAD LOST as found on a lane in FAULT STOP whatever its channel does (R126). -/
def State.lostInFaultStop (s : State) (l : LaneId) : List Work :=
  if (s.lane l).state = .faultStop then [.fault l .headLost] else []

/-- A channel whose head has gone OFFLINE (R126). -/
def State.loseChannel (s : State) (l : LaneId) (ch : Channel) : State × List Work :=
  let s := s.unquiet l ch
  match s.laneRecord l ch with
  | none => (s, s.lostInFaultStop l)
  | some (i, r) =>
    let n := (s.ctx i).transaction
    match r.state with
    | .zeroing =>
      s.withChannel i ch .refuse
        ([.event .laneFault (.lane l) zeroFailedCode] ++ s.lostInFaultStop l ++ [.changed i n])
    | .allocating =>
      ((s.modChannel i ch .refuse).modCtx i fun c => c.leaveJoining ch, s.lostInFaultStop l ++ [.changed i n])
    | .opening | .flowing | .closing | .settling =>
      s.withChannel i ch (fun r => { r.ended .failed with endCause := some (.fault .headLost) })
        ((if (s.lane l).state = .locked then [] else [.fault l .headLost]) ++ [.changed i n])
    | _ => (s, s.lostInFaultStop l)

/-! ### Taking the work -/

/-- The arbiter on a free link, while the part works (R95). -/
def State.arbitrate (s : State) : State × List Work :=
  if s.working && decide (s.dlu.line = .quiet) then
    match s.choose with
    | (s, none) => (s, [])
    | (s, some c) => (s, [.outcome c .withdrawn, .arbitrate])
  else (s, [])

/-- One piece of work taken: the state after it and the work it gives, to be taken next. -/
def handle (w : Work) (s : State) : State × List Work :=
  match w with
  | .queue c => s.queueCommand c
  | .outcome c o => s.takeOutcome c o
  | .withdrawOpen c => s.dropOpen c
  | .fault l k => s.takeFault l k
  | .faultCloses l k => s.queueFaultCloses l k
  | .lockoutClose i n => s.closeByLockout i n
  | .event k sub d => (s.queueEvent k sub d, [])
  | .stop i n cause => s.enterStopping i n cause
  | .changed i n => if s.holds i n then (s.contextChanged i, []) else (s, [])
  | .trigger i n second => s.takeTrigger i n second
  | .lowered i n => s.testLowered i n
  | .raise i n ch x => s.raiseChannel i n ch x
  | .allocated i n => s.endAllocation i n
  | .allStop i => s.allStopContext i
  | .handed x => s.takeReport x
  | .act x => s.actOnReport x
  | .noted x => s.noteReport x
  | .capture h ch k f => (s.captureFailure h ch k f, [])
  | .discardList h => s.discardCommands h
  | .headGone h f => s.loseHead h f
  | .channelLost l ch => s.loseChannel l ch
  | .arbitrate => s.arbitrate

/-- The most pieces of work taken inside one command: a bound of the model (notes/assumptions/4.md). -/
def workBound : Nat := 65536

/-- Work taken one piece after another, each piece's own work before the rest; none when `n` pieces did not suffice. -/
def drain : Nat → List Work → State → Option State
  | _, [], s => some s
  | 0, _ :: _, _ => none
  | n + 1, w :: ws, s =>
    let r := handle w s
    drain n (r.2 ++ ws) r.1

/-- A command's answer once its work is done. -/
def finish (ws : List Work) (s : State) : Host.Outcome State Fault Refusal :=
  match drain workBound ws s with
  | some t => .next t
  | none => .fault .workOverrun

end Sys2Proof.Machine
end

