-- ==== Sys2Proof/Machine/DispenserCommands.lean ====
section
/-! DEFINITION. The events of the dispenser link: frames sent, replies, failed attempts, the offline poll timers, HALT ALL (chapter 5). -/

namespace Sys2Proof.Machine

open Sys2Proof

/-! ### Attempts and exchanges (R83 to R85, R89) -/

/-- The exchange whose reply window is open. -/
def DispenserLine.awaits : DispenserLine → Option Exchange
  | .window x => some x
  | _ => none

/-- A failed exchange (R85, R101): with an ONLINE head its counts rise, its command is reported FAILED and it is captured, and at the head failure limit the head goes OFFLINE; with an OFFLINE head only its failed total rises. It is captured after step 1 of R85 and before the discards of step 2 and HEAD OFFLINE: DESIGN CHOICE, notes/assumptions/53.md. -/
def State.exchangeFails (s : State) (x : Exchange) (f : FailureKind) : State × List Work :=
  let s := s.setLine .quiet
  let ws := (x.command.map fun c => Work.outcome c (.failed f none)).toList
  if (s.head x.head).online then
    let ws := ws ++ [.capture x.head x.headChannel x.kind f]
    let s := s.modHead x.head Head.failOnce
    if s.headFailureLimit ≤ (s.head x.head).failures then
      (s.modHead x.head Head.goOffline, ws ++ [.discardList x.head, .headGone x.head f])
    else (s, ws)
  else (s.modHead x.head fun y => { y with failedTotal := countUp y.failedTotal }, ws)

/-- The exchange on the line makes no further attempt: it is an OPEN or RELEASE under the all-stop latch, or one in whose course the latch was set (R84, R156), or a command whose head a lockout has cut off, or that serves a LOCKED lane (R94). -/
def State.cutShort (s : State) (x : Exchange) : Bool :=
  s.dlu.cutByStop || s.dlu.cutByLock || (s.rd.latch && x.command.any Command.opening) || (x.command.isSome && s.headLocked x.head)

/-- No further attempt of an exchange is made: none is left, or it has been cut short (R84). -/
def State.lastAttempt (s : State) (x : Exchange) : Bool := decide (x.retries = 0) || s.cutShort x

/-- An attempt that ended without a valid reply (R84, R97, R101). One that ended UNEXPECTED is captured before the failure of its exchange is acted on: DEDUCED, notes/assumptions/53.md. -/
def State.attemptFails (s : State) (x : Exchange) (f : FailureKind) : State × List Work :=
  let ws := if f = .unexpected ∧ (s.head x.head).online then [Work.capture x.head x.headChannel x.kind f] else []
  if s.lastAttempt x then
    let r := s.exchangeFails x f
    (r.1, ws ++ r.2)
  else
    let next := { x with retries := x.retries - 1 }
    (s.setLine (if s.dlu.haltPending then .haltAll (some (next, f)) else .sending next), ws)

/-- What an event of the dispenser link does while its reply window is open; nothing at any other moment (R83). The arbiter chooses after it. -/
def State.inWindow (s : State) (act : Exchange → State → State × List Work) : Host.Outcome State Fault Refusal :=
  match s.working, s.dlu.line.awaits with
  | true, some x =>
    let r := act x s
    finish (r.2 ++ [.arbitrate]) r.1
  | _, _ => .next s

/-- A valid reply ends the exchange and sets the failure count to 0 (R84, R85). -/
def State.endExchange (s : State) (h : HeadId) : State := (s.setLine .quiet).modHead h fun x => { x with failures := 0 }

/-! ### Poll replies (R86 to R88) -/

/-- The CLOSE of a channel awaiting recovery, as its head comes ONLINE (R186). -/
def State.recoverChannel (s : State) (l : LaneId) (ch : Channel) : State × List Work :=
  match s.laneRecord l ch with
  | some (i, r) =>
    if r.awaiting then
      s.withChannel i ch (fun r => { r with awaiting := false })
        (s.queueFor i ch (.close (r.endCause.getD .stopped) false))
    else (s, [])
  | none => (s, [])

/-- The CLOSE of a fault still owed to a channel, as its head comes ONLINE while the lane is in FAULT STOP (R127). -/
def State.payFaultClose (s : State) (l : LaneId) (ch : Channel) : State × List Work :=
  if (s.lane l).state = .faultStop ∧ ((s.lane l).channels.get ch).faultClose = .owed then
    match (s.lane l).fault with
    | some k => s.faultCloseOne l k ch
    | none => (s, [])
  else (s, [])

/-- A head come ONLINE, its HEAD ONLINE event, and the CLOSEs that waited for it (R86, R127, R186). They are queued lane by lane in letter order, those of R186 before those of R127: DESIGN CHOICE, notes/assumptions/48.md. -/
def State.headOnline (s : State) (h : HeadId) (restarted : Bool) : State × List Work :=
  let s := s.modHead h fun x => { x with online := true, failures := 0, offlinePoll := .stopped }
  let s := s.queueEvent .headOnline (.head h) (if restarted then 1 else 0)
  let r := s.gather (fun s p => s.recoverChannel p.1 p.2) (s.servedBy h)
  let t := r.1.gather (fun s p => s.payFaultClose p.1 p.2) (r.1.servedBy h)
  (t.1, r.2 ++ t.2)

/-- The reports of a reply that are handed on, with their count indications, lane by lane in letter order (R87). R109 gives the letter order within a lane; the lower lane first is a DESIGN CHOICE: notes/assumptions/48.md. -/
def State.handedReports (s : State) (h : HeadId) (restarted : Bool) (rs : List ChannelReport) : List Work :=
  (s.servedBy h).filterMap fun p =>
    match s.setup p.1 p.2 with
    | some x =>
      (rs.find? fun r => decide (r.channel = x.headChannel)).map fun r =>
        Work.handed ⟨p.1, p.2, r, indicationOf restarted ((s.head h).last.get r.channel) r, restarted⟩
    | none => none

/-- A GOOD poll reply (R86 to R88). -/
def State.goodPoll (s : State) (h : HeadId) (restarted : Bool) (rs : List ChannelReport) : State × List Work :=
  let s := s.endExchange h
  let r := if (s.head h).online then (s, []) else s.headOnline h restarted
  let s := r.1
  let ws := s.handedReports h restarted rs
  let s := s.modHead h fun x => { x with singleFrame := x.singleFrame && !restarted }
  (s.modHead h fun x => x.keepReports rs, r.2 ++ ws)

/-- A poll reply taken against the exchange on the line: GOOD, or UNEXPECTED where it comes from another head, answers no POLL, or lacks a configured channel's report (R83, R87). -/
def State.takePollReply (s : State) (h : HeadId) (restarted : Bool) (rs : List ChannelReport) (x : Exchange) :
    State × List Work :=
  if x.head = h ∧ x.command = none ∧ s.replyComplete h rs then s.goodPoll h restarted rs
  else s.attemptFails x .unexpected

/-- POLL_REPLY: a GOOD poll reply is taken and its reports handed to the DCU (R87). -/
def execPollReply (h : HeadId) (restarted : Bool) (rs : List ChannelReport) (s : State) : Host.Outcome State Fault Refusal :=
  s.inWindow fun x s => s.takePollReply h restarted rs x

/-! ### Replies to commands (R82, R89, R90) -/

/-- A FINAL's totalizer kept in the head table (R99). -/
def State.keepTotalizer (s : State) (c : Command) (totalizer : BitVec 32) : State :=
  if c.payload = .final then
    s.modHead c.head fun x => { x with totalizer := x.totalizer.set c.headChannel (some totalizer.toNat) }
  else s

/-- An ACCEPTED taken against the exchange on the line (R83, R89). -/
def State.takeAccepted (s : State) (h : HeadId) (count : BitVec 32) (valve : Valve) (totalizer : BitVec 32) (x : Exchange) :
    State × List Work :=
  match x.command with
  | some c =>
    if x.head = h then ((s.endExchange h).keepTotalizer c totalizer, [.outcome c (.accepted count totalizer valve)])
    else s.attemptFails x .unexpected
  | none => s.attemptFails x .unexpected

/-- DISPENSER_ACCEPTED: the exchange ends GOOD and its outcome is reported to its channel (R89). The valve state in the reply goes with it and decides nothing (R82, R117). -/
def execDispenserAccepted (h : HeadId) (count : BitVec 32) (valve : Valve) (totalizer : BitVec 32) (s : State) :
    Host.Outcome State Fault Refusal :=
  s.inWindow fun x s => s.takeAccepted h count valve totalizer x

/-- A refusal, BUSY or BAD, taken against the exchange on the line: the exchange ends REFUSED, its command is reported FAILED, and it is captured (R83, R85, R89, R101). That the capture comes after all that the report leads to is DEDUCED from section 5.10: notes/assumptions/53.md. -/
def State.takeRefusal (s : State) (h : HeadId) (why : RefusalKind) (x : Exchange) : State × List Work :=
  match x.command with
  | some c =>
    if x.head = h then
      (s.endExchange h, [.outcome c (.failed .refused (some why)), .capture h x.headChannel x.kind .refused])
    else s.attemptFails x .unexpected
  | none => s.attemptFails x .unexpected

/-- REFUSED_BUSY (R89). -/
def execRefusedBusy (h : HeadId) (s : State) : Host.Outcome State Fault Refusal := s.inWindow fun x s => s.takeRefusal h .busy x

/-- REFUSED_BAD (R89). -/
def execRefusedBad (h : HeadId) (s : State) : Host.Outcome State Fault Refusal := s.inWindow fun x s => s.takeRefusal h .bad x

/-- A RELEASE refused as unsupported: the single-frame flag set, and a LIMIT and an OPEN in its place; where the latch is set, or was set in the course of the exchange, neither is put in and the OPEN is WITHDRAWN (R90, R156, R157). On a head that a lockout has cut off meanwhile the RELEASE is DISCARDED (R91, R94). -/
def State.splitRelease (s : State) (h : HeadId) (c : Command) (p : Points) : State × List Work :=
  let s := (s.endExchange h).modHead h fun x => { x with singleFrame := true }
  if s.rd.latch || s.dlu.cutByStop then (s, [.outcome c.splitOpen .withdrawn])
  else if s.headLocked h || s.dlu.cutByLock then (s, [.outcome c (.discarded false)])
  else (s.setCommands h (splitBack (s.head h).commands c p), [])

/-- REFUSED-UNSUPPORTED taken against the exchange on the line; it answers a RELEASE only (R82, R83). -/
def State.takeUnsupported (s : State) (h : HeadId) (x : Exchange) : State × List Work :=
  match x.command with
  | some c =>
    match c.payload with
    | .release p => if x.head = h then s.splitRelease h c p else s.attemptFails x .unexpected
    | _ => s.attemptFails x .unexpected
  | none => s.attemptFails x .unexpected

/-- REFUSED_UNSUPPORTED (R90). -/
def execRefusedUnsupported (h : HeadId) (s : State) : Host.Outcome State Fault Refusal :=
  s.inWindow fun x s => s.takeUnsupported h x

/-- DISPENSER_BAD_CHECK_FRAME: the attempt ends BAD CHECK (R83). -/
def execDispenserBadCheckFrame (s : State) : Host.Outcome State Fault Refusal := s.inWindow fun x s => s.attemptFails x .badCheck

/-- DISPENSER_UNEXPECTED_FRAME: the attempt ends UNEXPECTED (R83). -/
def execDispenserUnexpectedFrame (s : State) : Host.Outcome State Fault Refusal :=
  s.inWindow fun x s => s.attemptFails x .unexpected

/-- DISPENSER_REPLY_WINDOW_EXPIRY: the attempt ends NO ANSWER (R83, R84). -/
def execDispenserReplyWindowExpiry (s : State) : Host.Outcome State Fault Refusal :=
  s.inWindow fun x s => s.attemptFails x .noAnswer

/-! ### Frames and timers -/

/-- The last byte of a frame gone: the reply window opens (R83). -/
def State.frameSent (s : State) : State :=
  match s.dlu.line with
  | .sending x => s.setLine (.window x)
  | _ => s

/-- DISPENSER_FRAME_SENT (R83). -/
def execDispenserFrameSent (s : State) : Host.Outcome State Fault Refusal := .next (s.whenWorking State.frameSent)

/-- HEAD_OFFLINE_POLL_TIMER_EXPIRY: the head is due for a poll, and a quiet link is chosen again (R86, R95). -/
def execHeadOfflinePollTimerExpiry (h : HeadId) (s : State) : Host.Outcome State Fault Refusal :=
  match s.working, (s.head h).offlinePoll with
  | true, .running _ => finish [.arbitrate] (s.modHead h fun x => { x with offlinePoll := .expired })
  | _, _ => .next s

/-- HALT ALL no longer pending (R97). -/
def State.haltSent (s : State) : State := { s with dlu := { s.dlu with haltPending := false, line := .quiet } }

/-- What follows a HALT ALL sent between two attempts: the exchange goes on, but for one that has been cut short, which fails (R84, R97). One cut short by a lockout while the HALT ALL was being sent fails here, with the outcome of the attempt before it: DEDUCED, notes/assumptions/22.md. -/
def State.resume (s : State) (x : Exchange) (f : FailureKind) : State × List Work :=
  if s.cutShort x then s.exchangeFails x f else (s.setLine (.sending x), [])

/-- HALT_ALL_SENT: the broadcast has gone (R97). In the frozen state after PFAIL nothing follows it (R181). -/
def execHaltAllSent (s : State) : Host.Outcome State Fault Refusal :=
  match s.dlu.line with
  | .haltAll back =>
    if s.working then
      let r := match back with
        | some (x, f) => s.haltSent.resume x f
        | none => (s.haltSent, [])
      finish (r.2 ++ [.arbitrate]) r.1
    else if s.power.phase = .frozen then .next s.haltSent else .next s
  | _ => .next s

end Sys2Proof.Machine
end

