-- ==== Sys2Proof/Machine/Tables.lean ====
section
/-! DEFINITION. Requests about the site tables, lane configurations, prices, site parameters, the clock and the table image (R34 to R40, R104, R105, R147, R150, R188, R190, R197). -/

namespace Sys2Proof.Machine

open Sys2Proof

/-! ### Replies (R196) -/

/-- DONE with reason NONE (R196). -/
def Reply.done (c : Contents) : Reply := ⟨.done, .none, c⟩

/-- PARTLY DONE (R196). -/
def Reply.partly (r : ReplyReason) (c : Contents) : Reply := ⟨.partly, r, c⟩

/-- REFUSED, with no contents (R196). -/
def Reply.refused (r : ReplyReason) : Reply := ⟨.refused, r, .nothing⟩

/-- What a request comes to: the state after its effects, the work it leaves to be taken in the same event, and its reply (R194). -/
structure Served where
  state : State
  works : List Work
  reply : Reply
deriving DecidableEq, Repr

/-- A refusal that changes nothing (R196). -/
def State.refuse (s : State) (r : ReplyReason) : Served := ⟨s, [], .refused r⟩

/-- The load state is LOADING. -/
def State.loading (s : State) : Bool := decide (s.til.load = .loading)

/-- A SAVE TABLES is in progress. -/
def State.saving (s : State) : Bool := s.til.save.isSome

/-! ### LOAD TABLE (R36 to R39) -/

/-- The table that LOAD TABLE's entries are for. -/
def tableOf : LoadEntries → Option TableName
  | .range _ => some .range
  | .program _ => some .program
  | .deny _ => some .deny
  | .product _ => some .product
  | .unknown _ => none

/-- The entry count. -/
def entryCount : LoadEntries → Nat
  | .range es => es.length
  | .program es => es.length
  | .deny es => es.length
  | .product es => es.length
  | .unknown _ => 0

/-- A RANGE entry passes (R38): of length 0, or of a length in 4..10 with every prefix digit it carries a decimal digit, those beyond the length too, and a target in range. An entry with fewer digits than its length does not pass: DESIGN CHOICE, notes/assumptions/12.md. -/
def rangeGood (e : RangeEntry) : Bool :=
  decide (e.length = 0) ||
    (decide (4 ≤ e.length ∧ e.length ≤ 10 ∧ e.length ≤ e.digits.length) && (digitsOf e.digits).isSome &&
      match e.target with
      | .excluded => true
      | .program n => (idOf 32 n.toNat).isSome)

/-- The prompt kinds that codes spell, each a prompt kind. -/
def promptsOf : List Byte → Option (List PromptKind)
  | [] => some []
  | b :: bs =>
    match promptKindOf b.toNat, promptsOf bs with
    | some k, some ks => some (k :: ks)
    | _, _ => none

/-- A prompt list passes: at most 4 kinds, none twice, not LANE (R38). -/
def promptListGood (ks : List PromptKind) : Bool :=
  decide (ks.length ≤ 4) && decide ks.Nodup && !(ks.any fun k => decide (k = .lane))

/-- A volume limit is absent or in 100..200,000 cl (R38). -/
def limitGood (present : Bool) (v : BitVec 32) : Bool := !present || decide (100 ≤ v.toNat ∧ v.toNat ≤ 200000)

/-- An amount lies in 1..999,999 cents (R38). -/
def amountGood (v : BitVec 32) : Bool := decide (1 ≤ v.toNat ∧ v.toNat ≤ Config.maxAmount)

/-- A limit where its presence bit is set (R199). -/
def limitOf (present : Bool) (v : BitVec 32) : Option Nat := if present then some v.toNat else none

/-- A PROGRAM entry as its table holds it, where it passes; one of kind NONE is checked for its kind only and written empty (R38). -/
def programOf (f : ProgramFields) : Option Program :=
  match programKindOf f.kind.toNat with
  | none => none
  | some .unused => some emptyProgram
  | some kind =>
    match promptsOf f.prompts with
    | none => none
    | some ks =>
      if promptListGood ks && (decide (kind ≠ .bank) || ks.isEmpty) && amountGood f.requested &&
          limitGood (f.limits.getLsbD 0) f.dieselLimit && limitGood (f.limits.getLsbD 1) f.defLimit &&
          amountGood f.standInAmount && decide (1 ≤ f.standInUses.toNat ∧ f.standInUses.toNat ≤ 15) then
        some ⟨kind, ks, f.permitted, f.requested.toNat, limitOf (f.limits.getLsbD 0) f.dieselLimit,
          limitOf (f.limits.getLsbD 1) f.defLimit, f.standIn, f.standInAmount.toNat, f.standInUses.toNat⟩
      else none

/-- A DENY entry as its slot holds it, where it passes: empty, or 12 to 19 digits (R38). -/
def denyOf (bs : List Byte) : Option Digits :=
  match digitsOf bs with
  | some ds => if ds = [] ∨ (12 ≤ ds.length ∧ ds.length ≤ 19) then some ds else none
  | none => none

/-- A PRODUCT entry as its table holds it, where it passes (R38). -/
def productOf (f : ProductFields) : Option ProductEntry :=
  match productClassOf f.cls.toNat with
  | some k => if f.price.toNat ≤ Config.maxPrice then some ⟨k, f.price.toNat, none⟩ else none
  | none => none

/-- Every entry passes the checks of its table's form (R38). -/
def entriesGood : LoadEntries → Bool
  | .range es => es.all rangeGood
  | .program es => es.all fun e => (programOf e).isSome
  | .deny es => es.all fun e => (denyOf e).isSome
  | .product es => es.all fun e => (productOf e).isSome
  | .unknown _ => false

/-- The start index of a LOAD TABLE (R36). -/
def CardUnit.startIndex (u : CardUnit) (t : TableName) (start : StartField) : Nat :=
  if start.mode.toNat = 1 then start.index.toNat
  else
    match u.pointer with
    | some (t', n) => if t' = t then n else 0
    | none => 0

/-- The start field is an explicit index within the table, or CONTINUE (R37 case 5, R195). A start mode other than 1 and 2 is a bad value: DEDUCED, notes/assumptions/38.md. -/
def startGood (t : TableName) (start : StartField) : Bool :=
  if start.mode.toNat = 1 then decide (start.index.toNat < t.size) else decide (start.mode.toNat = 2)

/-- Some lane has a bound context. -/
def State.someBound (s : State) : Bool := (List.finRange 12).any fun l => (s.bound l).isSome

/-- Entries written at successive indices from a start index; those beyond the table's end are dropped (R39). -/
def writeFrom {n : Nat} {α : Type} (t : Tab n α) : Nat → List α → Tab n α
  | _, [] => t
  | i, x :: xs => writeFrom (if h : i < n then t.set ⟨i, h⟩ x else t) (i + 1) xs

/-- A lane's prices in force with those of some loaded products made the new ones (R34). -/
def loadPrices (x : Lane) (i : Nat) (es : List ProductEntry) : Lane :=
  { x with prices := writeFrom x.prices i (es.map (·.price)) }

/-- The tables after a LOAD TABLE's entries are written (R34, R39). -/
def State.writeEntries (s : State) (i : Nat) : LoadEntries → State
  | .range es => { s with csu := { s.csu with ranges := writeFrom s.csu.ranges i es } }
  | .program es => { s with csu := { s.csu with programs := writeFrom s.csu.programs i (es.filterMap programOf) } }
  | .deny es => { s with csu := { s.csu with deny := writeFrom s.csu.deny i (es.filterMap denyOf) } }
  | .product es =>
    { s with
      lau := { s.lau with products := writeFrom s.lau.products i (es.filterMap productOf) }
      dcu := { s.dcu with lanes := s.dcu.lanes.map fun x => loadPrices x i (es.filterMap productOf) } }
  | .unknown _ => s

/-- The load pointer set (R36). -/
def State.setPointer (s : State) (t : TableName) (n : Nat) : State := { s with csu := { s.csu with pointer := some (t, n) } }

/-- A LOAD TABLE that passed R37: written, the pointer moved, the count written and the pointer's index returned (R39). -/
def State.loadEntries (s : State) (t : TableName) (start : StartField) (es : LoadEntries) : Served :=
  let i := s.csu.startIndex t start
  let written := Nat.min (entryCount es) (t.size - i)
  let s := (s.writeEntries i es).setPointer t (i + written)
  ⟨s, [], if written < entryCount es then .partly .tableEnd (.loaded written (i + written))
    else .done (.loaded written (i + written))⟩

/-- LOAD TABLE: the cases of R37 in their order, then R39. -/
def State.serveLoadTable (s : State) (start : StartField) (es : LoadEntries) : Served :=
  if s.loading then s.refuse .loading
  else if s.saving then s.refuse .busy
  else
    match tableOf es with
    | none => s.refuse .badValue
    | some t =>
      if !(decide (1 ≤ entryCount es ∧ entryCount es ≤ 8) && startGood t start && entriesGood es) then s.refuse .badValue
      else if decide (t = .product) && s.someBound then s.refuse .wrongState
      else s.loadEntries t start es

/-! ### READ TABLE (R40) -/

/-- Up to `n` entries of a table from an index (R40). -/
def readFrom {m : Nat} {α : Type} (t : Tab m α) (i n : Nat) : List α := (t.items.drop i).take n

/-- The entries READ TABLE returns (R40). -/
def State.tableEntries (s : State) (i n : Nat) : TableName → TableEntries
  | .range => .range (readFrom s.csu.ranges i n)
  | .program => .program (readFrom s.csu.programs i n)
  | .deny => .deny (readFrom s.csu.deny i n)
  | .product => .product (readFrom s.lau.products i n)

/-- READ TABLE (R40). -/
def State.serveReadTable (s : State) (table start count : Byte) : Served :=
  if s.loading then s.refuse .loading
  else
    match tableNameOf table.toNat with
    | none => s.refuse .badValue
    | some t =>
      if decide (1 ≤ count.toNat ∧ count.toNat ≤ 8) && decide (start.toNat < t.size) then
        ⟨s, [], .done (.entries (s.tableEntries start.toNat count.toNat t))⟩
      else s.refuse .badValue

/-! ### SET PRICES (R150) -/

/-- The pairs of a SET PRICES read, where all of them name a product and a price in range. -/
def pricePairs : List (Byte × BitVec 32) → Option (List (Product × Nat))
  | [] => some []
  | (p, v) :: rest =>
    match idOf 8 p.toNat, pricePairs rest with
    | some q, some qs => if v.toNat ≤ Config.maxPrice then some ((q, v.toNat) :: qs) else none
    | _, _ => none

/-- The pairs a SET PRICES acts on, where it passes case 4 of R150. -/
def goodPricePairs (ps : List (Byte × BitVec 32)) : Option (List (Product × Nat)) :=
  match pricePairs ps with
  | some qs => if 1 ≤ qs.length ∧ qs.length ≤ 8 ∧ (qs.map (·.1)).Nodup then some qs else none
  | none => none

/-- Each named product's pending price becomes the price given (R150 step 1). -/
def PriceUnit.setPending (u : PriceUnit) (qs : List (Product × Nat)) : PriceUnit :=
  { u with products := qs.foldl (fun t q => t.modify q.1 fun e => { e with pending := some q.2 }) u.products }

/-- Every lane with a bound context joins the adoption list (R150 step 2). -/
def State.listBusyLanes (s : State) : State :=
  { s with lau := { s.lau with adoption := .build 12 fun l => s.lau.adoption.get l || (s.bound l).isSome } }

/-- Every lane with no bound context adopts, in lane order (R148, R150 step 3). -/
def State.freeLanesAdopt (s : State) : State :=
  ((List.finRange 12).filter fun l => (s.bound l).isNone).foldl State.adopt s

/-- A SET PRICES that passed its tests (R150). -/
def State.setPrices (s : State) (qs : List (Product × Nat)) : State :=
  { s with lau := s.lau.setPending qs }.listBusyLanes.freeLanesAdopt.settlePrices

/-- SET PRICES (R150). -/
def State.serveSetPrices (s : State) (ps : List (Byte × BitVec 32)) : Served :=
  if s.loading then s.refuse .loading
  else if s.til.load = .noTables then s.refuse .noTables
  else if s.saving then s.refuse .busy
  else
    match goodPricePairs ps with
    | none => s.refuse .badValue
    | some qs => ⟨s.setPrices qs, [], .done (.adopting (s.setPrices qs).adoptingCount)⟩

/-! ### SET LANE (R104, R105) -/

/-- One channel of a SET LANE: absent, or its setup where every field is in range (R104 case 3). -/
def channelOf (f : LaneChannelFields) : Option (Option ChannelSetup) :=
  if f.present then
    match idOf 24 f.head.toNat, headChannelOf f.headChannel.toNat, idOf 8 f.product.toNat with
    | some h, some hc, some p => if 10 ≤ f.k.toNat ∧ f.k.toNat ≤ 1000 then some (some ⟨h, hc, p, f.k.toNat⟩) else none
    | _, _, _ => none
  else some none

/-- A terminal number: 0 for none, or 1..8 (R103). -/
def terminalOf (b : Byte) : Option (Option TerminalId) := if b = 0 then some none else (idOf 8 b.toNat).map some

/-- The lane and configuration a SET LANE carries, where its fields are in range (R104 case 3). -/
def laneConfigOf (b : SetLaneBody) : Option (LaneId × LaneConfig) :=
  match idOf 12 b.lane.toNat, terminalOf b.terminal, channelOf b.channels.a, channelOf b.channels.b,
      channelOf b.channels.c with
  | some l, some t, some x, some y, some z => some (l, ⟨b.isOpen, t, ⟨x, y, z⟩⟩)
  | _, _, _, _, _ => none

/-- Every lane's configuration with one lane's replaced. -/
def State.configsWith (s : State) (l : LaneId) (x : LaneConfig) : List LaneConfig :=
  ((s.dcu.lanes.map (·.config)).set l x).items

/-- No two present channels name the same head address and head channel (R104 case 4). -/
def channelsDistinct (cs : List LaneConfig) : Bool :=
  decide ((cs.flatMap fun c => c.channels.toList.filterMap fun x => x.map fun y => (y.head, y.headChannel)).Nodup)

/-- The terminal a configuration names serves at most 2 lanes (R104 case 5). -/
def terminalFits (cs : List LaneConfig) (t : Option TerminalId) : Bool :=
  decide (t = none) || decide ((cs.filter fun c => decide (c.terminal = t)).length ≤ 2)

/-- The lane is IN USE, FAULT STOP or LOCKED (R104 case 6). -/
def LaneState.busy : LaneState → Bool
  | .inUse | .faultStop | .locked => true
  | _ => false

/-- Two configurations differ in no field but the open flag (R104 case 6). -/
def LaneConfig.sameButOpen (x y : LaneConfig) : Bool := decide (x.terminal = y.terminal) && decide (x.channels = y.channels)

/-- The lane state after a SET LANE (R105). -/
def stateAfterOpen (isOpen : Bool) : LaneState → LaneState
  | .closed => if isOpen then .idle else .closed
  | .idle => if isOpen then .idle else .closed
  | st => st

/-- A channel whose present flag, head address or head channel a SET LANE changes (R105). -/
def channelMoved (x y : Option ChannelSetup) : Bool :=
  decide (x.map (fun z => (z.head, z.headChannel)) ≠ y.map fun z => (z.head, z.headChannel))

/-- A lane after a SET LANE (R105). -/
def Lane.configure (x : Lane) (c : LaneConfig) : Lane :=
  { x with
    config := c
    state := stateAfterOpen c.isOpen x.state
    channels := .build fun ch =>
      let y := x.channels.get ch
      if channelMoved (x.config.channels.get ch) (c.channels.get ch) then { y with nozzle := .unknown, quiet := 0 } else y }

/-- SET LANE: the cases of R104 in their order, then R105. Cases 4 to 6 are tested against the lanes' table configurations, also where a lane's bound context came through a warm start with other channels in its records: DEDUCED, notes/assumptions/44.md. -/
def State.serveSetLane (s : State) (b : SetLaneBody) : Served :=
  if s.loading then s.refuse .loading
  else if s.saving then s.refuse .busy
  else
    match laneConfigOf b with
    | none => s.refuse .badValue
    | some (l, c) =>
      if !(channelsDistinct (s.configsWith l c) && terminalFits (s.configsWith l c) c.terminal) then s.refuse .badValue
      else if (s.lane l).state.busy && !((s.lane l).config.sameButOpen c) then s.refuse .wrongState
      else ⟨s.modLane l fun x => x.configure c, [], .done .nothing⟩

/-! ### SET SITE PARAMETERS (R197) -/

/-- A value brought within a parameter's range (R197). -/
def clampParameter (i : Fin 14) (v : Nat) : Nat :=
  if v < Config.parameterLow i then Config.parameterLow i
  else if Config.parameterHigh i < v then Config.parameterHigh i else v

/-- The pairs of a SET SITE PARAMETERS read, where each names a parameter 1..14. -/
def parameterPairs : List (Byte × BitVec 16) → Option (List (Fin 14 × Nat))
  | [] => some []
  | (p, v) :: rest =>
    match idOf 14 p.toNat, parameterPairs rest with
    | some i, some xs => some ((i, v.toNat) :: xs)
    | _, _ => none

/-- The pairs a SET SITE PARAMETERS acts on, where it passes (R197). -/
def goodParameterPairs (ps : List (Byte × BitVec 16)) : Option (List (Fin 14 × Nat)) :=
  match parameterPairs ps with
  | some xs => if 1 ≤ xs.length ∧ xs.length ≤ 14 ∧ (xs.map (·.1)).Nodup then some xs else none
  | none => none

/-- The parameters after the named ones take their values (R197). -/
def State.setParameters (s : State) (xs : List (Fin 14 × Nat)) : State :=
  { s with til := { s.til with params := xs.foldl (fun t x => t.set x.1 (clampParameter x.1 x.2)) s.til.params } }

/-- SET SITE PARAMETERS (R197). -/
def State.serveSetSiteParameters (s : State) (ps : List (Byte × BitVec 16)) : Served :=
  if s.loading then s.refuse .loading
  else
    match goodParameterPairs ps with
    | none => s.refuse .badValue
    | some xs =>
      let pairs := xs.map fun x => (numberOf x.1, clampParameter x.1 x.2)
      ⟨s.setParameters xs, [],
        if xs.all fun x => decide (clampParameter x.1 x.2 = x.2) then .done (.parameters pairs)
        else .partly .clamped (.parameters pairs)⟩

/-! ### SET CLOCK (R188) -/

/-- The reading a SET CLOCK carries. -/
def readingOf (b : SetClockBody) : DateTime :=
  ⟨b.year.toNat, b.month.toNat, b.day.toNat, b.hour.toNat, b.minute.toNat, b.second.toNat⟩

/-- SET CLOCK, taken in every load state (R188). -/
def State.serveSetClock (s : State) (b : SetClockBody) : Served :=
  if (readingOf b).legal then
    ⟨{ s with rd := { s.rd with clock := readingOf b, clockTenths := 0, clockValid := true } }, [], .done .nothing⟩
  else s.refuse .badValue

/-! ### SAVE TABLES (R190) -/

/-- The copy a save takes of the tables, lane configurations and site parameters; pending prices are not copied (R190). -/
def State.imageCopy (s : State) : SiteImage :=
  { ranges := s.csu.ranges, programs := s.csu.programs, deny := s.csu.deny,
    products := s.lau.products.map fun e => { e with pending := none },
    lanes := s.dcu.lanes.map (·.config), params := s.til.params }

/-- SAVE TABLES: a save marked in progress; the image is erased, and none stands in the flash until the save completes (R190; notes/assumptions/17.md). -/
def State.serveSaveTables (s : State) : Served :=
  if s.loading then s.refuse .loading
  else if s.saving then s.refuse .busy
  else ⟨{ s with til := { s.til with save := some s.imageCopy, flash := none } }, [], .done .nothing⟩

/-- The image that a save writes: the header over the body, and the body (R190). -/
def FlashImage.write (body : SiteImage) : FlashImage := ⟨imageLength, crc16 body.bytes, body⟩

/-- The CRC in the header is that of the body (R189, R190). -/
def FlashImage.checkGood (image : FlashImage) : Bool := decide (crc16 image.body.bytes = image.check)

/-- The detail of SAVE FAILED (R190). -/
def saveFailureDetail : SaveFailure → Nat
  | .noAnswer => 1
  | .badReadBack => 2

/-- A save that fails: no image is left, the tables in use and the load state stay (R190). -/
def State.saveFails (s : State) (why : SaveFailure) : State :=
  { s with til := { s.til with save := none, flash := none } }.queueEvent .saveFailed .nothing (saveFailureDetail why)

/-- A save whose body and header have been written and read back: with its CRC good the flash holds the image, SAVE DONE is queued, and NO TABLES becomes RUN (R190). -/
def State.saveDone (s : State) (image : FlashImage) : State :=
  if image.checkGood then
    { s with til := { s.til with
        save := none, flash := some image,
        load := if s.til.load = LoadState.noTables then .run else s.til.load } }.queueEvent .saveDone .nothing 0
  else s.saveFails .badReadBack

/-- SAVE_COMPLETE: the copy is written with its header and read back (R190). -/
def execSaveComplete (s : State) : Host.Outcome State Fault Refusal :=
  .next (s.whenWorking fun s =>
    match s.til.save with
    | some body => s.saveDone (.write body)
    | none => s)

/-- SAVE_FAILED: the flash did not answer, or what was read back was bad (R190). -/
def execSaveFailed (why : SaveFailure) (s : State) : Host.Outcome State Fault Refusal :=
  .next (s.whenWorking fun s => if s.saving then s.saveFails why else s)

/-! ### The end of the table load (R189) -/

/-- The recovery timers of contexts in RECOVERING started (R186, R189). -/
def State.startRecovery (s : State) : State :=
  { s with rd := { s.rd with contexts := s.rd.contexts.map fun c =>
      if c.state = .recovering then { c with deadline := some (.start s.recoveryTime) } else c } }

/-- A lane configured from the image: its configuration and prices, and IDLE where it is CLOSED, open and not bound (R103, R189). -/
def Lane.load (x : Lane) (c : LaneConfig) (prices : Tab 8 Nat) (bound : Bool) : Lane :=
  { x with config := c, prices := prices,
           state := if decide (x.state = .closed) && !bound && c.isOpen then .idle else x.state }

/-- A valid image loaded: RUN (R189). -/
def State.loadImage (s : State) (image : SiteImage) : State :=
  let prices := image.products.map (·.price)
  { s with
    csu := { s.csu with ranges := image.ranges, programs := image.programs, deny := image.deny }
    lau := { s.lau with products := image.products }
    dcu := ⟨.build 12 fun l => (s.lane l).load (image.lanes.get l) prices (s.bound l).isSome⟩
    til := { s.til with load := .run, params := image.params } }

/-- No valid image: NO TABLES, the tables empty, TABLES INVALID (R41, R189). The lanes' configurations have been empty since the start: notes/assumptions/18.md. -/
def State.loadNothing (s : State) (detail : Nat) : State :=
  { s with
    csu := { CardUnit.starting with pointer := s.csu.pointer }
    lau := { s.lau with products := PriceUnit.starting.products }
    til := { s.til with load := .noTables } }.queueEvent .tablesInvalid .nothing detail

/-- What the load reads: the body of a valid image, or the detail of TABLES INVALID: 1 where the flash does not answer, 2 where the length is wrong, 3 where the CRC fails (R189). An erased image has no valid header; what its length reads as is open: notes/assumptions/17.md. -/
def readImage (answered : Bool) : Option FlashImage → Except Nat SiteImage
  | none => .error (if !answered then 1 else if Config.erasedLength = imageLength then 3 else 2)
  | some image =>
    if !answered then .error 1
    else if image.length ≠ imageLength then .error 2
    else if image.checkGood then .ok image.body else .error 3

/-- What the load comes to: RUN with a valid image, NO TABLES otherwise (R189). -/
def State.endLoad (s : State) (answered : Bool) : State :=
  match readImage answered s.til.flash with
  | .ok body => s.loadImage body
  | .error detail => s.loadNothing detail

/-- TABLE_LOAD_END: the header and body have been read, where the flash answered (R189). -/
def execTableLoadEnd (answered : Bool) (s : State) : Host.Outcome State Fault Refusal :=
  .next (s.whenWorking fun s => if s.loading then (s.endLoad answered).startRecovery else s)

end Sys2Proof.Machine
end

