-- ==== Sys2Proof/Machine/Reports.lean ====
section
/-! DEFINITION. Requests that report: STATUS, LANE STATE, LINK STATE, NEXT AUTH, NEXT RECORD, NEXT EVENT, SET EVENT LEVELS, READ and CLEAR CAPTURE (R49, R50, R102, R168, R173, R174, R176 to R178). -/

namespace Sys2Proof.Machine

open Sys2Proof

/-- What STATUS reports (R176). -/
def State.statusReport (s : State) : StatusReport :=
  { load := s.til.load, saving := s.saving, online := s.ae.online, latch := s.rd.latch,
    sourceHost := s.rd.sourceHost, sourceEstop := s.rd.sourceEstop, estopHeld := s.scc.estopHeld,
    clockValid := s.rd.clockValid, freeContexts := s.rd.freeList.length, offered := s.offeredCount,
    records := s.rd.records.length, events := s.reu.events.length, dropped := s.reu.dropped,
    captured := s.dlu.capture.isSome, lanes := s.dcu.lanes.map (·.state), errors := s.hlu.errors }

/-- STATUS (R176). -/
def State.serveStatus (s : State) : Served := ⟨s, [], .done (.status s.statusReport)⟩

/-- What LANE STATE reports of a bound context's channel (R177). -/
def State.boundChannel (s : State) (l : LaneId) (ch : Channel) (r : ChannelRecord) : BoundChannelReport :=
  ⟨r.state, r.extended, r.points, s.pendingLimit l ch, r.used, r.endCause⟩

/-- What LANE STATE reports of a bound context (R177). -/
def State.boundReport (s : State) (l : LaneId) (i : ContextId) : BoundReport :=
  let c := s.ctx i
  ⟨i, c.transaction, c.state, c.allocation.phase, .build fun ch => s.boundChannel l ch (c.records.get ch)⟩

/-- What LANE STATE reports (R177). The channels are those of the bound context's records, else of the configuration (R103). -/
def State.laneReport (s : State) (l : LaneId) : LaneReport :=
  let x := s.lane l
  { config := { x.config with channels := .build (s.setup l) }, state := x.state, fault := x.fault, prices := x.prices, adopting := s.lau.adoption.get l,
    cut := s.scc.cut.get l,
    channels := .build fun ch =>
      (s.setup l ch).map fun _ =>
        let y := x.channels.get ch
        ⟨y.nozzle, y.handed, y.quiet⟩
    bound := (s.bound l).map (s.boundReport l) }

/-- LANE STATE (R177). -/
def State.serveLaneState (s : State) (lane : Byte) : Served :=
  match idOf 12 lane.toNat with
  | some l => ⟨s, [], .done (.lane (s.laneReport l))⟩
  | none => s.refuse .badValue

/-- What LINK STATE reports of a terminal (R178). -/
def Terminal.report (x : Terminal) : TerminalReport := ⟨x.online, x.mode, x.failures, x.parity, x.framing, x.overrun⟩

/-- What LINK STATE reports of a head (R178). -/
def Head.report (x : Head) : HeadReport :=
  ⟨x.online, x.failures, x.failedTotal, x.singleFrame, x.commands.length, x.last, x.totalizer⟩

/-- LINK STATE (R178). -/
def State.serveLinkState (s : State) : Served :=
  ⟨s, [], .done (.links (s.tlu.terminals.map Terminal.report) (s.dlu.heads.map Head.report))⟩

/-! ### NEXT AUTH (R49, R50) -/

/-- The whole seconds for which a context has stood in the request list (R50). -/
def Context.age (c : Context) : Nat := (c.deadline.map fun t => (t.full - t.left) / 10).getD 0

/-- The authorization request of a context (R50). -/
def State.authRequest (s : State) (i : ContextId) : AuthRequest :=
  let c := s.ctx i
  { transaction := c.transaction, context := i, terminal := c.terminal, lane := c.lane, card := c.card,
    program := c.program, entries := c.entries, amount := c.requested, products := c.requestedSet.getD 0, age := c.age }

/-- The oldest context of the request list that is OFFERED (R49). -/
def State.oldestOffered (s : State) : Option ContextId := s.ae.requests.find? fun i => decide ((s.ctx i).state = .offered)

/-- NEXT AUTH (R49). -/
def State.serveNextAuth (s : State) : Served :=
  if s.loading then s.refuse .loading
  else
    match s.oldestOffered with
    | some i =>
      ⟨(s.modCtx i fun c => { c with state := .taken }).testAttn, [], .done (.authRequest (some (s.authRequest i)))⟩
    | none => ⟨s, [], .done (.authRequest none)⟩

/-! ### The queues (R168, R173, R174) -/

/-- NEXT RECORD, taken in every load state (R168). -/
def State.serveNextRecord (s : State) : Served :=
  match s.rd.records with
  | r :: rest =>
    ⟨{ s with rd := { s.rd with records := rest } }.testAttn, [], .done (.record (some r) rest.length)⟩
  | [] => ⟨s, [], .done (.record none 0)⟩

/-- NEXT EVENT, taken in every load state (R173). -/
def State.serveNextEvent (s : State) : Served :=
  match s.reu.events with
  | e :: rest =>
    ⟨{ s with reu := { s.reu with events := rest } }.testAttn, [], .done (.event (some e) rest.length s.reu.dropped)⟩
  | [] => ⟨s, [], .done (.event none 0 s.reu.dropped)⟩

/-- The pairs of a SET EVENT LEVELS read, where each names a settable kind and a level 0..6 (R174). -/
def levelPairs : List (Byte × Byte) → Option (List (Fin 20 × Nat))
  | [] => some []
  | (k, v) :: rest =>
    match settableOf k.toNat, levelPairs rest with
    | some i, some xs => if v.toNat ≤ 6 then some ((i, v.toNat) :: xs) else none
    | _, _ => none

/-- The pairs a SET EVENT LEVELS acts on, where the whole request passes (R174). -/
def goodLevelPairs (mask : Byte) (ps : List (Byte × Byte)) : Option (List (Fin 20 × Nat)) :=
  match levelPairs ps with
  | some xs => if mask.toNat ≤ 7 ∧ (xs.map (·.1)).Nodup then some xs else none
  | none => none

/-- A queued event of a named kind takes the kind's new level (R174). -/
def relevel (xs : List (Fin 20 × Nat)) (e : Event) : Event :=
  match xs.find? fun x => decide (x.1 = e.kind.index) with
  | some x => { e with level := x.2 }
  | none => e

/-- The event unit after a SET EVENT LEVELS (R174). -/
def EventUnit.setLevels (u : EventUnit) (mask : Nat) (xs : List (Fin 20 × Nat)) : EventUnit :=
  { u with mask := mask, levels := xs.foldl (fun t x => t.set x.1 x.2) u.levels, events := u.events.map (relevel xs) }

/-- SET EVENT LEVELS (R174). -/
def State.serveSetEventLevels (s : State) (mask : Byte) (ps : List (Byte × Byte)) : Served :=
  if s.loading then s.refuse .loading
  else
    match goodLevelPairs mask ps with
    | none => s.refuse .badValue
    | some xs => ⟨{ s with reu := s.reu.setLevels mask.toNat xs }.testAttn, [], .done .nothing⟩

/-! ### The fault capture (R102) -/

/-- READ CAPTURE (R102). -/
def State.serveReadCapture (s : State) : Served :=
  if s.loading then s.refuse .loading
  else ⟨s, [], .done (.capture s.dlu.capture (if s.dlu.capture.isSome then s.dlu.further else 0))⟩

/-- CLEAR CAPTURE (R102). -/
def State.serveClearCapture (s : State) : Served :=
  if s.loading then s.refuse .loading
  else ⟨{ s with dlu := { s.dlu with capture := none, further := 0 } }, [], .done .nothing⟩

end Sys2Proof.Machine
end

