-- ==== Sys2Proof/Machine/Forecourt.lean ====
section
/-! DEFINITION. AUTH RESULT, UPLINK STATE (R45, R52 to R57), the forecourt's stops and the lane's reset (chapter 8, R131), and the ESTOP input. -/

namespace Sys2Proof.Machine

open Sys2Proof

/-! ### AUTH RESULT (R52 to R57) -/

/-- A character in the printable range 0x20..0x7E (R52). -/
def printable (b : Byte) : Bool := decide (0x20 ≤ b.toNat ∧ b.toNat ≤ 0x7E)

/-- The approval code's characters: as many as its length says (section 11.6). -/
def codeOf (b : AuthResultBody) : List Byte := b.codeChars.take b.codeLength.toNat

/-- The code codes of AUTH RESULT: 1 APPROVE, 2 DECLINE (section 11.6). -/
def approves (b : AuthResultBody) : Bool := decide (b.result = 1)

/-- The checks made before the transaction is looked for (R52, R199). That an approval code length above 8 is a bad value is DEDUCED: notes/assumptions/38.md. -/
def authResultGood (b : AuthResultBody) : Bool :=
  decide (b.transaction ≠ 0) &&
    (decide (b.result = 2) ||
      (approves b && decide (b.amount.toNat ≤ Config.maxAmount) && decide (b.codeLength.toNat ≤ 8) && (codeOf b).all printable))

/-- The lower of a value and a program's limit, where it has one. -/
def lowerOf (v : Nat) : Option Nat → Nat
  | some p => Nat.min v p
  | none => v

/-- A volume limit of the result brought within 100..200,000 cl and the program's limit of its class (R54 step 3). -/
def clampLimit (v : Nat) (own : Option Nat) : Nat := lowerOf (Nat.min (Nat.max v 100) 200000) own

/-- The limit of a class in a host decision: the result's, clamped, or the program copy's (R54 step 3). -/
def hostLimit (present : Bool) (v : BitVec 32) (own : Option Nat) : Option Nat :=
  if present then some (clampLimit v.toNat own) else own

/-- The approval that an APPROVE gives a context (R54). -/
def hostApproval (c : Context) (b : AuthResultBody) : Approval :=
  { amount := Nat.min b.amount.toNat c.requested
    permitted := b.products &&& c.requestedSet.getD 0
    dieselLimit := hostLimit (b.limits.getLsbD 0) b.dieselLimit (c.copy.bind (·.dieselLimit))
    defLimit := hostLimit (b.limits.getLsbD 1) b.defLimit (c.copy.bind (·.defLimit))
    code := if codeOf b = [] then none else some (codeOf b) }

/-- A limit that the clamp moved (R54). -/
def limitMoved (present : Bool) (v : BitVec 32) (own : Option Nat) : Bool :=
  present && decide (clampLimit v.toNat own ≠ v.toNat)

/-- Some step lowered the amount, narrowed the set, or moved a limit (R54). -/
def approvalClamped (c : Context) (b : AuthResultBody) : Bool :=
  let a := hostApproval c b
  decide (a.amount ≠ b.amount.toNat) || decide (a.permitted ≠ b.products) ||
    limitMoved (b.limits.getLsbD 0) b.dieselLimit (c.copy.bind (·.dieselLimit)) ||
    limitMoved (b.limits.getLsbD 1) b.defLimit (c.copy.bind (·.defLimit))

/-- An APPROVE applied to a context in OFFERED or TAKEN (R54). -/
def State.applyApprove (s : State) (i : ContextId) (b : AuthResultBody) : Served :=
  let c := s.ctx i
  let a := hostApproval c b
  if a.amount = 0 ∨ a.permitted = 0 then ⟨s.declineBy i .host .hostDeclined, [], .partly .clamped .nothing⟩
  else
    ⟨s.approve i .host a, [],
      if approvalClamped c b then .partly .clamped .nothing else .done .nothing⟩

/-- An AUTH RESULT applied to a context in OFFERED or TAKEN (R54, R55). -/
def State.applyResult (s : State) (i : ContextId) (b : AuthResultBody) : Served :=
  if approves b then s.applyApprove i b else ⟨s.declineBy i .host .hostDeclined, [], .done .nothing⟩

/-- A late decline of a context decided by stand-in (R56). -/
def State.lateDecline (s : State) (i : ContextId) : State :=
  let s := s.modCtx i Context.flagLateDecline
  let c := s.ctx i
  let s := s.queueEvent .lateDecline (laneSubject c.lane) c.transaction
  if c.state = .armed ∧ c.anyPastIdle = false then s.cancel i .hostLateDecline else s

/-- A decline for a transaction whose record is still queued (R57). -/
def State.declineRecord (s : State) (r : Record) : State :=
  (s.markRecord r.transaction).queueEvent .lateDecline (laneSubject r.lane) r.transaction

/-- A checked AUTH RESULT by what its transaction number finds (R53). -/
def State.matchResult (s : State) (b : AuthResultBody) : Served :=
  match s.findTransaction b.transaction.toNat with
  | some i =>
    match (s.ctx i).state with
    | .offered | .taken => s.applyResult i b
    | .prompting => s.refuse .unknownTransaction
    | _ =>
      if decide ((s.ctx i).source = some .standIn) && !approves b then ⟨s.lateDecline i, [], .refused .tooLate⟩
      else s.refuse .tooLate
  | none =>
    match s.findRecord b.transaction.toNat with
    | some r => if approves b then s.refuse .tooLate else ⟨s.declineRecord r, [], .refused .tooLate⟩
    | none => s.refuse .unknownTransaction

/-- AUTH RESULT (R52, R53): LOADING is tested before the values (notes/assumptions/38.md). -/
def State.serveAuthResult (s : State) (b : AuthResultBody) : Served :=
  if s.loading then s.refuse .loading
  else if authResultGood b then s.matchResult b
  else s.refuse .badValue

/-- UPLINK STATE (R45): 1 ONLINE, 2 OFFLINE; LOADING is tested before the value (notes/assumptions/38.md). -/
def State.serveUplinkState (s : State) (value : Byte) : Served :=
  if s.loading then s.refuse .loading
  else if value = 1 then ⟨{ s with ae := { s.ae with online := true } }, [], .done .nothing⟩
  else if value = 2 then ⟨s.loseUplink, [], .done .nothing⟩
  else s.refuse .badValue

/-! ### STOP LANE, CANCEL TRANSACTION, RESET LANE (R131, R163, R164) -/

/-- A host stop of a context, with the reply of R163 and R164: RECOVERING refuses it. -/
def State.stopContext (s : State) (i : ContextId) (r : Reason) (contents : Contents) : Served :=
  if (s.ctx i).state = .recovering then ⟨s, [], ⟨.refused, .wrongState, contents⟩⟩
  else
    let t := s.hostStop i r
    ⟨t.1, t.2 ++ [.arbitrate], .done contents⟩

/-- STOP LANE (R163): every reply that finds a bound context carries its transaction number. -/
def State.serveStopLane (s : State) (lane : Byte) : Served :=
  if s.loading then s.refuse .loading
  else
    match idOf 12 lane.toNat with
    | none => s.refuse .badValue
    | some l =>
      match s.bound l with
      | none => s.refuse .wrongState
      | some i => s.stopContext i .hostStop (.transaction (s.ctx i).transaction)

/-- CANCEL TRANSACTION (R164). -/
def State.serveCancelTransaction (s : State) (number : BitVec 32) : Served :=
  if s.loading then s.refuse .loading
  else if number = 0 then s.refuse .badValue
  else
    match s.findTransaction number.toNat with
    | some i => s.stopContext i .hostCancel .nothing
    | none => s.refuse (if (s.findRecord number.toNat).isSome then .tooLate else .unknownTransaction)

/-- Every head that serves a present channel of the lane is ONLINE (R131). -/
def State.laneHeadsOnline (s : State) (l : LaneId) : Bool :=
  Channel.letters.all fun ch => (s.setup l ch).all fun x => (s.head x.head).online

/-- A lane at the end of its lock, in the state given it (R131). -/
def Lane.reset (x : Lane) (st : LaneState) : Lane :=
  { x.clearFault with state := st, channels := x.clearFault.channels.map fun y => { y with quiet := 0 } }

/-- The lock of a lane ended: its cut line released, its lane state by the open flag, pending prices adopted (R131, R162). -/
def State.unlockLane (s : State) (l : LaneId) : State :=
  let s := s.modLane l fun x => x.reset (s.freeLaneState l)
  { s with rd := { s.rd with locks := s.rd.locks.set l false },
           scc := { s.scc with cut := s.scc.cut.set l false } }.adoptIfListed l

/-- RESET LANE (R131). -/
def State.serveResetLane (s : State) (lane : Byte) : Served :=
  if s.loading then s.refuse .loading
  else
    match idOf 12 lane.toNat with
    | none => s.refuse .badValue
    | some l =>
      if (s.lane l).state ≠ .locked then s.refuse .wrongState
      else if s.laneHeadsOnline l && s.laneQuiet l then ⟨s.unlockLane l, [], .done .nothing⟩
      else s.refuse .laneNotSafe

/-! ### The all-stop latch (R151 to R161) -/

/-- The sources of the latch (section 8.1). -/
inductive StopSource where
  | host | estop
deriving DecidableEq, Repr

/-- ALL STOP sources: 1 HOST, 2 ESTOP (section 11.5). -/
def StopSource.code : StopSource → Nat
  | .host => 1
  | .estop => 2

/-- The latch set and a source in the source set (R151). -/
def Retained.addSource (r : Retained) (x : StopSource) : Retained :=
  { r with latch := true, sourceHost := r.sourceHost || decide (x = .host), sourceEstop := r.sourceEstop || decide (x = .estop) }

/-- The release commands of one head's list withdrawn (R94). -/
def State.withdrawFrom (s : State) (h : HeadId) : State × List Work :=
  let cs := (s.head h).commands
  (s.setCommands h (cs.filter fun c => !c.releasing), (cs.filter Command.releasing).map fun c => .outcome c .withdrawn)

/-- HALT asserted and HALT ALL asked for (R153 steps 2 and 3). -/
def State.assertHalt (s : State) : State :=
  { s with scc := { s.scc with halt := true }, dlu := { s.dlu with haltPending := true } }

/-- An OPEN or RELEASE exchange on the line makes no further attempt from now on (R84, R156). -/
def State.cutOpening (s : State) : State :=
  if s.lineCommand.any Command.opening then { s with dlu := { s.dlu with cutByStop := true } } else s

/-- What a source setting the latch does (R153). The 24 lists are withdrawn, and their commands reported WITHDRAWN, from head 1 to head 24 and each in list order: DESIGN CHOICE, notes/assumptions/47.md. -/
def State.setLatch (s : State) (x : StopSource) : State × List Work :=
  let was := s.rd.latch
  let s := { s with rd := s.rd.addSource x }
  if was then (s.queueEvent .allStop .nothing x.code, [])
  else
    let r := s.assertHalt.cutOpening.gather State.withdrawFrom (List.finRange 24)
    (r.1, r.2 ++ (List.finRange 16).map Work.allStop ++ [.event .allStop .nothing x.code, .arbitrate])

/-- ALL STOP (R159). -/
def State.serveAllStop (s : State) : Served :=
  if s.loading then s.refuse .loading
  else
    let r := s.setLatch .host
    ⟨r.1, r.2, .done .nothing⟩

/-- The latch cleared, its source set emptied, HALT released (R160). -/
def State.clearLatch (s : State) : State :=
  { s with rd := { s.rd with latch := false, sourceHost := false, sourceEstop := false }, scc := { s.scc with halt := false } }

/-- ALL RESUME (R160). -/
def State.serveAllResume (s : State) : Served :=
  if s.loading then s.refuse .loading
  else if s.scc.estopHeld then s.refuse .estopHeld
  else ⟨if s.rd.latch then s.clearLatch else s, [], .done .nothing⟩

/-- The level of the ESTOP pin. -/
def State.setEstopPin (s : State) (low : Bool) : State := { s with power := { s.power with estopLow := low } }

/-- ESTOP_PRESS: ESTOP low for 0.1 s while the SCC holds it as released (R152). -/
def execEstopPress (s : State) : Host.Outcome State Fault Refusal :=
  let s := s.setEstopPin true
  if s.working && !s.scc.estopHeld then
    let r := { s with scc := { s.scc with estopHeld := true } }.setLatch .estop
    finish r.2 r.1
  else .next s

/-- ESTOP_RELEASE: ESTOP high for 0.1 s while the SCC holds it as pressed (R152). -/
def execEstopRelease (s : State) : Host.Outcome State Fault Refusal :=
  .next ((s.setEstopPin false).whenWorking fun s => { s with scc := { s.scc with estopHeld := false } })

end Sys2Proof.Machine
end

