-- ==== Sys2Proof/Machine/Power.lean ====
section
/-! DEFINITION. Power loss, starts and the pins PFAIL and RST (chapter 10). -/

namespace Sys2Proof.Machine

open Sys2Proof

/-! ### The warm start's walk (R184) -/

/-- A channel of a context that enters RECOVERING (R184). The end cause of a CLOSE queued in OPENING goes with the CLOSE, and the channel takes STOPPED: DEDUCED, notes/assumptions/29.md. -/
def ChannelRecord.toRecovering (r : ChannelRecord) : ChannelRecord :=
  let r := { r with noFlow := none, settle := none, closeQueued := none }
  match r.state with
  | .zeroing => r.toIdle
  | .allocating | .opening | .flowing | .closing | .settling =>
    { r with state := .closing, endCause := some (r.endCause.getD .stopped), awaiting := true }
  | _ => r

/-- The context goes on into RECOVERING: it had a channel past IDLE, or its state says so (R184). -/
def Context.recovers (c : Context) : Bool :=
  match c.state with
  | .armed => c.anyPastIdle
  | .delivering | .ending | .stopping | .recovering => true
  | _ => false

/-- A context in RECOVERING: the RECOVERED flag set, its timers discarded, its channels as R184 says, its allocation NONE. -/
def Context.toRecovering (c : Context) : Context :=
  { c with state := .recovering, deadline := none, allocation := .clear,
           flags := { c.flags with recovered := true } }.mapChannels ChannelRecord.toRecovering

/-- A context found in use at a warm start (R184, R187): its terminal released first. -/
def State.walkContext (s : State) (i : ContextId) : State :=
  if !(s.ctx i).inUse then s
  else
    let s := s.modCtx i fun c => { c with held := false }
    if (s.ctx i).recovers then
      let s := s.modCtx i Context.toRecovering
      if (s.ctx i).recovered then s.closeContext i .byVolume false else s
    else s.cancel i .restart

/-- The walk of a warm start, in context-number order (R184). -/
def State.walk (s : State) : State := (List.finRange 16).foldl State.walkContext s

/-- The number of contexts in RECOVERING. -/
def State.recoveringCount (s : State) : Nat :=
  (s.rd.contexts.items.filter fun c => decide (c.state = .recovering)).length

/-! ### The start sequence (R182, R183, R185) -/

/-- The retained contents a start goes on with, the indicator set; no start writes the check (R180, R182, R183). -/
def Retained.atStart (r : Retained) (warm : Bool) : Retained := if warm then { r with intact := true } else .cold r.check

/-- A lane at a start: LOCKED as the Retained Domain holds it, IN USE where a context is bound, CLOSED otherwise (R103). -/
def State.startLane (s : State) (l : LaneId) : Lane :=
  .starting (if s.rd.locks.get l then .locked else if (s.bound l).isSome then .inUse else .closed)

/-- The volatile state of every block at its starting value (R185, R198). -/
def State.startVolatile (s : State) : State :=
  { s with
    hlu := .starting
    tlu := .starting
    csu := .starting
    ae := .starting
    dcu := ⟨.build 12 s.startLane⟩
    lau := .starting
    dlu := .starting
    scc := ⟨false, s.rd.locks, s.power.estopLow⟩
    reu := .starting
    til := { load := .loading, save := none, params := Config.defaultParameters, flash := s.til.flash }
    power := { s.power with phase := .running } }

/-- Step 3 of a start: with ESTOP pressed the latch is set; with the latch set HALT is asserted, HALT ALL asked for, and every context in use is flagged (R161, R182). -/
def State.startLatch (s : State) : State :=
  let s := if s.scc.estopHeld then { s with rd := s.rd.addSource .estop } else s
  if s.rd.latch then
    { s.assertHalt with rd := { s.rd with contexts := s.rd.contexts.map fun c => if c.inUse then c.flagAllStop else c } }
  else s

/-- Steps 4 and 5: the start's event, and a warm start's walk (R182). -/
def State.startEvent (s : State) (warm : Bool) (detail : Nat) : State :=
  if warm then (s.queueEvent .warmStart .nothing s.walk.recoveringCount).walk
  else s.queueEvent .coldStart .nothing detail

/-- Step 6: the ALL STOP event where the latch is set (R161, R182). -/
def State.startStopEvent (s : State) : State :=
  if s.rd.latch then s.queueEvent .allStop .nothing (if s.rd.sourceEstop then 2 else 1) else s

/-- The links begin working (R182). Every command list is empty, so the arbiter finds a HALT ALL or a poll. -/
def State.startLinks (s : State) : State := s.chooseTerminal.choose.1

/-- The start is warm: the indicator is set and the retained check matches (R182). -/
def Retained.warm (r : Retained) : Bool := r.intact && r.matches

/-- A start from its decision on (R182). -/
def State.start (s : State) : State :=
  let warm := s.rd.warm
  let detail := if s.rd.intact then 2 else 1
  ({ s with rd := s.rd.atStart warm }.startVolatile.startLatch.startEvent warm detail).startStopEvent.startLinks

/-- A start that waits while RST is low: every output as R154 and R175 say, every site parameter at its default (R182, R198). The links stay as they stood, TDE and DDE with them, until the start goes on: DESIGN CHOICE, notes/assumptions/30.md. -/
def State.waitForRst (s : State) : State :=
  { s.assertAll with power := { s.power with phase := .waiting }, til := { s.til with params := Config.defaultParameters } }

/-- The beginning of a start: it goes on at once unless RST is low (R182). -/
def State.beginStart (s : State) : State := if s.power.rstLow then s.waitForRst else s.start

/-- The retained check written (R180). -/
def State.writeCheck (s : State) : State := { s with rd := s.rd.writeCheck }

/-- A save in progress abandoned, the image left invalid (R181, R190). -/
def State.abandonSave (s : State) : State :=
  if s.til.save.isSome then { s with til := { s.til with save := none, flash := none } } else s

/-! ### PFAIL (R181) -/

/-- What PFAIL does to the working part (R181): HALT ALL sent at once, the links stopped, a frame being received discarded and a reply cut off, a save abandoned, the check written. -/
def State.freeze (s : State) : State :=
  let s := { s with
    dlu := { s.dlu with line := .haltAll none, haltPending := true }
    tlu := { s.tlu with line := .quiet }
    hlu := { s.hlu with receiver := .hunting, answering := none } }
  { s.abandonSave.writeCheck with power := { s.power with phase := .frozen } }

/-- PFAIL_ASSERT (R181). A start that waits for RST is frozen before its decision. -/
def execPfailAssert (s : State) : Host.Outcome State Fault Refusal :=
  let s := { s with power := { s.power with pfailLow := true } }
  match s.power.phase with
  | .running => .next s.freeze
  | .waiting => .next { s.writeCheck with power := { s.power with phase := .frozen } }
  | _ => .next s

/-- PFAIL_RELEASE: from the frozen state, while main power still holds, a start begins (R181). -/
def execPfailRelease (s : State) : Host.Outcome State Fault Refusal :=
  let s := { s with power := { s.power with pfailLow := false } }
  .next (if s.power.phase = .frozen then s.beginStart else s)

/-! ### RST (R180, R182, R190) -/

/-- RST_ASSERT: the check written, a save cut off, and a start begun that waits for RST to go high (R180, R182, R190). -/
def execRstAssert (s : State) : Host.Outcome State Fault Refusal :=
  let s := { s with power := { s.power with rstLow := true } }
  match s.power.phase with
  | .running | .frozen => .next s.abandonSave.writeCheck.beginStart
  | _ => .next s

/-- RST_RELEASE: the start that waited goes on (R182). -/
def execRstRelease (s : State) : Host.Outcome State Fault Refusal :=
  let s := { s with power := { s.power with rstLow := false } }
  .next (if s.power.phase = .waiting then s.beginStart else s)

/-! ### Main power (R179, R180, R182) -/

/-- POWER_UP: main power comes up, PFAIL high, and a start begins (R182). -/
def execPowerUp (s : State) : Host.Outcome State Fault Refusal :=
  .next (if s.power.phase = .off then { s with power := { s.power with pfailLow := false } }.beginStart else s)

/-- The outputs of a part without main power: none is driven. -/
def State.undrive (s : State) : State :=
  { s with scc := { s.scc with halt := false, cut := .fill 12 false }, reu := { s.reu with attn := false } }

/-- Main power gone (R179). -/
def State.powerOff (s : State) : State := { s.undrive with power := { s.power with phase := .off } }

/-- Main power gone without a PFAIL before it: the check no longer matches (R180). -/
def State.lostUnwarned (s : State) : State := { s with rd := s.rd.unmatched }.powerOff

/-- MAIN_POWER_LOSS: a loss without PFAIL leaves a check that no longer matches, in a start that waits for RST too (R180); one that comes after PFAIL leaves the check as it was written. A PFAIL pin that stayed low through a start by RST is no PFAIL of the part that works since: DEDUCED, notes/assumptions/16.md. A save it cuts off leaves no image. -/
def execMainPowerLoss (s : State) : Host.Outcome State Fault Refusal :=
  match s.power.phase with
  | .off => .next s
  | .running => .next s.abandonSave.lostUnwarned
  | .waiting => .next (if s.power.pfailLow then s.powerOff else s.lostUnwarned)
  | .frozen => .next s.powerOff

/-- RETENTION_LOST: the indicator cleared, as the domain runs from VBAT (R179). -/
def execRetentionLost (s : State) : Host.Outcome State Fault Refusal :=
  .next (if s.power.phase = .off then { s with rd := { s.rd with intact := false } } else s)

/-- CLOCK_MINUTE_CHANGE: the running clock moves to its next minute (R61, R188). Put in before the running minute is over, it moves the reading to second 0 of the next minute, the seconds left being passed over: DESIGN CHOICE, notes/assumptions/45.md. -/
def execClockMinuteChange (s : State) : Host.Outcome State Fault Refusal := .next s.minuteChange

end Sys2Proof.Machine
end

