-- ==== Sys2Proof/WellFormed.lean ====
section
/-! DEFINITION. Which commands can be spelled on the part's links: bounds of the operand lists that the types do not carry. -/

namespace Sys2Proof

/-- A host request's body fits a frame (section 11.1: at most 510 bytes). -/
def bodyFits (length : Nat) : Bool := decide (length ≤ 510)

/-- A count field is one byte. -/
def countFits {α : Type} (xs : List α) : Bool := decide (xs.length ≤ 255)

/-- A range entry holds up to 10 prefix digits, and its length is one byte (section 2.3). -/
def RangeEntry.wellFormed (e : RangeEntry) : Bool := decide (e.length ≤ 255) && decide (e.digits.length ≤ 10)

/-- The entries of a LOAD TABLE fit their one-byte counts (R195). -/
def LoadEntries.wellFormed : LoadEntries → Bool
  | .range es => countFits es && es.all RangeEntry.wellFormed
  | .program es => countFits es && es.all (fun e => countFits e.prompts)
  | .deny es => countFits es && es.all countFits
  | .product es => countFits es
  | .unknown code => decide (code.toNat < 1 ∨ 4 < code.toNat)

/-- The approval code field is eight bytes (section 11.6). -/
def AuthResultBody.wellFormed (b : AuthResultBody) : Bool := decide (b.codeChars.length = 8)

/-- A frame's body is at most 510 bytes (section 11.1). -/
def RawFrame.wellFormed (f : RawFrame) : Bool := bodyFits f.body.length

/-- A card number has up to 24 characters and each expiry field up to two (R73). -/
def CardItem.wellFormed (c : CardItem) : Bool :=
  decide (c.number.length ≤ 24) && decide (c.year.length ≤ 2) && decide (c.month.length ≤ 2)

/-- A poll reply carries one or two reports, each of a channel of its own (R87). -/
def reportsWellFormed : List ChannelReport → Bool
  | [_] => true
  | [r, q] => decide (r.channel ≠ q.channel)
  | _ => false

/-- A code that is none of the requests' (R195). -/
def isUnknownCode (code : Byte) : Bool := decide (code.toNat < 1 ∨ 24 < code.toNat)

/-- The well-formed commands. -/
def Instr.wellFormed : Instr → Bool
  | .status _ n => bodyFits n
  | .laneState _ n _ => bodyFits n
  | .linkState _ n => bodyFits n
  | .nextAuth _ n => bodyFits n
  | .authResult _ n b => bodyFits n && b.wellFormed
  | .uplinkState _ n _ => bodyFits n
  | .nextRecord _ n => bodyFits n
  | .nextEvent _ n => bodyFits n
  | .setEventLevels _ n _ ps => bodyFits n && countFits ps
  | .readCapture _ n => bodyFits n
  | .clearCapture _ n => bodyFits n
  | .loadTable _ n _ es => bodyFits n && es.wellFormed
  | .readTable _ n _ _ _ => bodyFits n
  | .setPrices _ n ps => bodyFits n && countFits ps
  | .setLane _ n _ => bodyFits n
  | .setSiteParameters _ n ps => bodyFits n && countFits ps
  | .setClock _ n _ => bodyFits n
  | .saveTables _ n => bodyFits n
  | .stopLane _ n _ => bodyFits n
  | .cancelTransaction _ n _ => bodyFits n
  | .resetLane _ n _ => bodyFits n
  | .allStop _ n => bodyFits n
  | .allResume _ n => bodyFits n
  | .restart _ n => bodyFits n
  | .unknownRequest _ n code => bodyFits n && isUnknownCode code
  | .hostFrameComplete f => f.wellFormed
  | .hostByteError => true
  | .hostGapExpiry => true
  | .hostBadLength n => decide (n.toNat < 2 ∨ 512 < n.toNat)
  | .hostReplySent => true
  | .hostSilenceTimerExpiry => true
  | .terminalPollSent => true
  | .terminalNothing _ => true
  | .terminalCard _ _ c => c.wellFormed
  | .terminalCardError _ _ => true
  | .terminalEntry _ _ chars => decide (chars.length ≤ 12)
  | .terminalCancel _ _ => true
  | .terminalReplyWindowExpiry _ => true
  | .terminalOfflinePollTimerExpiry _ => true
  | .displayTimerExpiry _ => true
  | .interjectionTimerExpiry _ => true
  | .promptTimerExpiry _ => true
  | .hostDecisionTimerExpiry _ => true
  | .armTimerExpiry _ => true
  | .continueTimerExpiry _ => true
  | .dispenserFrameSent => true
  | .pollReply _ _ rs => reportsWellFormed rs
  | .dispenserAccepted _ _ _ _ => true
  | .refusedBusy _ => true
  | .refusedBad _ => true
  | .refusedUnsupported _ => true
  | .dispenserBadCheckFrame => true
  | .dispenserUnexpectedFrame => true
  | .dispenserReplyWindowExpiry => true
  | .headOfflinePollTimerExpiry _ => true
  | .haltAllSent => true
  | .noFlowTimerExpiry _ _ => true
  | .settleTimerExpiry _ _ => true
  | .faultSettleTimerExpiry _ _ => true
  | .estopPress => true
  | .estopRelease => true
  | .clockMinuteChange => true
  | .pfailAssert => true
  | .pfailRelease => true
  | .rstAssert => true
  | .rstRelease => true
  | .powerUp => true
  | .retentionLost => true
  | .tableLoadEnd _ => true
  | .saveComplete => true
  | .saveFailed _ => true
  | .recoveryTimerExpiry _ => true
  | .hostFrameStart => true
  | .mainPowerLoss => true

end Sys2Proof
end

