-- ==== Sys2Proof/Machine/HostLink.lean ====
section
/-! DEFINITION. The host link (chapter 11): frames arriving, the receive holding, requests taken and answered, and the meaning of each request as a command: a valid frame that carries it completes. -/

namespace Sys2Proof.Machine

open Sys2Proof

/-! ### A request taken (R195) -/

/-- RESTART (R191). -/
def State.serveRestart (s : State) : Served :=
  if s.loading then s.refuse .loading
  else if s.saving then s.refuse .busy
  else ⟨{ s with hlu := { s.hlu with restarting := true } }, [], .done .nothing⟩

/-- A request handed to the block that owns it (section 11.3). -/
def State.serveRequest (s : State) : Request → Served
  | .status => s.serveStatus
  | .laneState lane => s.serveLaneState lane
  | .linkState => s.serveLinkState
  | .nextAuth => s.serveNextAuth
  | .authResult b => s.serveAuthResult b
  | .uplinkState v => s.serveUplinkState v
  | .nextRecord => s.serveNextRecord
  | .nextEvent => s.serveNextEvent
  | .setEventLevels m ps => s.serveSetEventLevels m ps
  | .readCapture => s.serveReadCapture
  | .clearCapture => s.serveClearCapture
  | .loadTable start es => s.serveLoadTable start es
  | .readTable t i n => s.serveReadTable t i n
  | .setPrices ps => s.serveSetPrices ps
  | .setLane b => s.serveSetLane b
  | .setSiteParameters ps => s.serveSetSiteParameters ps
  | .setClock b => s.serveSetClock b
  | .saveTables => s.serveSaveTables
  | .stopLane lane => s.serveStopLane lane
  | .cancelTransaction n => s.serveCancelTransaction n
  | .resetLane lane => s.serveResetLane lane
  | .allStop => s.serveAllStop
  | .allResume => s.serveAllResume
  | .restart => s.serveRestart
  | .unknown _ => s.refuse .unknownRequest

/-- The body's length is the length its layout requires, where one is required (R195). -/
def lengthGood (f : HostFrame) : Bool := (requiredLength f.request).all fun n => decide (n = f.length)

/-- A request tested and served (R195): a code outside 1..24 has no required length and is answered UNKNOWN REQUEST. -/
def State.serveFrame (s : State) (f : HostFrame) : Served :=
  if lengthGood f then s.serveRequest f.request else s.refuse .badLength

/-- The code of the answer: the request's plus 0x80 (R195); one that does not fit a byte is left open (notes/assumptions/11.md). -/
def answerCode (code : Byte) : Byte := if code.toNat < 0x80 then code + 0x80 else Config.replyCodeBeyond code

/-- The answer to a frame. -/
def answerOf (f : HostFrame) (r : Reply) : Answer := ⟨answerCode (requestCode f.request), f.tag, r⟩

/-- A request taken: its effects made whole, its reply on the line, and the work it leaves taken in the same event (R194). -/
def State.takeFrame (s : State) (f : HostFrame) : State × List Work :=
  let r := s.serveFrame f
  (r.state.setAnswering (some (answerOf f r.reply)), r.works)

/-! ### Frames arriving (R46, R192 to R194) -/

/-- The receiver hunting or in a frame (R192). -/
def State.setReceiver (s : State) (x : Receiver) : State := { s with hlu := { s.hlu with receiver := x } }

/-- The host-silence timer restarted at the host silence time (R46). -/
def State.restartSilence (s : State) : State := { s with ae := { s.ae with silence := some (.start s.silenceTime) } }

/-- The host link's error counters changed. -/
def State.countError (s : State) (f : LinkErrors → LinkErrors) : State := { s with hlu := { s.hlu with errors := f s.hlu.errors } }

/-- What every valid frame does before the holding: the receiver hunts, the host-silence timer restarts (R46, R192). -/
def State.frameDone (s : State) : State := (s.setReceiver .hunting).restartSilence

/-- A valid frame as it completes: taken at once where no request is being answered, held where a place is free, and discarded with OVERRUN otherwise (R194). -/
def State.receive (s : State) (f : HostFrame) : State × List Work :=
  let s := s.frameDone
  if s.hlu.answering.isNone then s.takeFrame f
  else if s.hlu.holding.length < Config.holdingPlaces then
    ({ s with hlu := { s.hlu with holding := s.hlu.holding ++ [f] } }, [])
  else (s.countError fun e => { e with overrun := countUp e.overrun }, [])

/-- The host link takes frames: the part works, and no RESTART has been taken (R181, R191). That no byte counts from then on, neither for the host-silence timer nor for an error counter, is DEDUCED: notes/assumptions/43.md. -/
def State.listens (s : State) : Bool := s.working && !s.hlu.restarting

/-- A valid frame completes (R192, R194); nothing while the link takes no frame. -/
def State.arrive (s : State) (f : HostFrame) : Host.Outcome State Fault Refusal :=
  if s.listens then
    let r := s.receive f
    finish r.2 r.1
  else .next s

/-! ### The requests as commands: a valid frame that carries the request completes -/

/-- STATUS (R176). -/
def execStatus (tag : Byte) (length : Nat) (s : State) : Host.Outcome State Fault Refusal :=
  s.arrive ⟨tag, length, .status⟩

/-- LANE STATE (R177). -/
def execLaneState (tag : Byte) (length : Nat) (lane : Byte) (s : State) : Host.Outcome State Fault Refusal :=
  s.arrive ⟨tag, length, .laneState lane⟩

/-- LINK STATE (R178). -/
def execLinkState (tag : Byte) (length : Nat) (s : State) : Host.Outcome State Fault Refusal :=
  s.arrive ⟨tag, length, .linkState⟩

/-- NEXT AUTH (R49, R50). -/
def execNextAuth (tag : Byte) (length : Nat) (s : State) : Host.Outcome State Fault Refusal :=
  s.arrive ⟨tag, length, .nextAuth⟩

/-- AUTH RESULT (R52 to R57). -/
def execAuthResult (tag : Byte) (length : Nat) (body : AuthResultBody) (s : State) : Host.Outcome State Fault Refusal :=
  s.arrive ⟨tag, length, .authResult body⟩

/-- UPLINK STATE (R45). -/
def execUplinkState (tag : Byte) (length : Nat) (value : Byte) (s : State) : Host.Outcome State Fault Refusal :=
  s.arrive ⟨tag, length, .uplinkState value⟩

/-- NEXT RECORD (R168). -/
def execNextRecord (tag : Byte) (length : Nat) (s : State) : Host.Outcome State Fault Refusal :=
  s.arrive ⟨tag, length, .nextRecord⟩

/-- NEXT EVENT (R173). -/
def execNextEvent (tag : Byte) (length : Nat) (s : State) : Host.Outcome State Fault Refusal :=
  s.arrive ⟨tag, length, .nextEvent⟩

/-- SET EVENT LEVELS (R174). -/
def execSetEventLevels (tag : Byte) (length : Nat) (mask : Byte) (pairs : List (Byte × Byte)) (s : State) : Host.Outcome State Fault Refusal :=
  s.arrive ⟨tag, length, .setEventLevels mask pairs⟩

/-- READ CAPTURE (R102). -/
def execReadCapture (tag : Byte) (length : Nat) (s : State) : Host.Outcome State Fault Refusal :=
  s.arrive ⟨tag, length, .readCapture⟩

/-- CLEAR CAPTURE (R102). -/
def execClearCapture (tag : Byte) (length : Nat) (s : State) : Host.Outcome State Fault Refusal :=
  s.arrive ⟨tag, length, .clearCapture⟩

/-- LOAD TABLE (R36 to R39). -/
def execLoadTable (tag : Byte) (length : Nat) (start : StartField) (entries : LoadEntries) (s : State) : Host.Outcome State Fault Refusal :=
  s.arrive ⟨tag, length, .loadTable start entries⟩

/-- READ TABLE (R40). -/
def execReadTable (tag : Byte) (length : Nat) (table : Byte) (start : Byte) (count : Byte) (s : State) : Host.Outcome State Fault Refusal :=
  s.arrive ⟨tag, length, .readTable table start count⟩

/-- SET PRICES (R150). -/
def execSetPrices (tag : Byte) (length : Nat) (pairs : List (Byte × BitVec 32)) (s : State) : Host.Outcome State Fault Refusal :=
  s.arrive ⟨tag, length, .setPrices pairs⟩

/-- SET LANE (R104, R105). -/
def execSetLane (tag : Byte) (length : Nat) (body : SetLaneBody) (s : State) : Host.Outcome State Fault Refusal :=
  s.arrive ⟨tag, length, .setLane body⟩

/-- SET SITE PARAMETERS (R197). -/
def execSetSiteParameters (tag : Byte) (length : Nat) (pairs : List (Byte × BitVec 16)) (s : State) : Host.Outcome State Fault Refusal :=
  s.arrive ⟨tag, length, .setSiteParameters pairs⟩

/-- SET CLOCK (R188). -/
def execSetClock (tag : Byte) (length : Nat) (body : SetClockBody) (s : State) : Host.Outcome State Fault Refusal :=
  s.arrive ⟨tag, length, .setClock body⟩

/-- SAVE TABLES (R190). -/
def execSaveTables (tag : Byte) (length : Nat) (s : State) : Host.Outcome State Fault Refusal :=
  s.arrive ⟨tag, length, .saveTables⟩

/-- STOP LANE (R163). -/
def execStopLane (tag : Byte) (length : Nat) (lane : Byte) (s : State) : Host.Outcome State Fault Refusal :=
  s.arrive ⟨tag, length, .stopLane lane⟩

/-- CANCEL TRANSACTION (R164). -/
def execCancelTransaction (tag : Byte) (length : Nat) (number : BitVec 32) (s : State) : Host.Outcome State Fault Refusal :=
  s.arrive ⟨tag, length, .cancelTransaction number⟩

/-- RESET LANE (R131). -/
def execResetLane (tag : Byte) (length : Nat) (lane : Byte) (s : State) : Host.Outcome State Fault Refusal :=
  s.arrive ⟨tag, length, .resetLane lane⟩

/-- ALL STOP (R159). -/
def execAllStop (tag : Byte) (length : Nat) (s : State) : Host.Outcome State Fault Refusal :=
  s.arrive ⟨tag, length, .allStop⟩

/-- ALL RESUME (R160). -/
def execAllResume (tag : Byte) (length : Nat) (s : State) : Host.Outcome State Fault Refusal :=
  s.arrive ⟨tag, length, .allResume⟩

/-- RESTART (R191). -/
def execRestart (tag : Byte) (length : Nat) (s : State) : Host.Outcome State Fault Refusal :=
  s.arrive ⟨tag, length, .restart⟩

/-- A request of a code outside 1..24 (R195). A code of the summary is none of these: the command then does nothing. -/
def execUnknownRequest (tag : Byte) (length : Nat) (code : Byte) (s : State) : Host.Outcome State Fault Refusal :=
  if isUnknownCode code then s.arrive ⟨tag, length, .unknown code⟩ else .next s

/-! ### The receiver's events (R192, R193) -/

/-- HOST_FRAME_START: a start byte while hunting (R192). -/
def execHostFrameStart (s : State) : Host.Outcome State Fault Refusal :=
  .next (if s.listens then s.setReceiver .inFrame else s)

/-- A frame discarded for an error found in it, the counter of its cause raised (R193). -/
def State.discardFrame (s : State) (f : LinkErrors → LinkErrors) : State :=
  if s.listens && decide (s.hlu.receiver = .inFrame) then (s.setReceiver .hunting).countError f else s

/-- HOST_BYTE_ERROR (R193): while hunting it raises no counter. -/
def execHostByteError (s : State) : Host.Outcome State Fault Refusal :=
  .next (s.discardFrame fun e => { e with byteError := countUp e.byteError })

/-- HOST_GAP_EXPIRY (R193). -/
def execHostGapExpiry (s : State) : Host.Outcome State Fault Refusal :=
  .next (s.discardFrame fun e => { e with gap := countUp e.gap })

/-- HOST_BAD_LENGTH: a length below 2 or above 512 (R193). -/
def execHostBadLength (length : BitVec 16) (s : State) : Host.Outcome State Fault Refusal :=
  .next (if length.toNat < 2 ∨ 512 < length.toNat then s.discardFrame fun e => { e with length := countUp e.length } else s)

/-- HOST_FRAME_COMPLETE: the frame's check is tested; a valid frame goes on as R194 says (R192, R193). -/
def execHostFrameComplete (frame : RawFrame) (s : State) : Host.Outcome State Fault Refusal :=
  if s.listens && decide (s.hlu.receiver = .inFrame) then
    if checkGood frame then s.arrive (frameOf frame)
    else .next (s.discardFrame fun e => { e with check := countUp e.check })
  else .next s

/-! ### Replies sent and the host's silence (R46, R191, R194) -/

/-- The oldest frame of the holding taken, now that no request is being answered (R194). -/
def State.takeHeld (s : State) : State × List Work :=
  match s.hlu.holding with
  | [] => (s, [])
  | f :: rest => { s with hlu := { s.hlu with holding := rest } }.takeFrame f

/-- HOST_REPLY_SENT: the last byte of the answer has gone. After RESTART the check is written and a start begins; otherwise the oldest held frame is taken (R191, R194). -/
def execHostReplySent (s : State) : Host.Outcome State Fault Refusal :=
  if s.working && s.hlu.answering.isSome then
    let s := s.setAnswering none
    if s.hlu.restarting then .next s.writeCheck.beginStart
    else
      let r := s.takeHeld
      finish r.2 r.1
  else .next s

/-- HOST_SILENCE_TIMER_EXPIRY: the timer stops, and an ONLINE uplink becomes OFFLINE (R46, R47). -/
def execHostSilenceTimerExpiry (s : State) : Host.Outcome State Fault Refusal :=
  .next (s.whenWorking fun s =>
    if s.ae.silence.isSome then { s with ae := { s.ae with silence := none } }.loseUplink else s)

end Sys2Proof.Machine
end

