-- ==== Sys2Proof/Machine/TerminalCommands.lean ====
section
/-! DEFINITION. The events of the terminal link and of the terminals' timers (chapter 4). -/

namespace Sys2Proof.Machine

open Sys2Proof

/-- TERMINAL_POLL_SENT: the reply window opens (R65). -/
def execTerminalPollSent (s : State) : Host.Outcome State Fault Refusal :=
  .next (s.whenWorking fun s =>
    match s.tlu.line with
    | .sending p => s.setTermLine (.window p)
    | _ => s)

/-- TERMINAL_NOTHING: a valid reply that carries no item (R65, R70). -/
def execTerminalNothing (t : TerminalId) (s : State) : Host.Outcome State Fault Refusal := .next (s.takeReply t id)

/-- A CARD ERROR: READ AGAIN in IDLE mode, PLEASE WAIT otherwise (R73). -/
def State.takeCardError (s : State) (t : TerminalId) : State :=
  if (s.term t).mode = .idle then s.showOn t .readAgain else s.interjectOn t .pleaseWait

/-- A CARD item: a good read goes to the Transaction Manager in IDLE mode (R73). -/
def State.takeCardItem (s : State) (t : TerminalId) (card : CardItem) : State :=
  match readCard card with
  | none => s.takeCardError t
  | some d => if (s.term t).mode = .idle then s.takeCard t d else s.interjectOn t .pleaseWait

/-- TERMINAL_CARD (R73). -/
def execTerminalCard (t : TerminalId) (seq : Bool) (card : CardItem) (s : State) : Host.Outcome State Fault Refusal :=
  .next (s.takeReply t fun s => s.takeItem t seq fun s => s.takeCardItem t card)

/-- TERMINAL_CARD_ERROR (R73). -/
def execTerminalCardError (t : TerminalId) (seq : Bool) (s : State) : Host.Outcome State Fault Refusal :=
  .next (s.takeReply t fun s => s.takeItem t seq fun s => s.takeCardError t)

/-- An ENTRY item: checked in PROMPT mode, discarded otherwise (R74). -/
def State.takeEntryItem (s : State) (t : TerminalId) (chars : List Byte) : State :=
  match (s.term t).mode, (s.term t).current, s.heldContext t with
  | .prompt, some k, some i => s.checkEntry i t k chars
  | _, _, _ => s

/-- TERMINAL_ENTRY (R74). -/
def execTerminalEntry (t : TerminalId) (seq : Bool) (chars : List Byte) (s : State) : Host.Outcome State Fault Refusal :=
  .next (s.takeReply t fun s => s.takeItem t seq fun s => s.takeEntryItem t chars)

/-- A CANCEL item by mode (R76): in PROMPT, WAIT and SHOW it reaches the held context, which it cancels while no channel is past IDLE; in SHOW without one it ends the SHOW. -/
def State.takeCancelItem (s : State) (t : TerminalId) : State :=
  match (s.term t).mode, s.heldContext t with
  | .idle, _ => s
  | .offline, _ => s
  | _, some i => if (s.ctx i).cancellable then s.cancel i .driver else s
  | .shown, none => s.modTerm t Terminal.toIdle
  | _, none => s

/-- TERMINAL_CANCEL (R76). -/
def execTerminalCancel (t : TerminalId) (seq : Bool) (s : State) : Host.Outcome State Fault Refusal :=
  .next (s.takeReply t fun s => s.takeItem t seq fun s => s.takeCancelItem t)

/-- The held context of a terminal gone OFFLINE: cancelled in PROMPTING, released in any other state (R13, R15, R68). -/
def State.loseTerminal (s : State) (i : ContextId) : State :=
  let s := s.modCtx i fun c => { c with held := false }
  if (s.ctx i).state = .prompting then s.cancel i .terminalLost else s

/-- A terminal goes OFFLINE at its third failed exchange (R68). -/
def State.terminalOffline (s : State) (t : TerminalId) : State :=
  let held := s.heldContext t
  let s := s.modTerm t Terminal.goOffline
  let s := match held with
    | some i => s.loseTerminal i
    | none => s
  s.queueEvent .terminalOffline (.terminal t) 0

/-- A failed exchange with terminal `t` (R67, R68). -/
def State.terminalFails (s : State) (t : TerminalId) (e : ByteErrors) : State :=
  let s := s.modTerm t fun x => x.addErrors e
  if (s.term t).online then
    if Config.terminalFailureLimit ≤ (s.term t).failures + 1 then s.terminalOffline t
    else s.modTerm t fun x => { x with failures := x.failures + 1 }
  else s

/-- TERMINAL_REPLY_WINDOW_EXPIRY: the window closes without a valid reply; the byte errors counted in it go to the polled terminal's counters (R67, R68). -/
def execTerminalReplyWindowExpiry (e : ByteErrors) (s : State) : Host.Outcome State Fault Refusal :=
  .next (s.whenWorking fun s =>
    match s.tlu.line.awaits with
    | some t => ((s.setTermLine .quiet).terminalFails t e).chooseTerminal
    | none => s)

/-- TERMINAL_OFFLINE_POLL_TIMER_EXPIRY: the terminal is due for a poll (R66). -/
def execTerminalOfflinePollTimerExpiry (t : TerminalId) (s : State) : Host.Outcome State Fault Refusal :=
  .next (s.whenWorking fun s =>
    match (s.term t).offlinePoll with
    | .running _ => (s.modTerm t fun x => { x with offlinePoll := .expired }).chooseTerminal
    | _ => s)

/-- The end of a SHOW: IDLE with WELCOME, and the held context's hold cleared (R16, R72). -/
def State.endShow (s : State) (t : TerminalId) : State :=
  let held := s.heldContext t
  let s := s.modTerm t Terminal.toIdle
  match held with
  | some i => s.modCtx i fun c => { c with held := false }
  | none => s

/-- DISPLAY_TIMER_EXPIRY (R72). -/
def execDisplayTimerExpiry (t : TerminalId) (s : State) : Host.Outcome State Fault Refusal :=
  .next (s.whenWorking fun s => if (s.term t).displayTimer.isSome then s.endShow t else s)

/-- INTERJECTION_TIMER_EXPIRY (R72). -/
def execInterjectionTimerExpiry (t : TerminalId) (s : State) : Host.Outcome State Fault Refusal :=
  .next (s.whenWorking fun s => s.modTerm t fun x => { x with interjection := none })

end Sys2Proof.Machine
end

