-- ==== Sys2Proof/Machine/TimerCommands.lean ====
section
/-! DEFINITION. The expiries of the contexts', channels' and lanes' timers (sections 1.5 to 1.8, 6.8, 6.9, 10.4). -/

namespace Sys2Proof.Machine

open Sys2Proof

/-- An expiry of a context's deadline in one of the states that run it; nothing where the timer does not run. -/
def State.onDeadline (s : State) (i : ContextId) (runs : ContextState → Bool) (act : State → State) : State :=
  s.whenWorking fun s => if (s.ctx i).deadline.isSome && runs (s.ctx i).state then act s else s

/-- PROMPT_TIMER_EXPIRY: cancelled with reason PROMPT (R13). -/
def execPromptTimerExpiry (i : ContextId) (s : State) : Host.Outcome State Fault Refusal :=
  .next (s.onDeadline i (fun x => decide (x = .prompting)) fun s => s.cancel i .prompt)

/-- HOST_DECISION_TIMER_EXPIRY: the stand-in check with origin TIMEOUT (R51). -/
def execHostDecisionTimerExpiry (i : ContextId) (s : State) : Host.Outcome State Fault Refusal :=
  .next (s.onDeadline i (fun x => decide (x = .offered) || decide (x = .taken)) fun s => s.standInCheck i .timeout)

/-- ARM_TIMER_EXPIRY: closed with a NO SALE record (R17). -/
def execArmTimerExpiry (i : ContextId) (s : State) : Host.Outcome State Fault Refusal :=
  .next (s.onDeadline i (fun x => decide (x = .armed)) fun s => s.closeContext i (.kind .noSale) false)

/-- CONTINUE_TIMER_EXPIRY: closed with SALE or NO SALE by volume (R20). -/
def execContinueTimerExpiry (i : ContextId) (s : State) : Host.Outcome State Fault Refusal :=
  .next (s.onDeadline i (fun x => decide (x = .ending)) fun s => s.closeContext i .byVolume false)

/-- A lane channel's timer expiry: `act` on the record whose timer runs, then the arbiter; nothing otherwise. -/
def State.onChannelTimer (s : State) (l : LaneId) (ch : Channel) (runs : ChannelRecord → Bool)
    (act : ContextId → State → State × List Work) : Host.Outcome State Fault Refusal :=
  match s.working, s.laneRecord l ch with
  | true, some (i, r) =>
    if runs r then
      let t := act i s
      finish (t.2 ++ [.arbitrate]) t.1
    else .next s
  | _, _ => .next s

/-- NO_FLOW_TIMER_EXPIRY: a CLOSE with end cause NO FLOW is queued and the channel enters CLOSING (R119). -/
def execNoFlowTimerExpiry (l : LaneId) (ch : Channel) (s : State) : Host.Outcome State Fault Refusal :=
  s.onChannelTimer l ch (fun r => r.noFlow.isSome && decide (r.state = .flowing)) fun i s =>
    s.withChannel i ch (fun r => r.beginClosing .noFlow) (s.queueFor i ch (.close .noFlow false))

/-- SETTLE_TIMER_EXPIRY: FINAL is queued (R121). -/
def execSettleTimerExpiry (l : LaneId) (ch : Channel) (s : State) : Host.Outcome State Fault Refusal :=
  s.onChannelTimer l ch (fun r => r.settle.isSome && decide (r.state = .settling)) fun i s =>
    s.withChannel i ch (fun r => { r with settle := none }) (s.queueFor i ch .final)

/-- FAULT_SETTLE_TIMER_EXPIRY: the channel's fault close is complete (R128). FAULT STOP is not tested then: R128 tests it after each report and after an unbinding. -/
def execFaultSettleTimerExpiry (l : LaneId) (ch : Channel) (s : State) : Host.Outcome State Fault Refusal :=
  .next (s.whenWorking fun s =>
    if ((s.lane l).channels.get ch).faultSettle.isSome then
      s.modLaneChannel l ch fun y => { y with faultClose := .complete, faultSettle := none }
    else s)

/-- The channels of a recovery that ran out, taken at their last known counts, and the METER ESTIMATED flag (R187). -/
def Context.estimate (c : Context) : Context :=
  c.flagEstimated.mapChannels fun r =>
    if r.state = .closing ∨ r.state = .settling then r.ended .failed else r

/-- The recovery timer runs out: the record is estimated, the lane locks, and its heads, those of the context's records and those of the configuration, take no more commands (R94, R187). -/
def State.recoveryOver (s : State) (i : ContextId) : State × List Work :=
  let heads := fun (u : State) => ((s.ctx i).lane.map u.laneHeads).getD []
  let t := (s.modCtx i Context.estimate).closeContext i .byVolume true
  t.lockout (heads s ++ heads t)

/-- RECOVERY_TIMER_EXPIRY (R187). -/
def execRecoveryTimerExpiry (i : ContextId) (s : State) : Host.Outcome State Fault Refusal :=
  if s.working && (s.ctx i).deadline.isSome && decide ((s.ctx i).state = .recovering) then
    let r := s.recoveryOver i
    finish (r.2 ++ [.arbitrate]) r.1
  else .next s

end Sys2Proof.Machine
end

