-- ==== Sys2Proof/Machine/Dispatch.lean ====
section
/-! DEFINITION. The meaning of every command: one arm per constructor of `Instr`. -/

namespace Sys2Proof.Machine

open Sys2Proof

/-- What a command does to everything but the queue of waiting commands. -/
def exec (i : Instr) (s : State) : Host.Outcome State Fault Refusal :=
  match i with
  | .status tag length => Sys2Proof.Machine.execStatus tag length s
  | .laneState tag length lane => Sys2Proof.Machine.execLaneState tag length lane s
  | .linkState tag length => Sys2Proof.Machine.execLinkState tag length s
  | .nextAuth tag length => Sys2Proof.Machine.execNextAuth tag length s
  | .authResult tag length body => Sys2Proof.Machine.execAuthResult tag length body s
  | .uplinkState tag length value => Sys2Proof.Machine.execUplinkState tag length value s
  | .nextRecord tag length => Sys2Proof.Machine.execNextRecord tag length s
  | .nextEvent tag length => Sys2Proof.Machine.execNextEvent tag length s
  | .setEventLevels tag length mask pairs => Sys2Proof.Machine.execSetEventLevels tag length mask pairs s
  | .readCapture tag length => Sys2Proof.Machine.execReadCapture tag length s
  | .clearCapture tag length => Sys2Proof.Machine.execClearCapture tag length s
  | .loadTable tag length start entries => Sys2Proof.Machine.execLoadTable tag length start entries s
  | .readTable tag length table start count => Sys2Proof.Machine.execReadTable tag length table start count s
  | .setPrices tag length pairs => Sys2Proof.Machine.execSetPrices tag length pairs s
  | .setLane tag length body => Sys2Proof.Machine.execSetLane tag length body s
  | .setSiteParameters tag length pairs => Sys2Proof.Machine.execSetSiteParameters tag length pairs s
  | .setClock tag length body => Sys2Proof.Machine.execSetClock tag length body s
  | .saveTables tag length => Sys2Proof.Machine.execSaveTables tag length s
  | .stopLane tag length lane => Sys2Proof.Machine.execStopLane tag length lane s
  | .cancelTransaction tag length number => Sys2Proof.Machine.execCancelTransaction tag length number s
  | .resetLane tag length lane => Sys2Proof.Machine.execResetLane tag length lane s
  | .allStop tag length => Sys2Proof.Machine.execAllStop tag length s
  | .allResume tag length => Sys2Proof.Machine.execAllResume tag length s
  | .restart tag length => Sys2Proof.Machine.execRestart tag length s
  | .unknownRequest tag length code => Sys2Proof.Machine.execUnknownRequest tag length code s
  | .hostFrameComplete frame => Sys2Proof.Machine.execHostFrameComplete frame s
  | .hostByteError => Sys2Proof.Machine.execHostByteError s
  | .hostGapExpiry => Sys2Proof.Machine.execHostGapExpiry s
  | .hostBadLength length => Sys2Proof.Machine.execHostBadLength length s
  | .hostReplySent => Sys2Proof.Machine.execHostReplySent s
  | .hostSilenceTimerExpiry => Sys2Proof.Machine.execHostSilenceTimerExpiry s
  | .terminalPollSent => Sys2Proof.Machine.execTerminalPollSent s
  | .terminalNothing terminal => Sys2Proof.Machine.execTerminalNothing terminal s
  | .terminalCard terminal seq card => Sys2Proof.Machine.execTerminalCard terminal seq card s
  | .terminalCardError terminal seq => Sys2Proof.Machine.execTerminalCardError terminal seq s
  | .terminalEntry terminal seq chars => Sys2Proof.Machine.execTerminalEntry terminal seq chars s
  | .terminalCancel terminal seq => Sys2Proof.Machine.execTerminalCancel terminal seq s
  | .terminalReplyWindowExpiry errors => Sys2Proof.Machine.execTerminalReplyWindowExpiry errors s
  | .terminalOfflinePollTimerExpiry terminal => Sys2Proof.Machine.execTerminalOfflinePollTimerExpiry terminal s
  | .displayTimerExpiry terminal => Sys2Proof.Machine.execDisplayTimerExpiry terminal s
  | .interjectionTimerExpiry terminal => Sys2Proof.Machine.execInterjectionTimerExpiry terminal s
  | .promptTimerExpiry context => Sys2Proof.Machine.execPromptTimerExpiry context s
  | .hostDecisionTimerExpiry context => Sys2Proof.Machine.execHostDecisionTimerExpiry context s
  | .armTimerExpiry context => Sys2Proof.Machine.execArmTimerExpiry context s
  | .continueTimerExpiry context => Sys2Proof.Machine.execContinueTimerExpiry context s
  | .dispenserFrameSent => Sys2Proof.Machine.execDispenserFrameSent s
  | .pollReply head restarted reports => Sys2Proof.Machine.execPollReply head restarted reports s
  | .dispenserAccepted head count valve totalizer => Sys2Proof.Machine.execDispenserAccepted head count valve totalizer s
  | .refusedBusy head => Sys2Proof.Machine.execRefusedBusy head s
  | .refusedBad head => Sys2Proof.Machine.execRefusedBad head s
  | .refusedUnsupported head => Sys2Proof.Machine.execRefusedUnsupported head s
  | .dispenserBadCheckFrame => Sys2Proof.Machine.execDispenserBadCheckFrame s
  | .dispenserUnexpectedFrame => Sys2Proof.Machine.execDispenserUnexpectedFrame s
  | .dispenserReplyWindowExpiry => Sys2Proof.Machine.execDispenserReplyWindowExpiry s
  | .headOfflinePollTimerExpiry head => Sys2Proof.Machine.execHeadOfflinePollTimerExpiry head s
  | .haltAllSent => Sys2Proof.Machine.execHaltAllSent s
  | .noFlowTimerExpiry lane channel => Sys2Proof.Machine.execNoFlowTimerExpiry lane channel s
  | .settleTimerExpiry lane channel => Sys2Proof.Machine.execSettleTimerExpiry lane channel s
  | .faultSettleTimerExpiry lane channel => Sys2Proof.Machine.execFaultSettleTimerExpiry lane channel s
  | .estopPress => Sys2Proof.Machine.execEstopPress s
  | .estopRelease => Sys2Proof.Machine.execEstopRelease s
  | .clockMinuteChange => Sys2Proof.Machine.execClockMinuteChange s
  | .pfailAssert => Sys2Proof.Machine.execPfailAssert s
  | .pfailRelease => Sys2Proof.Machine.execPfailRelease s
  | .rstAssert => Sys2Proof.Machine.execRstAssert s
  | .rstRelease => Sys2Proof.Machine.execRstRelease s
  | .powerUp => Sys2Proof.Machine.execPowerUp s
  | .retentionLost => Sys2Proof.Machine.execRetentionLost s
  | .tableLoadEnd read => Sys2Proof.Machine.execTableLoadEnd read s
  | .saveComplete => Sys2Proof.Machine.execSaveComplete s
  | .saveFailed why => Sys2Proof.Machine.execSaveFailed why s
  | .recoveryTimerExpiry context => Sys2Proof.Machine.execRecoveryTimerExpiry context s
  | .hostFrameStart => Sys2Proof.Machine.execHostFrameStart s
  | .mainPowerLoss => Sys2Proof.Machine.execMainPowerLoss s

end Sys2Proof.Machine
end

