-- ==== Sys2Proof/Machine/Step.lean ====
section
/-! DEFINITION. The step: the command at the front of the queue, or, on an empty queue, the passing of a tenth of a second. -/

namespace Sys2Proof.Machine

open Sys2Proof

/-- With no command waiting: the expiry of a timer that has run out, or a tenth of a second passes (DESIGN CHOICE, notes/assumptions/2.md). -/
def idle (s : State) : Host.Outcome State Fault Refusal :=
  match s.dueExpiry with
  | some c => exec c s
  | none => .next s.tick

/-- One step: the command at the front of the queue is taken and run with the queue's rest; with none the block idles. -/
def step (s : State) : Host.Outcome State Fault Refusal :=
  match s.pending with
  | [] => idle s
  | c :: rest => exec c { s with pending := rest }

/-- The state with the command that a word spells put at the front of the queue; unchanged where it spells none. -/
def State.withFetchWord (s : State) (nbits w : Nat) : State :=
  match decodeTableWord nbits w with
  | some c => { s with pending := c :: s.pending }
  | none => s

end Sys2Proof.Machine
end

