-- ==== Sys2Proof/Safety.lean ====
section
/-! DEFINITION. What a sound state is, in the terms the statements use: the outputs, the context pool, the event queue, the command lists, the ranges; and the words the statements share about requests and heads. -/

namespace Sys2Proof.Machine

open Sys2Proof

/-! ### Requests -/

/-- The host link takes a request at once: the part works, no RESTART has been taken, no request is being answered (R181, R191, R194). -/
abbrev State.takes (s : State) : Prop := s.power.phase = .running ∧ s.hlu.restarting = false ∧ s.hlu.answering = none

/-- The state as a valid frame leaves it before its request has any effect: the receiver hunts, the host-silence timer stands at the host silence time (R46, R192). -/
def State.heard (s : State) : State :=
  { s with
    hlu := { s.hlu with receiver := .hunting }
    ae := { s.ae with silence := some ⟨10 * s.til.params.get 11, 10 * s.til.params.get 11⟩ } }

/-- The state with a reply on the host link (R194, R195). -/
def State.replied (s : State) (code tag : Byte) (r : Reply) : State :=
  { s with hlu := { s.hlu with answering := some ⟨code, tag, r⟩ } }

/-- The command that stands for the completion of a valid frame (section 11.3). -/
def commandOf (f : HostFrame) : Instr :=
  match f.request with
  | .status => .status f.tag f.length
  | .laneState lane => .laneState f.tag f.length lane
  | .linkState => .linkState f.tag f.length
  | .nextAuth => .nextAuth f.tag f.length
  | .authResult b => .authResult f.tag f.length b
  | .uplinkState v => .uplinkState f.tag f.length v
  | .nextRecord => .nextRecord f.tag f.length
  | .nextEvent => .nextEvent f.tag f.length
  | .setEventLevels m ps => .setEventLevels f.tag f.length m ps
  | .readCapture => .readCapture f.tag f.length
  | .clearCapture => .clearCapture f.tag f.length
  | .loadTable start es => .loadTable f.tag f.length start es
  | .readTable t i n => .readTable f.tag f.length t i n
  | .setPrices ps => .setPrices f.tag f.length ps
  | .setLane b => .setLane f.tag f.length b
  | .setSiteParameters ps => .setSiteParameters f.tag f.length ps
  | .setClock b => .setClock f.tag f.length b
  | .saveTables => .saveTables f.tag f.length
  | .stopLane lane => .stopLane f.tag f.length lane
  | .cancelTransaction n => .cancelTransaction f.tag f.length n
  | .resetLane lane => .resetLane f.tag f.length lane
  | .allStop => .allStop f.tag f.length
  | .allResume => .allResume f.tag f.length
  | .restart => .restart f.tag f.length
  | .unknown code => .unknownRequest f.tag f.length code

/-- The requests that are taken in LOADING (section 11.3). -/
def takenInLoading : Request → Bool
  | .status | .laneState _ | .linkState | .nextRecord | .nextEvent | .setClock _ | .unknown _ => true
  | _ => false

/-! ### Entries of LOAD TABLE (R38) -/

/-- R38 refuses a RANGE entry: one whose length is not 0 has a length outside 4..10, a prefix digit that is no decimal digit, or a target that is neither 1..32 nor EXCLUDED. -/
abbrev rangeRefused (e : RangeEntry) : Prop :=
  e.length ≠ 0 ∧ (e.length < 4 ∨ 10 < e.length ∨ (∃ b ∈ e.digits, b.toNat < 0x30 ∨ 0x39 < b.toNat) ∨
    ∃ n, e.target = .program n ∧ (n.toNat < 1 ∨ 32 < n.toNat))

/-- R38 refuses a PROGRAM entry: of a kind code outside 0..3; or of a kind other than NONE, for its prompt list, its amounts, its volume limits or its stand-in uses. LANE is prompt code 1, BANK kind code 2 (section 11.5). -/
abbrev programRefused (f : ProgramFields) : Prop :=
  3 < f.kind.toNat ∨ f.kind ≠ 0 ∧
    (4 < f.prompts.length ∨ ¬f.prompts.Nodup ∨ (∃ b ∈ f.prompts, b.toNat < 2 ∨ 6 < b.toNat) ∨ (f.kind = 2 ∧ f.prompts ≠ []) ∨
      f.requested.toNat < 1 ∨ 999999 < f.requested.toNat ∨
      (f.limits.getLsbD 0 = true ∧ (f.dieselLimit.toNat < 100 ∨ 200000 < f.dieselLimit.toNat)) ∨
      (f.limits.getLsbD 1 = true ∧ (f.defLimit.toNat < 100 ∨ 200000 < f.defLimit.toNat)) ∨
      f.standInAmount.toNat < 1 ∨ 999999 < f.standInAmount.toNat ∨ f.standInUses.toNat < 1 ∨ 15 < f.standInUses.toNat)

/-- R38 refuses a DENY entry: not empty, and with a non-digit, or fewer than 12 or more than 19 digits. -/
abbrev denyRefused (bs : List Byte) : Prop :=
  bs ≠ [] ∧ (bs.length < 12 ∨ 19 < bs.length ∨ ∃ b ∈ bs, b.toNat < 0x30 ∨ 0x39 < b.toNat)

/-- R38 refuses a PRODUCT entry: of a class other than DIESEL (1) and DEF (2), or a price above 99,999. -/
abbrev productRefused (f : ProductFields) : Prop := f.cls.toNat < 1 ∨ 2 < f.cls.toNat ∨ 99999 < f.price.toNat

/-- A program that LOAD TABLE can write into a slot in use (R38). -/
abbrev Program.loadable (p : Program) : Prop :=
  p.kind ≠ .unused ∧ p.prompts.length ≤ 4 ∧ p.prompts.Nodup ∧ .lane ∉ p.prompts ∧ (p.kind = .bank → p.prompts = []) ∧
    1 ≤ p.requested ∧ p.requested ≤ 999999 ∧ (∀ v ∈ p.dieselLimit, 100 ≤ v ∧ v ≤ 200000) ∧
    (∀ v ∈ p.defLimit, 100 ≤ v ∧ v ≤ 200000) ∧ 1 ≤ p.standInAmount ∧ p.standInAmount ≤ 999999 ∧
    1 ≤ p.standInUses ∧ p.standInUses ≤ 15

/-! ### Contexts, terminals, the dispenser link -/

/-- A context that a stop or cancellation closes at once: PROMPTING, OFFERED, TAKEN, or ARMED with no channel past IDLE (R18, R22, R155). -/
abbrev Context.beforeDelivery (c : Context) : Prop :=
  c.state = .prompting ∨ c.state = .offered ∨ c.state = .taken ∨ c.state = .armed ∧ c.anyPastIdle = false

/-- The reply window of a poll to ONLINE terminal `t` is open, while the part works (R65). -/
abbrev State.awaitsTerminal (s : State) (t : TerminalId) : Prop :=
  s.power.phase = .running ∧ (∃ m k, s.tlu.line = .window ⟨t, k, m⟩) ∧ (s.term t).online = true

/-- The state after a valid reply of ONLINE terminal `t`, before its item is acted on: the window closed, the failure count 0 (R68). -/
def State.replyFrom (s : State) (t : TerminalId) : State :=
  { s with tlu := { s.tlu with line := .quiet, terminals := s.tlu.terminals.set t { s.term t with failures := 0 } } }

/-- The same, with the item's sequence bit taken (R70). -/
def State.itemFrom (s : State) (t : TerminalId) (seq : Bool) : State :=
  { s with tlu := { s.tlu with
      line := .quiet, terminals := s.tlu.terminals.set t { s.term t with failures := 0, lastTaken := some seq } } }

/-- The reply window of an exchange with a head is open, while the part works (R83). -/
abbrev State.awaitsHead (s : State) (x : Exchange) : Prop := s.power.phase = .running ∧ s.dlu.line = .window x

/-- The dispenser link free, and the failure count of head `h` 0, as a valid reply leaves them (R84, R85). -/
def State.exchangeDone (s : State) (h : HeadId) : State :=
  { s with dlu := { s.dlu with line := .quiet, heads := s.dlu.heads.set h { s.head h with failures := 0 } } }

/-- The exchange of command `c` with an ONLINE head ends without effect on `command`, with failure kind `f`, and `t` is the state with its head's counts and the link as that end leaves them: refused, BUSY or BAD, or unanswered at its last attempt, below the head failure limit (R84, R85, R89). -/
abbrev State.failsAs (s : State) (c : Command) (retries : Nat) (command : Instr) (f : FailureKind) (t : State) : Prop :=
  let y := s.head c.head
  y.online = true ∧
  ((command = .refusedBusy c.head ∨ command = .refusedBad c.head) ∧ f = .refused ∧ t = s.exchangeDone c.head ∨
    command = .dispenserReplyWindowExpiry ∧ retries = 0 ∧ f = .noAnswer ∧ y.failures + 1 < s.til.params.get 9 ∧
      t = { s with dlu := { s.dlu with
        line := .quiet
        heads := s.dlu.heads.set c.head { y with failures := y.failures + 1, failedTotal := min 65535 (y.failedTotal + 1) } } })

/-- `h` is the first head after position `pos` with the property, upward and round from 24 to 1 (R96). -/
abbrev firstAfter (pos h : HeadId) (p : HeadId → Prop) : Prop :=
  p h ∧ ∀ g, p g → (h.val + 23 - pos.val) % 24 ≤ (g.val + 23 - pos.val) % 24

/-- A head is active: it serves a channel of a lane in FAULT STOP or LOCKED, or one whose record in a bound context is past IDLE (R81). -/
abbrev State.isActive (s : State) (h : HeadId) : Prop :=
  ∃ q ∈ s.servedBy h, (s.lane q.1).state = .faultStop ∨ (s.lane q.1).state = .locked ∨
    (s.laneRecord q.1 q.2).any (fun x => decide (x.2.state ≠ .idle ∧ x.2.state ≠ .refused)) = true

/-! ### The outputs (R154, R162, R175) -/

/-- A lane is LOCKED where the Retained Domain holds its lock (R103, R162). -/
abbrev State.LocksAgree (s : State) : Prop := ∀ l : LaneId, (s.lane l).state = .locked ↔ s.rd.locks.get l = true

/-- The outputs are what their rules say: while the part works, HALT is the all-stop latch, each cut line is its lane's lock, ATTN is its condition; while a start waits for its decision, HALT and every cut line are asserted and ATTN is released (R154, R162, R175). -/
abbrev State.OutputsFollow (s : State) : Prop :=
  (s.power.phase = .running →
    s.scc.halt = s.rd.latch ∧ s.scc.cut = s.rd.locks ∧ s.reu.attn = s.attnCondition ∧ s.LocksAgree) ∧
  (s.power.phase = .waiting → s.scc.halt = true ∧ s.scc.cut = .fill 12 true ∧ s.reu.attn = false)

/-! ### The pool (R1, R6, R167) -/

/-- The free list holds each FREE context once and no other, and the record queue always has room for the records of the contexts in use (R1, R6, R167). -/
abbrev State.PoolSound (s : State) : Prop :=
  s.rd.freeList.Nodup ∧ (∀ i : ContextId, i ∈ s.rd.freeList ↔ (s.ctx i).state = .free) ∧
    s.rd.records.length + s.inUseCount ≤ 48

/-! ### The event queue (R170 to R174) -/

/-- The kinds whose level is 7 always (R174). -/
def EventKind.fixed : EventKind → Bool
  | .laneLockout | .allStop | .coldStart => true
  | _ => false

/-- A level-7 event's subject: a lane for LANE LOCKOUT, none for ALL STOP and COLD START (section 9.3). -/
def fixedSubject : EventKind → Subject → Bool
  | .laneLockout, .lane _ => true
  | .allStop, .nothing => true
  | .coldStart, .nothing => true
  | .laneLockout, _ | .allStop, _ | .coldStart, _ => false
  | _, _ => true

/-- An event as the queue may hold it (section 9.3). -/
def Event.sound (e : Event) : Bool :=
  decide (1 ≤ e.count ∧ e.count ≤ 255) && fixedSubject e.kind e.subject &&
    (if e.kind.fixed then decide (e.level = 7) else decide (e.level ≤ 6))

/-- The event queue holds at most 32 events, no two of one kind and subject, each sound; only LANE LOCKOUT, ALL STOP and COLD START have level 7; the mask level and the dropped count stay in range (R170 to R174). -/
abbrev EventUnit.Sound (u : EventUnit) : Prop :=
  u.events.length ≤ 32 ∧ (u.events.map fun e => (e.kind, e.subject)).Nodup ∧ (∀ e ∈ u.events, e.sound = true) ∧
    (∀ i : Fin 20, if i.val < 3 then u.levels.get i = 7 else u.levels.get i ≤ 6) ∧ u.mask ≤ 7 ∧ u.dropped ≤ 65535

/-! ### The command lists (R91, R92, R94, R153) -/

/-- A head's list holds at most one command of a kind for a channel, and its CLOSEs stand before every other command (R91, R92). -/
abbrev ListSound (cs : List Command) : Prop :=
  cs.Pairwise (fun c d => c.sameKind d = false) ∧ cs.Pairwise fun c d => d.isClose = true → c.isClose = true

/-- Every head's list is sound. -/
abbrev State.ListsSound (s : State) : Prop := ∀ h : HeadId, ListSound (s.head h).commands

/-- While the all-stop latch is set, no OPEN and no RELEASE is queued for any head (R94, R153). -/
abbrev State.LatchClean (s : State) : Prop :=
  s.rd.latch = true → ∀ h : HeadId, ∀ c ∈ (s.head h).commands, c.opening = false

/-! ### Ranges (R5, R101, R178, R188, R193, R197) -/

/-- Every site parameter lies in its range (R197). -/
abbrev inRanges (p : Tab 14 Nat) : Prop :=
  ∀ i : Fin 14, Config.parameterLow i ≤ p.get i ∧ p.get i ≤ Config.parameterHigh i

/-- A counter that saturates at 65,535. -/
abbrev upTo16 (n : Nat) : Prop := n ≤ 65535

/-- The site parameters, and those of a save's copy and of the image, lie in their ranges; the clock holds a legal reading; the transaction counter lies in 1..4,294,967,295; the links' counters stay at 65,535; the arbiter's run count lies in 0..4 and its poll count in 0..3 (R5, R67, R85, R96, R101, R188, R193, R197). -/
abbrev State.RangesKept (s : State) : Prop :=
  inRanges s.til.params ∧ (∀ x ∈ s.til.save, inRanges x.params) ∧
    (∀ x ∈ s.til.flash, inRanges x.body.params) ∧
    s.rd.clock.legal = true ∧ s.rd.clockTenths ≤ 9 ∧ 1 ≤ s.rd.counter ∧ s.rd.counter ≤ 4294967295 ∧
    (upTo16 s.hlu.errors.byteError ∧ upTo16 s.hlu.errors.gap ∧ upTo16 s.hlu.errors.length ∧
      upTo16 s.hlu.errors.check ∧ upTo16 s.hlu.errors.overrun) ∧
    upTo16 s.dlu.further ∧ s.dlu.runCount ≤ 4 ∧ s.dlu.pollCount ≤ 3 ∧ (∀ h : HeadId, upTo16 (s.head h).failedTotal) ∧
    ∀ t : TerminalId, upTo16 (s.term t).parity ∧ upTo16 (s.term t).framing ∧ upTo16 (s.term t).overrun

end Sys2Proof.Machine
end

