-- ==== Sys2Proof/Certificates/Slice0/Obligations.lean ====
section
/-! DEFINITION. The statements for the provers, each from the numbered rules of spec/ it names. -/

open Sys2Proof Sys2Proof.Machine

/-! ### The queue -/

/-- A step takes the command at the front of the queue and runs it on the queue's rest. -/
def Obligations.StepRunsTheFrontCommand : Prop :=
  ∀ (s : State) (c : Instr) (rest : List Instr),
    s.pending = c :: rest → step s = exec c { s with pending := rest }

/-- The model's choice (notes/assumptions/2.md): on an empty queue a timer that has run out expires, or else a tenth of a second passes, in which every running timer of a context and the host-silence timer lose a tenth. -/
def Obligations.IdleStepPassesATenth : Prop :=
  ∀ s : State, s.pending = [] →
    (∀ c, s.dueExpiry = some c → step s = exec c s) ∧
      (s.dueExpiry = none →
        step s = .next s.tick ∧
          (s.power.phase = .running →
            s.tick.ae.silence = s.ae.silence.map (fun t => ⟨t.left - 1, t.full⟩) ∧
              ∀ i : ContextId, (s.tick.ctx i).deadline = (s.ctx i).deadline.map fun t => ⟨t.left - 1, t.full⟩))

/-! ### The host link (chapter 11) -/

/-- R192, R193: a start byte puts the receiver in a frame; a byte error, a gap and a bad length found in a frame discard it, hunt again and raise their counter, held at 65,535; a byte error while hunting raises none. A complete frame whose check fails is discarded and counted; one whose check is good has the effect of the request its code and body spell, such as an UPLINK STATE of value ONLINE. The model's choices in that spelling: the order of a body's bytes where the handbook gives none (READ TABLE, SET EVENT LEVELS, SET PRICES: PRESUMED, notes/assumptions/38.md), the bytes of LOAD TABLE's entries, their order and padding (PRESUMED, and free for PROGRAM entries and EXCLUDED: 10.md), the yes-or-no bytes of SET LANE other than 0 and 1 (free: 9.md); and that a request row stands for the completion of its frame (DEDUCED, 15.md). -/
def Obligations.ReceiverChecksFrames : Prop :=
  (∀ s : State, s.power.phase = .running → s.hlu.restarting = false →
    exec .hostFrameStart s = .next { s with hlu := { s.hlu with receiver := .inFrame } } ∧
    (s.hlu.receiver = .hunting → exec .hostByteError s = .next s) ∧
    (s.hlu.receiver = .inFrame →
      exec .hostByteError s = .next { s with hlu := { s.hlu with
        receiver := .hunting, errors := { s.hlu.errors with byteError := min 65535 (s.hlu.errors.byteError + 1) } } } ∧
      exec .hostGapExpiry s = .next { s with hlu := { s.hlu with
        receiver := .hunting, errors := { s.hlu.errors with gap := min 65535 (s.hlu.errors.gap + 1) } } } ∧
      ∀ n : BitVec 16, n.toNat < 2 ∨ 512 < n.toNat →
        exec (.hostBadLength n) s = .next { s with hlu := { s.hlu with
          receiver := .hunting, errors := { s.hlu.errors with length := min 65535 (s.hlu.errors.length + 1) } } })) ∧
  (∀ (s : State) (f : RawFrame),
    s.power.phase = .running → s.hlu.restarting = false → s.hlu.receiver = .inFrame →
    (crc16 (coveredBytes f) ≠ f.check →
      exec (.hostFrameComplete f) s = .next { s with hlu := { s.hlu with
        receiver := .hunting, errors := { s.hlu.errors with check := min 65535 (s.hlu.errors.check + 1) } } }) ∧
    (crc16 (coveredBytes f) = f.check →
      exec (.hostFrameComplete f) s = exec (commandOf ⟨f.tag, f.body.length, readRequest f.code f.body⟩) s ∧
      (s.hlu.answering = none → s.til.load ≠ .loading → f.code = 6 → f.body = [1] →
        exec (.hostFrameComplete f) s =
          .next { (s.heard.replied 0x86 f.tag ⟨.done, .none, .nothing⟩) with ae := { s.heard.ae with online := true } })))

/-- R194: a valid frame that completes while a request is being answered waits in the holding where one of its two places is free, and is discarded with OVERRUN raised otherwise; either way it has restarted the host-silence timer. It is stated of the request rows, each of which the model takes for the completion of its frame (notes/assumptions/15.md). -/
def Obligations.FramesWaitWhileARequestIsAnswered : Prop :=
  ∀ (s : State) (f : HostFrame),
    s.power.phase = .running → s.hlu.restarting = false → s.hlu.answering.isSome = true →
    (∀ code, f.request = .unknown code → code.toNat < 1 ∨ 24 < code.toNat) →
    (s.hlu.holding.length < 2 →
      exec (commandOf f) s = .next { s.heard with hlu := { s.heard.hlu with holding := s.hlu.holding ++ [f] } }) ∧
    (2 ≤ s.hlu.holding.length →
      exec (commandOf f) s = .next { s.heard with hlu := { s.heard.hlu with
        errors := { s.hlu.errors with overrun := min 65535 (s.hlu.errors.overrun + 1) } } })

/-- R195, section 11.3: a request of an unknown code, of a wrong length, or not taken in LOADING while the load state is LOADING, is refused, and nothing else changes; the tests come in that order. That LOADING comes before the tests of the request's values is the model's reading for UPLINK STATE and AUTH RESULT (DEDUCED, notes/assumptions/38.md) and for READ TABLE (DEDUCED, notes/assumptions/27.md): section 11.3 says only that they are not taken in LOADING. The code of the answer to a code of 0x80 or above is left open (notes/assumptions/11.md). -/
def Obligations.RequestsAreRefusedBeforeTheirBlocks : Prop :=
  ∀ (s : State) (f : HostFrame), s.takes →
    (∀ code, f.request = .unknown code → code.toNat < 1 ∨ 24 < code.toNat →
      exec (commandOf f) s = .next (s.heard.replied
        (if code.toNat < 0x80 then code + 0x80 else Config.replyCodeBeyond code) f.tag ⟨.refused, .unknownRequest, .nothing⟩)) ∧
    (∀ n, requiredLength f.request = some n → n ≠ f.length →
      exec (commandOf f) s =
        .next (s.heard.replied (requestCode f.request + 0x80) f.tag ⟨.refused, .badLength, .nothing⟩)) ∧
    (s.til.load = .loading → takenInLoading f.request = false → requiredLength f.request = some f.length →
      exec (commandOf f) s =
        .next (s.heard.replied (requestCode f.request + 0x80) f.tag ⟨.refused, .loading, .nothing⟩))

/-! ### State reports (section 9.5) -/

/-- R176 to R178: STATUS describes the part as it stands, LANE STATE its lane (the channels of a bound one as its channel records hold them, R103), LINK STATE every terminal and head, in every load state, and none changes anything; a lane number outside 1..12 is refused with BAD VALUE. -/
def Obligations.ReportsDescribeThePart : Prop :=
  (∀ (s : State) (tag : Byte), s.takes →
    exec (.status tag 0) s = .next (s.heard.replied 0x81 tag ⟨.done, .none, .status
      { load := s.til.load, saving := s.til.save.isSome, online := s.ae.online, latch := s.rd.latch,
        sourceHost := s.rd.sourceHost, sourceEstop := s.rd.sourceEstop, estopHeld := s.scc.estopHeld,
        clockValid := s.rd.clockValid, freeContexts := s.rd.freeList.length,
        offered := (s.rd.contexts.items.filter fun c => decide (c.state = .offered)).length,
        records := s.rd.records.length, events := s.reu.events.length, dropped := s.reu.dropped,
        captured := s.dlu.capture.isSome, lanes := s.dcu.lanes.map (·.state), errors := s.hlu.errors }⟩)) ∧
  (∀ (s : State) (tag : Byte), s.takes →
    (∀ l : LaneId, exec (.laneState tag 1 (BitVec.ofNat 8 (l.val + 1))) s =
      .next (s.heard.replied 0x82 tag ⟨.done, .none, .lane
        { config := ⟨(s.lane l).config.isOpen, (s.lane l).config.terminal, .build fun ch => s.setup l ch⟩, state := (s.lane l).state, fault := (s.lane l).fault, prices := (s.lane l).prices,
          adopting := s.lau.adoption.get l, cut := s.scc.cut.get l,
          channels := .build fun ch => (s.setup l ch).map fun _ =>
            ⟨((s.lane l).channels.get ch).nozzle, ((s.lane l).channels.get ch).handed, ((s.lane l).channels.get ch).quiet⟩
          bound := (s.bound l).map fun i =>
            ⟨i, (s.ctx i).transaction, (s.ctx i).state, (s.ctx i).allocation.phase, .build fun ch =>
              let r := (s.ctx i).records.get ch
              ⟨r.state, r.extended, r.points, s.pendingLimit l ch, r.used, r.endCause⟩⟩ }⟩)) ∧
    (∀ lane : Byte, lane.toNat < 1 ∨ 12 < lane.toNat →
      exec (.laneState tag 1 lane) s = .next (s.heard.replied 0x82 tag ⟨.refused, .badValue, .nothing⟩)) ∧
    exec (.linkState tag 0) s = .next (s.heard.replied 0x83 tag ⟨.done, .none, .links
      (s.tlu.terminals.map fun x => ⟨x.online, x.mode, x.failures, x.parity, x.framing, x.overrun⟩)
      (s.dlu.heads.map fun x =>
        ⟨x.online, x.failures, x.failedTotal, x.singleFrame, x.commands.length, x.last, x.totalizer⟩)⟩))

/-- R102: READ CAPTURE returns the capture and the further-failure count, or EMPTY with 0, and changes nothing; CLEAR CAPTURE empties both whether or not a capture was held, and the next capturable failure is then captured and queues LINK CAPTURE; both are refused in LOADING. -/
def Obligations.CaptureIsReadAndCleared : Prop :=
  ∀ (s : State) (tag : Byte), s.takes →
    (s.til.load ≠ .loading →
      exec (.readCapture tag 0) s = .next (s.heard.replied 0x8A tag ⟨.done, .none,
        .capture s.dlu.capture (if s.dlu.capture.isSome then s.dlu.further else 0)⟩) ∧
      ∃ t : State, exec (.clearCapture tag 0) s = .next t ∧
        t = { (s.heard.replied 0x8B tag ⟨.done, .none, .nothing⟩) with dlu := { s.dlu with capture := none, further := 0 } } ∧
        ∀ (h : HeadId) (ch : Option HeadChannel) (k : ExchangeKind) (f : FailureKind),
          t.captureFailure h ch k f =
            { t with dlu := { t.dlu with capture := some ⟨h, ch, k, f, t.stamp⟩ } }.queueEvent .linkCapture (.head h) f.code) ∧
    (s.til.load = .loading →
      exec (.readCapture tag 0) s = .next (s.heard.replied 0x8A tag ⟨.refused, .loading, .nothing⟩) ∧
      exec (.clearCapture tag 0) s = .next (s.heard.replied 0x8B tag ⟨.refused, .loading, .nothing⟩))

/-! ### The queues (chapter 9) -/

/-- R168, R173: NEXT RECORD and NEXT EVENT remove the entry at the head of their queue and return it with the number left (and the dropped count), or answer NONE, in every load state; ATTN is tested afresh. -/
def Obligations.QueuesGiveTheirHeads : Prop :=
  (∀ (s : State) (tag : Byte), s.takes →
    (∀ r rest, s.rd.records = r :: rest →
      exec (.nextRecord tag 0) s = .next ({ s.heard with rd := { s.rd with records := rest } }.testAttn.replied 0x87 tag
        ⟨.done, .none, .record (some r) rest.length⟩)) ∧
    (s.rd.records = [] → exec (.nextRecord tag 0) s = .next (s.heard.replied 0x87 tag ⟨.done, .none, .record none 0⟩))) ∧
  (∀ (s : State) (tag : Byte), s.takes →
    (∀ e rest, s.reu.events = e :: rest →
      exec (.nextEvent tag 0) s = .next ({ s.heard with reu := { s.reu with events := rest } }.testAttn.replied 0x88 tag
        ⟨.done, .none, .event (some e) rest.length s.reu.dropped⟩)) ∧
    (s.reu.events = [] →
      exec (.nextEvent tag 0) s = .next (s.heard.replied 0x88 tag ⟨.done, .none, .event none 0 s.reu.dropped⟩)))

/-- R174: SET EVENT LEVELS with a mask level of 0..7 and pairs that name settable kinds once each sets M and each named kind's level; queued events of a named kind take it in their places, and nothing else changes but ATTN. Any other is refused with BAD VALUE. -/
def Obligations.SetEventLevelsIsCheckedWhole : Prop :=
  ∀ (s : State) (tag mask : Byte), s.takes → s.til.load ≠ .loading →
    (∀ xs : List (Fin 17 × Fin 7), mask.toNat ≤ 7 → (xs.map (·.1)).Nodup →
      ∃ t : State,
        exec (.setEventLevels tag (2 + 2 * xs.length) mask
          (xs.map fun x => (BitVec.ofNat 8 (x.1.val + 4), BitVec.ofNat 8 x.2.val))) s = .next t ∧
        { t with reu := s.reu } = s.heard.replied 0x89 tag ⟨.done, .none, .nothing⟩ ∧
        t.reu.mask = mask.toNat ∧ t.reu.dropped = s.reu.dropped ∧ t.reu.attn = t.attnCondition ∧
        (∀ x ∈ xs, ∀ i : Fin 20, i.val = x.1.val + 3 → t.reu.levels.get i = x.2.val) ∧
        (∀ i : Fin 20, (∀ x ∈ xs, i.val ≠ x.1.val + 3) → t.reu.levels.get i = s.reu.levels.get i) ∧
        t.reu.events = s.reu.events.map fun e =>
          { e with level := if xs.any (fun x => decide (e.kind.code = x.1.val + 4)) then t.reu.levels.get e.kind.index else e.level }) ∧
    (∀ ps : List (Byte × Byte),
      7 < mask.toNat ∨ (∃ p ∈ ps, p.1.toNat < 4 ∨ 20 < p.1.toNat ∨ 6 < p.2.toNat) ∨ ¬(ps.map (·.1)).Nodup →
      exec (.setEventLevels tag (2 + 2 * ps.length) mask ps) s =
        .next (s.heard.replied 0x89 tag ⟨.refused, .badValue, .nothing⟩))

/-! ### Authorization (chapter 3) -/

/-- R49, R50: NEXT AUTH moves the oldest OFFERED context of the request list to TAKEN and returns its authorization request; with none the list is unchanged and the answer is NONE. -/
def Obligations.NextAuthTakesTheOldestOffered : Prop :=
  ∀ (s : State) (tag : Byte), s.takes → s.til.load ≠ .loading →
    (∀ (front : List ContextId) (i : ContextId) (rest : List ContextId) (tm : Timer),
      s.ae.requests = front ++ i :: rest → (∀ j ∈ front, (s.ctx j).state ≠ .offered) → (s.ctx i).state = .offered →
      (s.ctx i).deadline = some tm →
      exec (.nextAuth tag 0) s = .next ((s.heard.setCtx i { s.ctx i with state := .taken }).testAttn.replied 0x84 tag
        ⟨.done, .none, .authRequest (some
          { transaction := (s.ctx i).transaction, context := i, terminal := (s.ctx i).terminal, lane := (s.ctx i).lane,
            card := (s.ctx i).card, program := (s.ctx i).program, entries := (s.ctx i).entries,
            amount := (s.ctx i).requestedAmount.getD 0, products := (s.ctx i).requestedSet.getD 0,
            age := (tm.full - tm.left) / 10 })⟩)) ∧
    ((∀ j ∈ s.ae.requests, (s.ctx j).state ≠ .offered) →
      exec (.nextAuth tag 0) s = .next (s.heard.replied 0x84 tag ⟨.done, .none, .authRequest none⟩))

/-- R45 to R47: UPLINK STATE sets the uplink, and any value but ONLINE and OFFLINE is refused; when the uplink goes OFFLINE, by UPLINK STATE or by the host's silence, each OFFERED context of the request list is given the stand-in check of R47, oldest first, so that none is OFFERED any longer, and every other context, a TAKEN one too, is as it was; a silence found while the uplink is OFFLINE only stops the timer. -/
def Obligations.UplinkFollowsTheHostAndItsSilence : Prop :=
  (∀ (s : State) (tag : Byte), s.takes → s.til.load ≠ .loading →
    exec (.uplinkState tag 1 1) s =
      .next { (s.heard.replied 0x86 tag ⟨.done, .none, .nothing⟩) with ae := { s.heard.ae with online := true } } ∧
    (s.ae.online = false →
      exec (.uplinkState tag 1 2) s = .next (s.heard.replied 0x86 tag ⟨.done, .none, .nothing⟩)) ∧
    ∀ v : Byte, v ≠ 1 → v ≠ 2 →
      exec (.uplinkState tag 1 v) s = .next (s.heard.replied 0x86 tag ⟨.refused, .badValue, .nothing⟩)) ∧
  (∀ s : State, s.power.phase = .running →
    (s.ae.online = true → s.ae.silence.isSome = true →
      ∃ t : State, exec .hostSilenceTimerExpiry s = .next t ∧ t.ae.online = false ∧ t.ae.silence = none ∧
        (∀ i ∈ s.ae.requests, (t.ctx i).state ≠ .offered) ∧
        (∀ i, i ∉ s.ae.requests ∨ (s.ctx i).state ≠ .offered → t.ctx i = s.ctx i) ∧
        (s.ae.requests.Nodup → t = (s.ae.requests.filter fun i => decide ((s.ctx i).state = ContextState.offered)).foldl
          (fun (u : State) i => u.standInCheck i .uplinkLoss) { s with ae := { s.ae with online := false, silence := none } })) ∧
    (s.ae.online = true → ∀ tag : Byte, s.takes → s.til.load ≠ .loading →
      ∃ t : State, exec (.uplinkState tag 1 2) s = .next t ∧ t.ae.online = false ∧
        t.hlu.answering = some ⟨0x86, tag, ⟨.done, .none, .nothing⟩⟩ ∧
        (∀ i ∈ s.ae.requests, (t.ctx i).state ≠ .offered) ∧
        (∀ i, i ∉ s.ae.requests ∨ (s.ctx i).state ≠ .offered → t.ctx i = s.ctx i) ∧
        (s.ae.requests.Nodup → t = ((s.ae.requests.filter fun i => decide ((s.ctx i).state = ContextState.offered)).foldl
          (fun (u : State) i => u.standInCheck i .uplinkLoss) { s.heard with ae := { s.heard.ae with online := false } }).replied 0x86 tag
            ⟨.done, .none, .nothing⟩)) ∧
    (s.ae.online = false → s.ae.silence.isSome = true →
      exec .hostSilenceTimerExpiry s = .next { s with ae := { s.ae with silence := none } }))

/-- R54: an APPROVE for a context in OFFERED or TAKEN is brought within the request and the program copy; where an amount and a product are left, the context is approved by the host with them, and the reply says whether a step changed what the host sent. Bits 2 to 7 of the limits' presence byte are not read, and an approval code of length 0 is an absent one (notes/assumptions/27.md). -/
def Obligations.ApproveIsBroughtWithinTheRequest : Prop :=
  ∀ (s : State) (tag : Byte) (b : AuthResultBody) (i : ContextId), s.takes → s.til.load ≠ .loading →
    s.findTransaction b.transaction.toNat = some i → (s.ctx i).state = .offered ∨ (s.ctx i).state = .taken →
    b.transaction ≠ 0 → b.result = 1 → b.amount.toNat ≤ 999999 → b.codeLength.toNat ≤ 8 →
    (∀ x ∈ b.codeChars.take b.codeLength.toNat, 0x20 ≤ x.toNat ∧ x.toNat ≤ 0x7E) →
    let c := s.ctx i
    let limit := fun (present : Bool) (v : BitVec 32) (own : Option Nat) =>
      if present then some (match own with
        | some p => min (min (max v.toNat 100) 200000) p
        | none => min (max v.toNat 100) 200000)
      else own
    let diesel := limit (b.limits.getLsbD 0) b.dieselLimit (c.copy.bind (·.dieselLimit))
    let fluid := limit (b.limits.getLsbD 1) b.defLimit (c.copy.bind (·.defLimit))
    let amount := min b.amount.toNat (c.requestedAmount.getD 0)
    let products := b.products &&& c.requestedSet.getD 0
    let kept := amount = b.amount.toNat ∧ products = b.products ∧ (b.limits.getLsbD 0 = true → diesel = some b.dieselLimit.toNat) ∧
      (b.limits.getLsbD 1 = true → fluid = some b.defLimit.toNat)
    (amount ≠ 0 ∧ products ≠ 0 →
      exec (.authResult tag 28 b) s = .next ((s.heard.approve i .host
        { amount := amount, permitted := products, dieselLimit := diesel, defLimit := fluid,
          code := if b.codeChars.take b.codeLength.toNat = [] then none else some (b.codeChars.take b.codeLength.toNat) }).replied 0x85 tag
        (if kept then ⟨.done, .none, .nothing⟩ else ⟨.partly, .clamped, .nothing⟩))) ∧
    (amount = 0 ∨ products = 0 →
      exec (.authResult tag 28 b) s = .next ((s.heard.declineBy i .host .hostDeclined).replied 0x85 tag
        ⟨.partly, .clamped, .nothing⟩))

/-- R53, R55 to R57: what a DECLINE does, by where its transaction stands: it declines an OFFERED or TAKEN context; it is TOO LATE for a decided one, where a stand-in decision makes it a late decline; it marks a queued record; it is UNKNOWN TRANSACTION otherwise. -/
def Obligations.DeclineByWhereTheTransactionStands : Prop :=
  ∀ (s : State) (tag : Byte) (b : AuthResultBody), s.takes → s.til.load ≠ .loading →
    b.transaction ≠ 0 → b.result = 2 →
    (∀ i, s.findTransaction b.transaction.toNat = some i →
      ((s.ctx i).state = .offered ∨ (s.ctx i).state = .taken →
        exec (.authResult tag 28 b) s =
          .next ((s.heard.declineBy i .host .hostDeclined).replied 0x85 tag ⟨.done, .none, .nothing⟩)) ∧
      ((s.ctx i).state = .prompting →
        exec (.authResult tag 28 b) s = .next (s.heard.replied 0x85 tag ⟨.refused, .unknownTransaction, .nothing⟩)) ∧
      ((s.ctx i).state ∈ [ContextState.armed, .delivering, .ending, .stopping, .recovering] →
        ((s.ctx i).source ≠ some .standIn →
          exec (.authResult tag 28 b) s = .next (s.heard.replied 0x85 tag ⟨.refused, .tooLate, .nothing⟩)) ∧
        ((s.ctx i).source = some .standIn →
          let u := (s.heard.modCtx i Context.flagLateDecline).queueEvent .lateDecline (laneSubject (s.ctx i).lane) (s.ctx i).transaction
          exec (.authResult tag 28 b) s = .next
            ((if (s.ctx i).state = .armed ∧ (s.ctx i).anyPastIdle = false then u.cancel i .hostLateDecline else u).replied 0x85 tag
              ⟨.refused, .tooLate, .nothing⟩)))) ∧
    (s.findTransaction b.transaction.toNat = none →
      (∀ r, s.findRecord b.transaction.toNat = some r →
        exec (.authResult tag 28 b) s = .next (((s.heard.markRecord r.transaction).queueEvent .lateDecline
          (laneSubject r.lane) r.transaction).replied 0x85 tag ⟨.refused, .tooLate, .nothing⟩)) ∧
      (s.findRecord b.transaction.toNat = none →
        exec (.authResult tag 28 b) s = .next (s.heard.replied 0x85 tag ⟨.refused, .unknownTransaction, .nothing⟩)))

/-! ### Tables, prices, lanes, parameters, clock, image (chapters 2, 6, 7, 10) -/

/-- R36, R39: entries written at successive indices replace those slots and no other, those beyond the table's end being dropped; a LOAD TABLE of 1 to 8 good RANGE, DENY or PROGRAM entries writes them so from its start index, an explicit one or the pointer's; it moves the pointer behind the last entry written, says how many fitted, and changes nothing else. A PROGRAM entry of kind NONE is written empty, whatever it carries. With a save in progress a LOAD TABLE is refused with BUSY; of an unknown table, of no entry or more than 8, with an index beyond its table, or with one bad entry, it is refused with BAD VALUE; nothing is written then. A RANGE entry with fewer digits than its length is no good one here (notes/assumptions/12.md); a start mode other than 1 and 2 is left out (notes/assumptions/38.md). -/
def Obligations.LoadTableWritesFromItsStart : Prop :=
  (∀ (n : Nat) (t : Tab n RangeEntry) (first : Nat) (es : List RangeEntry) (i : Fin n),
    (writeFrom t first es).get i =
      if first ≤ i.val then es.getD (i.val - first) (t.get i) else t.get i) ∧
  (∀ (s : State) (tag : Byte) (start : StartField), s.takes → s.til.load ≠ .loading → s.til.save = none →
    (∀ es : List RangeEntry, 1 ≤ es.length → es.length ≤ 8 → es.all rangeGood = true →
      start.mode = 1 ∧ start.index.toNat < 128 ∨ start.mode = 2 →
      let first := if start.mode = 1 then start.index.toNat else
        match s.csu.pointer with
        | some (.range, n) => n
        | _ => 0
      let fit := min es.length (128 - first)
      exec (.loadTable tag (4 + 12 * es.length) start (.range es)) s = .next
        { (s.heard.replied 0x8C tag (if fit < es.length then ⟨.partly, .tableEnd, .loaded fit (first + fit)⟩
            else ⟨.done, .none, .loaded fit (first + fit)⟩)) with
          csu := { s.csu with ranges := writeFrom s.csu.ranges first es, pointer := some (.range, first + fit) } }) ∧
    (∀ cards : List Digits, 1 ≤ cards.length → cards.length ≤ 8 →
      (∀ d ∈ cards, d = [] ∨ 12 ≤ d.length ∧ d.length ≤ 19) →
      start.mode = 1 ∧ start.index.toNat < 256 ∨ start.mode = 2 →
      let first := if start.mode = 1 then start.index.toNat else
        match s.csu.pointer with
        | some (.deny, n) => n
        | _ => 0
      let fit := min cards.length (256 - first)
      exec (.loadTable tag (4 + 20 * cards.length) start (.deny (cards.map fun d => d.map asciiOf))) s = .next
        { (s.heard.replied 0x8C tag (if fit < cards.length then ⟨.partly, .tableEnd, .loaded fit (first + fit)⟩
            else ⟨.done, .none, .loaded fit (first + fit)⟩)) with
          csu := { s.csu with deny := writeFrom s.csu.deny first cards, pointer := some (.deny, first + fit) } }) ∧
    (∀ ps : List Program, 1 ≤ ps.length → ps.length ≤ 8 → (∀ p ∈ ps, p = emptyProgram ∨ p.loadable) →
      start.mode = 1 ∧ start.index.toNat < 32 ∨ start.mode = 2 →
      let first := if start.mode = 1 then start.index.toNat else
        match s.csu.pointer with
        | some (.program, n) => n
        | _ => 0
      let fit := min ps.length (32 - first)
      exec (.loadTable tag (4 + 29 * ps.length) start (.program (ps.map Program.fields))) s = .next
        { (s.heard.replied 0x8C tag (if fit < ps.length then ⟨.partly, .tableEnd, .loaded fit (first + fit)⟩
            else ⟨.done, .none, .loaded fit (first + fit)⟩)) with
          csu := { s.csu with programs := writeFrom s.csu.programs first ps, pointer := some (.program, first + fit) } }) ∧
    ∀ f : ProgramFields, f.kind = 0 →
      exec (.loadTable tag 33 start (.program [f])) s = exec (.loadTable tag 33 start (.program [emptyProgram.fields])) s) ∧
  ∀ (s : State) (tag : Byte) (start : StartField), s.takes → s.til.load ≠ .loading →
    let refused := fun (n : Nat) (es : LoadEntries) (why : ReplyReason) =>
      exec (.loadTable tag n start es) s = .next (s.heard.replied 0x8C tag ⟨.refused, why, .nothing⟩)
    let beyond := fun (size : Nat) => start.mode = 1 ∧ size ≤ start.index.toNat
    (s.til.save.isSome = true → ∀ (n : Nat) (es : LoadEntries),
      requiredLength (.loadTable start es) = none ∨ requiredLength (.loadTable start es) = some n → refused n es .busy) ∧
    (s.til.save = none →
      (∀ n code, refused n (.unknown code) .badValue) ∧
      (∀ es : List RangeEntry, es.length < 1 ∨ 8 < es.length ∨ beyond 128 ∨ (∃ e ∈ es, rangeRefused e) →
        refused (4 + 12 * es.length) (.range es) .badValue) ∧
      (∀ es : List ProgramFields, es.length < 1 ∨ 8 < es.length ∨ beyond 32 ∨ (∃ e ∈ es, programRefused e) →
        refused (4 + 29 * es.length) (.program es) .badValue) ∧
      (∀ es : List (List Byte), es.length < 1 ∨ 8 < es.length ∨ (∃ e ∈ es, denyRefused e) →
        refused (4 + 20 * es.length) (.deny es) .badValue) ∧
      ∀ es : List ProductFields, es.length < 1 ∨ 8 < es.length ∨ beyond 8 ∨ (∃ e ∈ es, productRefused e) →
        refused (4 + 5 * es.length) (.product es) .badValue)

/-- R34, R36, R39: a LOAD TABLE of 1 to 8 good PRODUCT entries, taken while no lane has a bound context, writes their class and site price from its start index, an explicit one or the pointer's, drops those beyond the table's end, and gives every lane the new prices in force at once; it moves the pointer behind the last entry written, says how many fitted, and changes nothing else. R37: it is refused with WRONG STATE, and nothing is written, while a context is bound to some lane. An entry once written has no pending price; a start mode other than 1 and 2 is left out (notes/assumptions/38.md). -/
def Obligations.LoadedProductsArePricedAtOnce : Prop :=
  ∀ (s : State) (tag : Byte) (start : StartField) (es : List ProductEntry), s.takes → s.til.load ≠ .loading → s.til.save = none →
    1 ≤ es.length → es.length ≤ 8 → (∀ e ∈ es, e.price ≤ 99999 ∧ e.pending = none) →
    start.mode = 1 ∧ start.index.toNat < 8 ∨ start.mode = 2 →
    let body := LoadEntries.product (es.map fun e =>
      ⟨match e.cls with
        | .diesel => 1
        | .exhaustFluid => 2, BitVec.ofNat 32 e.price⟩)
    let first := if start.mode = 1 then start.index.toNat else
      match s.csu.pointer with
      | some (.product, n) => n
      | _ => 0
    let fit := min es.length (8 - first)
    ((∀ l : LaneId, s.bound l = none) →
      exec (.loadTable tag (4 + 5 * es.length) start body) s = .next
        { (s.heard.replied 0x8C tag (if fit < es.length then ⟨.partly, .tableEnd, .loaded fit (first + fit)⟩
            else ⟨.done, .none, .loaded fit (first + fit)⟩)) with
          csu := { s.csu with pointer := some (.product, first + fit) }
          lau := { s.lau with products := writeFrom s.lau.products first es }
          dcu := ⟨s.dcu.lanes.map fun x => { x with prices := writeFrom x.prices first (es.map (·.price)) }⟩ }) ∧
    ((∃ l : LaneId, s.bound l ≠ none) →
      exec (.loadTable tag (4 + 5 * es.length) start body) s = .next
        (s.heard.replied 0x8C tag ⟨.refused, .wrongState, .nothing⟩))

/-- R40: READ TABLE returns the entries from its start index, up to its count or the table's end, and changes nothing; an unknown table, a count outside 1..8 or a start beyond the table is refused with BAD VALUE. -/
def Obligations.ReadTableReturnsEntries : Prop :=
  ∀ (s : State) (tag start count : Byte), s.takes → s.til.load ≠ .loading →
    (∀ (code size : Nat) (es : TableEntries),
      (code, size, es) ∈
        [(1, 128, .range ((s.csu.ranges.items.drop start.toNat).take count.toNat)),
         (2, 32, .program ((s.csu.programs.items.drop start.toNat).take count.toNat)),
         (3, 256, .deny ((s.csu.deny.items.drop start.toNat).take count.toNat)),
         (4, 8, TableEntries.product ((s.lau.products.items.drop start.toNat).take count.toNat))] →
      exec (.readTable tag 3 (BitVec.ofNat 8 code) start count) s = .next (s.heard.replied 0x8D tag
        (if 1 ≤ count.toNat ∧ count.toNat ≤ 8 ∧ start.toNat < size then ⟨.done, .none, .entries es⟩
         else ⟨.refused, .badValue, .nothing⟩))) ∧
    ∀ code : Byte, code.toNat < 1 ∨ 4 < code.toNat →
      exec (.readTable tag 3 code start count) s = .next (s.heard.replied 0x8D tag ⟨.refused, .badValue, .nothing⟩)

/-- R148 to R150: a SET PRICES taken while no lane has a bound context completes within the request: each named product's new price is its site price, no price is pending, the adoption list is empty, every lane's prices in force are the site prices. While a lane has a bound context that lane keeps its prices and stands in the adoption list, every other lane has the newest prices, and the named prices are pending. Nothing but prices, events and ATTN changes. It is refused, and nothing changes, with NO TABLES in that load state, then with BUSY during a save, then with BAD VALUE for a pair count outside 1..8, a product outside 1..8, a price above 99,999, or a product named twice. -/
def Obligations.SetPricesIsAdoptedLaneByLane : Prop :=
  (∀ (s : State) (tag : Byte) (qs : List (Product × Fin 100000)), s.takes → s.til.load = .run → s.til.save = none →
    1 ≤ qs.length → (qs.map (·.1)).Nodup → (∀ l : LaneId, s.bound l = none) →
    ∃ t : State,
      exec (.setPrices tag (1 + 5 * qs.length) (qs.map fun q => (BitVec.ofNat 8 (q.1.val + 1), BitVec.ofNat 32 q.2.val))) s = .next t ∧
      (∀ q ∈ qs, (t.lau.products.get q.1).price = q.2.val) ∧
      (∀ p : Product, p ∉ qs.map (·.1) → (t.lau.products.get p).price = (s.lau.products.get p).newest) ∧
      (∀ p : Product, (t.lau.products.get p).pending = none ∧ (t.lau.products.get p).cls = (s.lau.products.get p).cls) ∧
      (∀ l : LaneId, t.lau.adoption.get l = false ∧
        t.lane l = { s.lane l with prices := t.lau.products.map (·.price) }) ∧
      { t with lau := s.lau, dcu := s.dcu, reu := s.reu } = s.heard.replied 0x8E tag ⟨.done, .none, .adopting 0⟩) ∧
  (∀ (s : State) (tag : Byte) (qs : List (Product × Fin 100000)), s.takes → s.til.load = .run → s.til.save = none →
    1 ≤ qs.length → (qs.map (·.1)).Nodup → (∃ l : LaneId, s.bound l ≠ none) →
    ∃ t : State,
      exec (.setPrices tag (1 + 5 * qs.length) (qs.map fun q => (BitVec.ofNat 8 (q.1.val + 1), BitVec.ofNat 32 q.2.val))) s = .next t ∧
      (∀ q ∈ qs, t.lau.products.get q.1 = { s.lau.products.get q.1 with pending := some q.2.val }) ∧
      (∀ p : Product, p ∉ qs.map (·.1) → t.lau.products.get p = s.lau.products.get p) ∧
      (∀ l : LaneId, s.bound l ≠ none → t.lane l = s.lane l ∧ t.lau.adoption.get l = true) ∧
      (∀ l : LaneId, s.bound l = none →
        t.lane l = { s.lane l with prices := t.lau.products.map fun e => e.pending.getD e.price } ∧ t.lau.adoption.get l = false) ∧
      { t with lau := s.lau, dcu := s.dcu, reu := s.reu } = s.heard.replied 0x8E tag
        ⟨.done, .none, .adopting ((List.finRange 12).filter fun l => (s.bound l).isSome).length⟩) ∧
  ∀ (s : State) (tag : Byte) (ps : List (Byte × BitVec 32)), s.takes → s.til.load ≠ .loading →
    let refused := fun (why : ReplyReason) =>
      exec (.setPrices tag (1 + 5 * ps.length) ps) s = .next (s.heard.replied 0x8E tag ⟨.refused, why, .nothing⟩)
    (s.til.load = .noTables → refused .noTables) ∧
    (s.til.load = .run → s.til.save.isSome = true → refused .busy) ∧
    (s.til.load = .run → s.til.save = none →
      ps.length < 1 ∨ 8 < ps.length ∨ (∃ p ∈ ps, p.1.toNat < 1 ∨ 8 < p.1.toNat ∨ 99999 < p.2.toNat) ∨ ¬(ps.map (·.1)).Nodup →
      refused .badValue)

/-- R105: a SET LANE whose fields are in range, whose channels and terminal are not taken elsewhere, on a lane that is CLOSED or IDLE or that changes in its open flag alone, writes the configuration; a CLOSED or IDLE lane follows the open flag; a moved channel's nozzle becomes UNKNOWN and its quiet count 0. Nothing else changes: the valve and close cause handed on stay too (notes/assumptions/27.md). It is refused, and nothing changes, with BUSY during a save; then with BAD VALUE for a field out of range, a head channel named twice, or a terminal of more than 2 lanes; then with WRONG STATE where a lane IN USE, in FAULT STOP or LOCKED would change in more than its open flag. The tests are made against the lanes' table configurations, where the records of a context that came through a warm start could be meant (DEDUCED, notes/assumptions/44.md). -/
def Obligations.SetLaneWritesTheConfiguration : Prop :=
  (∀ (s : State) (tag : Byte) (b : SetLaneBody) (l : LaneId) (c : LaneConfig), s.takes → s.til.load ≠ .loading →
    s.til.save = none → laneConfigOf b = some (l, c) → channelsDistinct (s.configsWith l c) = true →
    terminalFits (s.configsWith l c) c.terminal = true →
    (s.lane l).state = .closed ∨ (s.lane l).state = .idle ∨
      (s.lane l).config.terminal = c.terminal ∧ (s.lane l).config.channels = c.channels →
    let x := s.lane l
    exec (.setLane tag 21 b) s = .next ((s.heard.setLane l
      { x with
        config := c
        state := if x.state = .closed ∨ x.state = .idle then (if c.isOpen then .idle else .closed) else x.state
        channels := .build fun ch =>
          if (x.config.channels.get ch).map (fun z => (z.head, z.headChannel)) =
              (c.channels.get ch).map (fun z => (z.head, z.headChannel)) then x.channels.get ch
          else { x.channels.get ch with nozzle := .unknown, quiet := 0 } }).replied 0x8F tag ⟨.done, .none, .nothing⟩)) ∧
  ∀ (s : State) (tag : Byte) (b : SetLaneBody), s.takes → s.til.load ≠ .loading →
    let refused := fun (why : ReplyReason) =>
      exec (.setLane tag 21 b) s = .next (s.heard.replied 0x8F tag ⟨.refused, why, .nothing⟩)
    (s.til.save.isSome = true → refused .busy) ∧
    (s.til.save = none →
      (b.lane.toNat < 1 ∨ 12 < b.lane.toNat ∨ 8 < b.terminal.toNat ∨
        (∃ ch : Channel, (b.channels.get ch).present = true ∧
          ((b.channels.get ch).head.toNat < 1 ∨ 24 < (b.channels.get ch).head.toNat ∨ (b.channels.get ch).headChannel.toNat < 1 ∨
            2 < (b.channels.get ch).headChannel.toNat ∨ (b.channels.get ch).product.toNat < 1 ∨
            8 < (b.channels.get ch).product.toNat ∨ (b.channels.get ch).k.toNat < 10 ∨ 1000 < (b.channels.get ch).k.toNat)) →
        refused .badValue) ∧
      ∀ (l : LaneId) (c : LaneConfig), laneConfigOf b = some (l, c) →
        (channelsDistinct (s.configsWith l c) = false ∨ terminalFits (s.configsWith l c) c.terminal = false → refused .badValue) ∧
        (channelsDistinct (s.configsWith l c) = true → terminalFits (s.configsWith l c) c.terminal = true →
          (s.lane l).state = .inUse ∨ (s.lane l).state = .faultStop ∨ (s.lane l).state = .locked →
          (s.lane l).config.terminal ≠ c.terminal ∨ (s.lane l).config.channels ≠ c.channels → refused .wrongState))

/-- R197: SET SITE PARAMETERS gives each named parameter its value brought within its range, leaves the others, and answers with the pairs as they now stand, CLAMPED where a value was moved. A pair count outside 1..14, a number outside 1..14 or a number named twice is refused with BAD VALUE, and nothing changes. -/
def Obligations.SiteParametersAreClamped : Prop :=
  (∀ (s : State) (tag : Byte) (xs : List (Fin 14 × BitVec 16)), s.takes → s.til.load ≠ .loading →
    1 ≤ xs.length → (xs.map (·.1)).Nodup →
    let held := fun (x : Fin 14 × BitVec 16) =>
      max (Config.parameterLow x.1) (min (Config.parameterHigh x.1) x.2.toNat)
    ∃ t : State,
      exec (.setSiteParameters tag (1 + 3 * xs.length) (xs.map fun x => (BitVec.ofNat 8 (x.1.val + 1), x.2))) s = .next t ∧
      (∀ x ∈ xs, t.til.params.get x.1 = held x) ∧
      (∀ i : Fin 14, i ∉ xs.map (·.1) → t.til.params.get i = s.til.params.get i) ∧
      { t with til := s.til } = s.heard.replied 0x90 tag
        ⟨if xs.all (fun x => decide (held x = x.2.toNat)) then .done else .partly,
         if xs.all (fun x => decide (held x = x.2.toNat)) then .none else .clamped,
         .parameters (xs.map fun x => (x.1.val + 1, held x))⟩ ∧
      { t.til with params := s.til.params } = s.til) ∧
  ∀ (s : State) (tag : Byte) (ps : List (Byte × BitVec 16)), s.takes → s.til.load ≠ .loading →
    ps.length < 1 ∨ 14 < ps.length ∨ (∃ p ∈ ps, p.1.toNat < 1 ∨ 14 < p.1.toNat) ∨ ¬(ps.map (·.1)).Nodup →
    exec (.setSiteParameters tag (1 + 3 * ps.length) ps) s = .next (s.heard.replied 0x90 tag ⟨.refused, .badValue, .nothing⟩)

/-- R188: SET CLOCK with a legal reading sets the reading and the valid mark, in every load state, and the tenths of its second to 0 (notes/assumptions/31.md); any other is refused with BAD VALUE, and nothing changes. -/
def Obligations.SetClockIsChecked : Prop :=
  ∀ (s : State) (tag : Byte) (b : SetClockBody), s.takes →
    let days := if b.month.toNat = 2 then (if b.year.toNat % 4 = 0 then 29 else 28)
      else if b.month.toNat ∈ [4, 6, 9, 11] then 30 else 31
    let legal := 2000 ≤ b.year.toNat ∧ b.year.toNat ≤ 2099 ∧ 1 ≤ b.month.toNat ∧ b.month.toNat ≤ 12 ∧ 1 ≤ b.day.toNat ∧
      b.day.toNat ≤ days ∧ b.hour.toNat ≤ 23 ∧ b.minute.toNat ≤ 59 ∧ b.second.toNat ≤ 59
    (legal → exec (.setClock tag 7 b) s = .next { (s.heard.replied 0x91 tag ⟨.done, .none, .nothing⟩) with
      rd := { s.rd with
        clock := ⟨b.year.toNat, b.month.toNat, b.day.toNat, b.hour.toNat, b.minute.toNat, b.second.toNat⟩
        clockTenths := 0
        clockValid := true } }) ∧
    (¬legal → exec (.setClock tag 7 b) s = .next (s.heard.replied 0x91 tag ⟨.refused, .badValue, .nothing⟩))

/-- R190: SAVE TABLES copies the tables, configurations and parameters without pending prices and marks a save, and from then on the flash holds no image (notes/assumptions/17.md: the erasing of the save is taken with the request); while a save is in progress it is refused with BUSY; SAVE COMPLETE makes the copy the image, with its header of length 7,892 and the body's CRC-16, queues SAVE DONE and turns NO TABLES into RUN; SAVE FAILED leaves no valid image, queues SAVE FAILED and changes no table. -/
def Obligations.SaveCopiesAndEnds : Prop :=
  ∀ s : State,
    (∀ tag : Byte, s.takes → s.til.load ≠ .loading → s.til.save = none →
      exec (.saveTables tag 0) s = .next { (s.heard.replied 0x92 tag ⟨.done, .none, .nothing⟩) with
        til := { s.til with
          save := some ⟨s.csu.ranges, s.csu.programs, s.csu.deny, s.lau.products.map (fun e => ⟨e.cls, e.price, none⟩),
            s.dcu.lanes.map (·.config), s.til.params⟩
          flash := none } }) ∧
    (∀ tag : Byte, s.takes → s.til.load ≠ .loading → s.til.save.isSome = true →
      exec (.saveTables tag 0) s = .next (s.heard.replied 0x92 tag ⟨.refused, .busy, .nothing⟩)) ∧
    (∀ body : SiteImage, s.power.phase = .running → s.til.save = some body →
      exec .saveComplete s = .next ({ s with til := { s.til with
        save := none, flash := some ⟨7892, crc16 body.bytes, body⟩,
        load := if s.til.load = LoadState.noTables then LoadState.run else s.til.load } }.queueEvent .saveDone .nothing 0) ∧
      ∀ why : SaveFailure, exec (.saveFailed why) s = .next ({ s with til := { s.til with
        save := none, flash := none } }.queueEvent .saveFailed .nothing (match why with
          | .noAnswer => 1
          | .badReadBack => 2)))

/-- R189: a load that reads an image whose header holds the length 7,892 and the CRC-16 of its body ends in RUN, with the tables, configurations and parameters of the image and every lane's prices in force the site prices; an open lane that is CLOSED and not bound becomes IDLE. A load that finds none ends in NO TABLES with empty tables and TABLES INVALID, of detail 1 where the flash does not answer, 2 where the length is wrong, 3 where the CRC fails; of an erased flash the detail is left open (notes/assumptions/17.md). Either way the recovery timers start. An empty range entry is written with no digits and target program 0: the model's choice (DESIGN CHOICE, notes/assumptions/37.md), since R41 fixes its length of 0 only. With no image every lane's configuration is empty (R103, R189): the load leaves the lanes as they stand, and the start has emptied every configuration before (notes/assumptions/18.md), so nothing is left to empty. -/
def Obligations.TableLoadEnds : Prop :=
  ∀ s : State, s.power.phase = .running → s.til.load = .loading →
    (∀ f : FlashImage, s.til.flash = some f → f.length = 7892 → crc16 f.body.bytes = f.check →
      let image := f.body
      ∃ t : State, exec (.tableLoadEnd true) s = .next t ∧
        t.til = { s.til with load := .run, params := image.params } ∧
        t.csu = { s.csu with ranges := image.ranges, programs := image.programs, deny := image.deny } ∧
        t.lau = { s.lau with products := image.products } ∧
        (∀ l : LaneId, t.lane l = { s.lane l with
          config := image.lanes.get l
          prices := image.products.map (·.price)
          state := if (s.lane l).state = .closed ∧ s.bound l = none ∧ (image.lanes.get l).isOpen = true then .idle
            else (s.lane l).state }) ∧
        (∀ i : ContextId, t.ctx i = if (s.ctx i).state = .recovering then
            { s.ctx i with deadline := some ⟨10 * image.params.get 10, 10 * image.params.get 10⟩ } else s.ctx i) ∧
        { t with til := s.til, csu := s.csu, lau := s.lau, dcu := s.dcu, rd := s.rd } = s) ∧
    (∀ (answered : Bool) (detail : Nat),
      (answered = false ∧ detail = 1) ∨
      (answered = true ∧ s.til.flash = none ∧ detail = if Config.erasedLength = 7892 then 3 else 2) ∨
      (answered = true ∧ ∃ f, s.til.flash = some f ∧
        (f.length ≠ 7892 ∧ detail = 2 ∨ f.length = 7892 ∧ crc16 f.body.bytes ≠ f.check ∧ detail = 3)) →
      ∃ t : State, exec (.tableLoadEnd answered) s = .next t ∧
        t.til = { s.til with load := .noTables } ∧
        t.csu = { s.csu with
          ranges := .fill 128 ⟨0, [], .program 0⟩, programs := .fill 32 ⟨.unused, [], 0, 0, none, none, false, 0, 0⟩, deny := .fill 256 [] } ∧
        t.lau = { s.lau with products := .fill 8 ⟨.diesel, 0, none⟩ } ∧ t.dcu = s.dcu ∧
        t.reu.events = (s.reu.occur .tablesInvalid .nothing detail s.stamp).events ∧
        (∀ i : ContextId, t.ctx i = if (s.ctx i).state = .recovering then
            { s.ctx i with deadline := some ⟨10 * s.til.params.get 10, 10 * s.til.params.get 10⟩ } else s.ctx i) ∧
        { t with til := s.til, csu := s.csu, lau := s.lau, reu := s.reu, rd := s.rd } = s)

/-! ### Stops, resume, restart (chapters 8 and 10) -/

/-- R22, R163, R164: STOP LANE and CANCEL TRANSACTION close a context whose delivery has not begun, with a CANCEL record and their own reason; the reply to STOP LANE carries the transaction number. One in STOPPING is left as it is and answered DONE; one in RECOVERING is refused with WRONG STATE. A stop of a lane that is none of 1..12, or that has no bound context, is refused; so is a cancellation of number 0, of a number that only a queued record holds, and of a number that nothing holds. -/
def Obligations.StopsCancelBeforeDelivery : Prop :=
  (∀ (s : State) (tag : Byte) (i : ContextId) (l : LaneId) (n : BitVec 32), s.takes → s.til.load ≠ .loading → s.LatchClean →
    let c := s.ctx i
    (s.bound l = some i →
      (c.beforeDelivery → exec (.stopLane tag 1 (BitVec.ofNat 8 (l.val + 1))) s = .next
        ((s.heard.cancel i .hostStop).replied 0x93 tag ⟨.done, .none, .transaction c.transaction⟩).arbitrate.1) ∧
      (c.state = .stopping → exec (.stopLane tag 1 (BitVec.ofNat 8 (l.val + 1))) s = .next
        (s.heard.replied 0x93 tag ⟨.done, .none, .transaction c.transaction⟩).arbitrate.1) ∧
      (c.state = .recovering → exec (.stopLane tag 1 (BitVec.ofNat 8 (l.val + 1))) s = .next
        (s.heard.replied 0x93 tag ⟨.refused, .wrongState, .transaction c.transaction⟩))) ∧
    (n ≠ 0 → s.findTransaction n.toNat = some i →
      (c.beforeDelivery → exec (.cancelTransaction tag 4 n) s = .next
        ((s.heard.cancel i .hostCancel).replied 0x94 tag ⟨.done, .none, .nothing⟩).arbitrate.1) ∧
      (c.state = .stopping → exec (.cancelTransaction tag 4 n) s = .next
        (s.heard.replied 0x94 tag ⟨.done, .none, .nothing⟩).arbitrate.1) ∧
      (c.state = .recovering → exec (.cancelTransaction tag 4 n) s = .next
        (s.heard.replied 0x94 tag ⟨.refused, .wrongState, .nothing⟩)))) ∧
  (∀ (s : State) (tag : Byte), s.takes → s.til.load ≠ .loading →
    (∀ lane : Byte, lane.toNat < 1 ∨ 12 < lane.toNat →
      exec (.stopLane tag 1 lane) s = .next (s.heard.replied 0x93 tag ⟨.refused, .badValue, .nothing⟩)) ∧
    (∀ l : LaneId, s.bound l = none → exec (.stopLane tag 1 (BitVec.ofNat 8 (l.val + 1))) s =
      .next (s.heard.replied 0x93 tag ⟨.refused, .wrongState, .nothing⟩)) ∧
    exec (.cancelTransaction tag 4 0) s = .next (s.heard.replied 0x94 tag ⟨.refused, .badValue, .nothing⟩) ∧
    ∀ n : BitVec 32, n ≠ 0 → (∀ i : ContextId, (s.ctx i).state = .free ∨ (s.ctx i).transaction ≠ n.toNat) →
      exec (.cancelTransaction tag 4 n) s = .next (s.heard.replied 0x94 tag
        ⟨.refused, if s.rd.records.any (fun r => decide (r.transaction = n.toNat)) then .tooLate else .unknownTransaction, .nothing⟩))

/-- R21, R22, R93, R123, R163, R164: STOP LANE and CANCEL TRANSACTION of a context that is ARMED with a channel past IDLE, DELIVERING or ENDING are answered DONE and take it into STOPPING with their reason, where it has none; no timer and no allocation of it runs. Its ZEROING and ALLOCATING channels return to IDLE, an OPENING channel keeps its state, a FLOWING one becomes CLOSING with STOPPED, and for each of these two a CLOSE stands in its head's list behind the CLOSEs that stood there. While a channel is in progress the context stays STOPPING; where none is it closes, with a record of its transaction and reason. Where a head serves several of the channels, their CLOSEs stand in letter order (the model's choice: notes/assumptions/48.md). Every other context, lane and head stays. It is stated where the dispenser link is not free, no command of the lane is queued, and the heads of the channels to close are ONLINE and serve no LOCKED lane. -/
def Obligations.StoppingActsOnEveryChannel : Prop :=
  ∀ (s : State) (tag : Byte) (l : LaneId) (i : ContextId) (rs : Triple ChannelRecord), s.takes → s.til.load ≠ .loading →
    s.bound l = some i → (s.ctx i).channels = some rs → s.dlu.line ≠ .quiet →
    (s.ctx i).state = .delivering ∨ (s.ctx i).state = .ending ∨ (s.ctx i).state = .armed ∧ (s.ctx i).anyPastIdle = true →
    (∀ ch : Channel, (rs.get ch).state = .opening ∨ (rs.get ch).state = .flowing →
      ∃ z, (rs.get ch).setup = some z ∧ (s.head z.head).online = true ∧ ∀ q ∈ s.servedBy z.head, (s.lane q.1).state ≠ .locked) →
    (∀ h : HeadId, ∀ d ∈ (s.head h).commands, d.lane ≠ l) →
    let c := s.ctx i
    let stopped := fun (r : ChannelRecord) => match r.state with
      | .zeroing | .allocating => { r with
          state := .idle, points := none, endCause := none, noFlow := none, settle := none, closeQueued := none, awaiting := false }
      | .opening => { r with closeQueued := some .stopped }
      | .flowing => { r with state := .closing, endCause := some .stopped, closeQueued := none, noFlow := none }
      | .idle | .closing | .settling | .done | .refused | .failed => r
    let closes := fun (h : HeadId) => [Channel.a, .b, .c].filterMap fun ch =>
      match (rs.get ch).setup with
      | some z =>
        if ((rs.get ch).state = .opening ∨ (rs.get ch).state = .flowing) ∧ z.head = h then
          some (⟨h, z.headChannel, l, ch, some (i, c.transaction), .close .stopped false⟩ : Command)
        else none
      | none => none
    let done := fun (why : Reason) (t : State) =>
      let kept := { c with
        state := .stopping, deadline := none, allocation := .clear, reason := some (c.reason.getD why), channels := some (rs.map stopped) }
      ((rs.map stopped).any (fun r => r.state.inProgress) = true →
        t.ctx i = kept ∧ t.rd.records = s.rd.records ∧ t.dcu = s.dcu) ∧
      ((rs.map stopped).any (fun r => r.state.inProgress) = false →
        t.ctx i = .cleared ∧ ∃ r, t.rd.records = s.rd.records ++ [r] ∧ r.transaction = c.transaction ∧ r.reason = kept.reason ∧
          r.kind = if 0 < kept.totalVolume then .sale else .noSale) ∧
      (∀ j : ContextId, j ≠ i → t.ctx j = s.ctx j) ∧ (∀ m : LaneId, m ≠ l → t.lane m = s.lane m) ∧ t.dlu.line = s.dlu.line ∧
      ∀ h : HeadId, t.head h = if closes h = [] then s.head h else { s.head h with
        commands := (s.head h).commands.filter Command.isClose ++ closes h ++ (s.head h).commands.filter fun d => !d.isClose }
    (∃ t : State, exec (.stopLane tag 1 (BitVec.ofNat 8 (l.val + 1))) s = .next t ∧ done .hostStop t ∧
      t.hlu.answering = some ⟨0x93, tag, ⟨.done, .none, .transaction c.transaction⟩⟩) ∧
    ∀ n : BitVec 32, n ≠ 0 → s.findTransaction n.toNat = some i →
      ∃ t : State, exec (.cancelTransaction tag 4 n) s = .next t ∧ done .hostCancel t ∧
        t.hlu.answering = some ⟨0x94, tag, ⟨.done, .none, .nothing⟩⟩

/-- R131, R162: RESET LANE ends the lock of a LOCKED lane whose present channels are quiet and whose heads are ONLINE: its lane state follows the open flag, its fault is gone, its cut line is released, it adopts pending prices. A lane that is not safe is refused with LANE NOT SAFE, one that is not LOCKED with WRONG STATE, and a lane number outside 1..12 with BAD VALUE. -/
def Obligations.ResetLaneEndsASafeLock : Prop :=
  ∀ (s : State) (tag : Byte), s.takes → s.til.load ≠ .loading →
    (∀ n : Byte, n.toNat < 1 ∨ 12 < n.toNat →
      exec (.resetLane tag 1 n) s = .next (s.heard.replied 0x95 tag ⟨.refused, .badValue, .nothing⟩)) ∧
    ∀ l : LaneId,
    let x := s.lane l
    let safe := ∀ (ch : Channel) (y : ChannelSetup), s.setup l ch = some y →
      (s.head y.head).online = true ∧ (x.channels.get ch).quiet = 2
    (x.state = .locked → safe →
      exec (.resetLane tag 1 (BitVec.ofNat 8 (l.val + 1))) s = .next
        (({ (s.heard.setLane l { x with
              state := if x.config.isOpen then .idle else .closed
              fault := none
              channels := x.channels.map fun y => { y with quiet := 0, faultClose := .none, faultSettle := none } }) with
            rd := { s.rd with locks := s.rd.locks.set l false }
            scc := { s.scc with cut := s.scc.cut.set l false } } : State).adoptIfListed l |>.replied 0x95 tag ⟨.done, .none, .nothing⟩)) ∧
    (x.state = .locked → ¬safe →
      exec (.resetLane tag 1 (BitVec.ofNat 8 (l.val + 1))) s = .next (s.heard.replied 0x95 tag ⟨.refused, .laneNotSafe, .nothing⟩)) ∧
    (x.state ≠ .locked →
      exec (.resetLane tag 1 (BitVec.ofNat 8 (l.val + 1))) s = .next (s.heard.replied 0x95 tag ⟨.refused, .wrongState, .nothing⟩))

/-- R94, R151 to R157, R159: with the latch clear, ALL STOP and a press of ESTOP set the latch with their source, assert HALT, ask for HALT ALL, take every ZERO, LIMIT, OPEN and RELEASE out of every list, mark an OPEN or RELEASE on the line as in its last attempt, and queue the ALL STOP event; lanes' locks and cut lines stay. Every context whose delivery has not begun is closed, and those in STOPPING or RECOVERING are flagged. An ARMED context whose one channel past IDLE waits in OPENING for a queued OPEN or RELEASE is closed: with a CANCEL record where some channel of its lane is permitted and unused, as the waiting one is in every reachable state; with a NO SALE record, by R17 at the withdrawal, where its approval permits none, so that the clause holds in states no run reaches too. One in delivery goes into STOPPING with reason ALL STOP, where it has none, and its flag, its channels as R123 says and a CLOSE for each OPENING or FLOWING one behind the CLOSEs of its head's list; with no channel in progress it closes. That is stated for one context in delivery, with no command of its lane queued and its heads ONLINE and serving no LOCKED lane; several CLOSEs for one head stand in letter order (the model's choice: notes/assumptions/48.md); the event where no lane waits to adopt prices. All this is stated of sound command lists, which every step keeps (CommandListsStaySound): only longer lists, which no run reaches, pass the bound of notes/assumptions/4.md. With the latch already set the two only add their source and queue the event again. A release of ESTOP changes only what is held of it. -/
def Obligations.AllStopSetsTheLatch : Prop :=
  (∀ s : State, s.power.phase = .running → s.rd.latch = false → s.ListsSound →
    let calm := fun (i : ContextId) =>
      (s.ctx i).state = .free ∨ (s.ctx i).beforeDelivery ∨ (s.ctx i).state = .stopping ∨ (s.ctx i).state = .recovering
    let kept := fun (h : HeadId) => (s.head h).commands.filter fun d => !d.releasing
    let calmed := fun (t : State) (i : ContextId) =>
      ((s.ctx i).beforeDelivery → (t.ctx i).state = .free) ∧
        ((s.ctx i).state = .stopping ∨ (s.ctx i).state = .recovering →
          t.ctx i = { s.ctx i with flags := { (s.ctx i).flags with allStop := true } })
    let queued := fun (t : State) (detail : Nat) => (∀ l, s.lau.adoption.get l = false) →
      t.reu.events = (s.reu.occur .allStop .nothing detail s.stamp).events
    let raises := fun (done : State → Nat → Prop) =>
      let raised := fun (t : State) =>
        t.rd.latch = true ∧ t.scc.halt = true ∧ t.dlu.haltPending = true ∧ t.rd.locks = s.rd.locks ∧ t.scc.cut = s.scc.cut ∧
          (s.dlu.line = .quiet → t.dlu.line = .haltAll none) ∧ (s.dlu.line ≠ .quiet → t.dlu.line = s.dlu.line) ∧
          t.dlu.cutByStop = (s.dlu.cutByStop || s.lineCommand.any Command.opening)
      (∀ tag : Byte, s.takes → s.til.load ≠ .loading →
        ∃ t : State, exec (.allStop tag 0) s = .next t ∧ raised t ∧ done t 1 ∧ t.rd.sourceHost = true ∧
          t.rd.sourceEstop = s.rd.sourceEstop ∧ t.hlu.answering = some ⟨0x96, tag, ⟨.done, .none, .nothing⟩⟩) ∧
      (s.scc.estopHeld = false →
        ∃ t : State, exec .estopPress s = .next t ∧ raised t ∧ done t 2 ∧ t.rd.sourceEstop = true ∧
          t.rd.sourceHost = s.rd.sourceHost ∧ t.scc.estopHeld = true ∧ t.power.estopLow = true)
    ((∀ i, calm i) →
      (∀ h : HeadId, ∀ d ∈ (s.head h).commands, d.opening = true →
        ∀ i : ContextId, (s.ctx i).state ≠ .free → d.owner ≠ some (i, (s.ctx i).transaction)) →
      raises fun t detail => (∀ i, calmed t i) ∧ (∀ h, (t.head h).commands = kept h) ∧ queued t detail) ∧
    (∀ (i : ContextId) (rs : Triple ChannelRecord) (ch : Channel) (l : LaneId), (s.ctx i).state = .armed →
      (s.ctx i).channels = some rs → (rs.get ch).state = .opening → (∀ e, e ≠ ch → (rs.get e).state = .idle) → (∀ j, j ≠ i → calm j) →
      (∃ h : HeadId, ∃ d ∈ (s.head h).commands,
        d.opening = true ∧ d.lane = l ∧ d.channel = ch ∧ d.owner = some (i, (s.ctx i).transaction)) →
      (∀ h : HeadId, ∀ d ∈ (s.head h).commands, d.opening = true →
        ∀ j : ContextId, j ≠ i → (s.ctx j).state ≠ .free → d.owner ≠ some (j, (s.ctx j).transaction)) →
      raises fun t detail => t.ctx i = .cleared ∧ (∀ j, j ≠ i → calmed t j) ∧ (∀ h, (t.head h).commands = kept h) ∧ queued t detail ∧
        ∃ r ∈ t.rd.records, r.transaction = (s.ctx i).transaction ∧
          ((∃ e : Channel, (s.ctx i).mayRelease (rs.get e) = true) → r.kind = .cancel ∧
            r.reason = some ((s.ctx i).reason.getD .allStop) ∧ r.flags.allStop = true) ∧
          ((∀ e : Channel, (s.ctx i).permits (rs.get e) = false) → r.kind = .noSale ∧ r.reason = (s.ctx i).reason)) ∧
    ∀ (i : ContextId) (l : LaneId) (rs : Triple ChannelRecord),
      (s.ctx i).state = .delivering ∨ (s.ctx i).state = .ending ∨ (s.ctx i).state = .armed ∧ (s.ctx i).anyPastIdle = true →
      s.bound l = some i → (s.ctx i).channels = some rs →
      (∀ j, j ≠ i → calm j ∧ ((s.ctx j).beforeDelivery → ∀ m, (s.ctx j).lane = some m → (s.lane m).state ≠ .locked)) →
      (∀ ch : Channel, (rs.get ch).state = .opening ∨ (rs.get ch).state = .flowing →
        ∃ z, (rs.get ch).setup = some z ∧ (s.head z.head).online = true ∧ ∀ q ∈ s.servedBy z.head, (s.lane q.1).state ≠ .locked) →
      (∀ h : HeadId, ∀ d ∈ (s.head h).commands, d.lane ≠ l ∧ (d.opening = true →
        ∀ j : ContextId, (s.ctx j).state ≠ .free → d.owner ≠ some (j, (s.ctx j).transaction))) →
      let stopped := fun (r : ChannelRecord) => match r.state with
        | .zeroing | .allocating => { r with
            state := .idle, points := none, endCause := none, noFlow := none, settle := none, closeQueued := none, awaiting := false }
        | .opening => { r with closeQueued := some .stopped }
        | .flowing => { r with state := .closing, endCause := some .stopped, closeQueued := none, noFlow := none }
        | .idle | .closing | .settling | .done | .refused | .failed => r
      let closes := fun (h : HeadId) => [Channel.a, .b, .c].filterMap fun ch =>
        match (rs.get ch).setup with
        | some z =>
          if ((rs.get ch).state = .opening ∨ (rs.get ch).state = .flowing) ∧ z.head = h then
            some (⟨h, z.headChannel, l, ch, some (i, (s.ctx i).transaction), .close .stopped false⟩ : Command)
          else none
        | none => none
      let c := { s.ctx i with
        state := .stopping, deadline := none, allocation := .clear, reason := some ((s.ctx i).reason.getD .allStop)
        flags := { (s.ctx i).flags with allStop := true }, channels := some (rs.map stopped) }
      raises fun t detail => (∀ j, j ≠ i → calmed t j) ∧
        (∀ h, (t.head h).commands = if closes h = [] then kept h
          else (kept h).filter Command.isClose ++ closes h ++ (kept h).filter fun d => !d.isClose) ∧
        ((rs.map stopped).any (fun r => r.state.inProgress) = true → t.ctx i = c ∧ queued t detail) ∧
        ((rs.map stopped).any (fun r => r.state.inProgress) = false → t.ctx i = .cleared ∧
          ∃ r ∈ t.rd.records, r.transaction = c.transaction ∧ r.reason = c.reason ∧ r.flags.allStop = true ∧
            r.kind = if 0 < c.totalVolume then .sale else .noSale)) ∧
  (∀ s : State, s.power.phase = .running → s.rd.latch = true →
    (∀ tag : Byte, s.takes → s.til.load ≠ .loading →
      exec (.allStop tag 0) s = .next (({ s.heard with rd := { s.rd with sourceHost := true } }.queueEvent .allStop .nothing 1).replied
        0x96 tag ⟨.done, .none, .nothing⟩)) ∧
    (s.scc.estopHeld = false →
      exec .estopPress s = .next ({ s with
        rd := { s.rd with sourceEstop := true }
        scc := { s.scc with estopHeld := true }
        power := { s.power with estopLow := true } }.queueEvent .allStop .nothing 2)) ∧
    (s.scc.estopHeld = true → exec .estopRelease s = .next { s with
      scc := { s.scc with estopHeld := false }, power := { s.power with estopLow := false } }))

/-- R160: ALL RESUME is refused in LOADING, then while ESTOP is held as pressed; otherwise it is DONE, and where the latch was set it is cleared, its source set emptied and HALT released. It changes nothing else. -/
def Obligations.AllResumeClearsTheLatch : Prop :=
  ∀ (s : State) (tag : Byte), s.takes →
    (s.til.load = .loading → exec (.allResume tag 0) s = .next (s.heard.replied 0x97 tag ⟨.refused, .loading, .nothing⟩)) ∧
    (s.til.load ≠ .loading → s.scc.estopHeld = true →
      exec (.allResume tag 0) s = .next (s.heard.replied 0x97 tag ⟨.refused, .estopHeld, .nothing⟩)) ∧
    (s.til.load ≠ .loading → s.scc.estopHeld = false → s.rd.latch = false →
      exec (.allResume tag 0) s = .next (s.heard.replied 0x97 tag ⟨.done, .none, .nothing⟩)) ∧
    (s.til.load ≠ .loading → s.scc.estopHeld = false → s.rd.latch = true →
      exec (.allResume tag 0) s = .next { (s.heard.replied 0x97 tag ⟨.done, .none, .nothing⟩) with
        rd := { s.rd with latch := false, sourceHost := false, sourceEstop := false }
        scc := { s.scc with halt := false } })

/-- R191, R194: RESTART is refused with BUSY during a save; taken, it is answered DONE and no further frame is taken. When the reply has gone the retained check is written and a start begins. That a valid frame after a taken RESTART changes nothing at all, the host-silence timer of R46 and the holding of R194 included, is the model's reading (DEDUCED, notes/assumptions/43.md): R191 says only that no further frame is taken. The reply of any other request leaves the link free for the oldest held frame, which is then tested and served as R195 says, and the work its service leaves (a STOP LANE, a CANCEL TRANSACTION, an ALL STOP) is done within the same event. It has the outcome that its arrival on the free link would have, but for what a valid frame does as it completes (R46, R192): where the receiver hunts and the host-silence timer stands full the two are the same. -/
def Obligations.RestartFollowsItsReply : Prop :=
  ∀ s : State,
    (∀ tag : Byte, s.takes → s.til.load ≠ .loading →
      (s.til.save = none → exec (.restart tag 0) s = .next { (s.heard.replied 0x98 tag ⟨.done, .none, .nothing⟩) with
        hlu := { (s.heard.replied 0x98 tag ⟨.done, .none, .nothing⟩).hlu with restarting := true } }) ∧
      (s.til.save.isSome = true → exec (.restart tag 0) s = .next (s.heard.replied 0x98 tag ⟨.refused, .busy, .nothing⟩))) ∧
    (s.power.phase = .running → s.hlu.restarting = true → ∀ f : HostFrame, exec (commandOf f) s = .next s) ∧
    (s.power.phase = .running → s.hlu.answering.isSome = true →
      (s.hlu.restarting = true → exec .hostReplySent s = .next
        { s with hlu := { s.hlu with answering := none }, rd := { s.rd with check := s.rd.crc } }.beginStart) ∧
      (s.hlu.restarting = false → s.hlu.holding = [] →
        exec .hostReplySent s = .next { s with hlu := { s.hlu with answering := none } }) ∧
      ∀ f rest, s.hlu.restarting = false → s.hlu.holding = f :: rest →
        let r := { s with hlu := { s.hlu with answering := none, holding := rest } }.serveFrame f
        let answered := r.state.replied (answerCode (requestCode f.request)) f.tag r.reply
        (r.works = [] → exec .hostReplySent s = .next answered) ∧
        exec .hostReplySent s = finish r.works answered ∧
        (s.heard = s → (∀ code, f.request = .unknown code → code.toNat < 1 ∨ 24 < code.toNat) →
          exec .hostReplySent s = exec (commandOf f) { s with hlu := { s.hlu with answering := none, holding := rest } }))

/-! ### Terminals (chapter 4) and cards (chapters 1 and 2) -/

/-- R65, R66, R68, R69: a poll's last byte opens its window; a valid reply from its terminal closes it, sets the failure count to 0 and, from an OFFLINE terminal, brings it ONLINE in IDLE mode with an event, after which the link chooses again. A reply that carries no item does no more; the card, card error, entry or cancel in the reply of an OFFLINE terminal is acted on as that of a terminal that is ONLINE in IDLE mode already. A reply at any other moment, or of another terminal, with an item or without, is discarded (of another terminal: notes/assumptions/26.md). -/
def Obligations.TerminalPollsAndReplies : Prop :=
  ∀ s : State, s.power.phase = .running →
    (∀ p : TerminalPoll, s.tlu.line = .sending p →
      exec .terminalPollSent s = .next { s with tlu := { s.tlu with line := .window p } }) ∧
    (∀ t : TerminalId, s.awaitsTerminal t → exec (.terminalNothing t) s = .next (s.replyFrom t).chooseTerminal) ∧
    (∀ (t : TerminalId) (m : Message) (k : Option Bool), s.tlu.line = .window ⟨t, k, m⟩ → (s.term t).online = false →
      exec (.terminalNothing t) s = .next
        (({ s with tlu := { s.tlu with line := .quiet, terminals := s.tlu.terminals.set t { s.term t with
          online := true, failures := 0, offlinePoll := .stopped, mode := .idle, current := none, attempts := 0,
          display := .welcome, displayTimer := none, interjection := none } } }.queueEvent .terminalOnline (.terminal t) 0).chooseTerminal)) ∧
    (∀ (t : TerminalId) (m : Message) (k : Option Bool), s.tlu.line = .window ⟨t, k, m⟩ → (s.term t).online = false →
      let back := { s with tlu := { s.tlu with terminals := s.tlu.terminals.set t { s.term t with
        online := true, failures := 0, offlinePoll := .stopped, mode := .idle, current := none, attempts := 0,
        display := .welcome, displayTimer := none, interjection := none } } }.queueEvent .terminalOnline (.terminal t) 0
      ∀ seq : Bool,
        (∀ card : CardItem, exec (.terminalCard t seq card) s = exec (.terminalCard t seq card) back) ∧
        exec (.terminalCardError t seq) s = exec (.terminalCardError t seq) back ∧
        (∀ chars : List Byte, exec (.terminalEntry t seq chars) s = exec (.terminalEntry t seq chars) back) ∧
        exec (.terminalCancel t seq) s = exec (.terminalCancel t seq) back) ∧
    ∀ t : TerminalId, (∀ m k, s.tlu.line ≠ .window ⟨t, k, m⟩) →
      exec (.terminalNothing t) s = .next s ∧
      ∀ seq : Bool,
        (∀ card : CardItem, exec (.terminalCard t seq card) s = .next s) ∧
        exec (.terminalCardError t seq) s = .next s ∧
        (∀ chars : List Byte, exec (.terminalEntry t seq chars) s = .next s) ∧
        exec (.terminalCancel t seq) s = .next s

/-- R67, R68: an exchange whose window closes without a valid reply adds its byte errors to the terminal's counters, held at 65,535; an ONLINE terminal's failure count rises, and at the third failure it goes OFFLINE, its held context is cancelled in PROMPTING and let go of otherwise, and an event is queued. The link then chooses again. -/
def Obligations.TerminalFailuresAreCounted : Prop :=
  ∀ (s : State) (t : TerminalId) (m : Message) (k : Option Bool) (e : ByteErrors), s.power.phase = .running →
    s.tlu.line = .window ⟨t, k, m⟩ →
    let x := { s.term t with
      parity := min 65535 ((s.term t).parity + e.parity), framing := min 65535 ((s.term t).framing + e.framing),
      overrun := min 65535 ((s.term t).overrun + e.overrun) }
    let put := fun (y : Terminal) => { s with tlu := { s.tlu with line := .quiet, terminals := s.tlu.terminals.set t y } }
    (x.online = false → exec (.terminalReplyWindowExpiry e) s = .next (put x).chooseTerminal) ∧
    (x.online = true → x.failures < 2 →
      exec (.terminalReplyWindowExpiry e) s = .next (put { x with failures := x.failures + 1 }).chooseTerminal) ∧
    (x.online = true → 2 ≤ x.failures →
      let gone := put { x with
        online := false, failures := 0, offlinePoll := .running ⟨20, 20⟩, lastTaken := none, mode := .offline, current := none,
        attempts := 0, display := .welcome, displayTimer := none, interjection := none }
      exec (.terminalReplyWindowExpiry e) s = .next (((match s.heldContext t with
        | none => gone
        | some i =>
          let freed := gone.setCtx i { s.ctx i with held := false }
          if (s.ctx i).state = ContextState.prompting then freed.cancel i .terminalLost else freed).queueEvent .terminalOffline (.terminal t) 0).chooseTerminal))

/-- R66: the link chooses, when it is quiet, an OFFLINE terminal that is due before any ONLINE one, in rotation after the last polled; an OFFLINE terminal's timer starts at 2.0 s. An offline poll timer's expiry makes its terminal due. -/
def Obligations.TerminalLinkChoosesInRotation : Prop :=
  ∀ s : State,
    (s.tlu.line = .quiet →
      (∀ t : TerminalId, (rotateFrom s.tlu.lastOffline).find? (fun u => (s.term u).due) = some t →
        s.chooseTerminal = { s with tlu := { s.tlu with
          lastOffline := t, line := .sending ⟨t, (s.term t).lastTaken,
            if (s.term t).mode = .offline then .welcome
            else match (s.term t).interjection with
              | some (m, _) => m
              | none => (s.term t).display⟩
          terminals := s.tlu.terminals.set t { s.term t with offlinePoll := .running ⟨20, 20⟩ } } }) ∧
      ((∀ u, (s.term u).due = false) →
        (∀ t : TerminalId, (rotateFrom s.tlu.lastOnline).find? (fun u => (s.term u).online) = some t →
          s.chooseTerminal = { s with tlu := { s.tlu with lastOnline := t, line := .sending ⟨t, (s.term t).lastTaken,
            if (s.term t).mode = .offline then .welcome
            else match (s.term t).interjection with
              | some (m, _) => m
              | none => (s.term t).display⟩ } }) ∧
        ((∀ u, (s.term u).online = false) → s.chooseTerminal = s))) ∧
    (s.tlu.line ≠ .quiet → s.chooseTerminal = s) ∧
    (∀ (t : TerminalId) (tm : Timer), s.power.phase = .running → (s.term t).offlinePoll = .running tm →
      exec (.terminalOfflinePollTimerExpiry t) s = .next (s.setTerm t { s.term t with offlinePoll := .expired }).chooseTerminal)

/-- R70: an item whose sequence bit is the terminal's last taken one is a repeat: card, card error, entry and cancel alike have then the effect of a reply that carries no item. -/
def Obligations.RepeatedItemsAreNotTaken : Prop :=
  ∀ (s : State) (t : TerminalId) (seq : Bool), s.awaitsTerminal t → (s.term t).lastTaken = some seq →
    (∀ card : CardItem, exec (.terminalCard t seq card) s = .next (s.replyFrom t).chooseTerminal) ∧
    exec (.terminalCardError t seq) s = .next (s.replyFrom t).chooseTerminal ∧
    (∀ chars : List Byte, exec (.terminalEntry t seq chars) s = .next (s.replyFrom t).chooseTerminal) ∧
    exec (.terminalCancel t seq) s = .next (s.replyFrom t).chooseTerminal

/-- R3, R73: a good card read at an IDLE terminal is refused with the message of the first condition that fails, in R3's order, and leaves only that message in SHOW mode. That the items' characters are ASCII is PRESUMED (notes/assumptions/50.md). -/
def Obligations.CardReadsAreRefusedInOrder : Prop :=
  ∀ (s : State) (t : TerminalId) (seq : Bool) (card : CardItem) (data : CardData) (m : Message),
    s.awaitsTerminal t → (s.term t).lastTaken ≠ some seq → (s.term t).mode = .idle → readCard card = some data →
    let lanes := (List.finRange 12).filter fun l => decide ((s.lane l).config.terminal = some t)
    (if s.til.load ≠ .run then some .stationClosed
     else if s.rd.latch = true then some .stationClosed
     else if lanes.all (fun l => !(s.lane l).config.isOpen) then some .stationClosed
     else match lanes with
       | [l] => if (s.lane l).state ≠ .idle then some (.laneInUse l)
         else if s.rd.freeList = [] ∨ 48 ≤ s.rd.records.length + s.inUseCount then some .stationBusy else none
       | _ => if s.rd.freeList = [] ∨ 48 ≤ s.rd.records.length + s.inUseCount then some .stationBusy else none) = some m →
    exec (.terminalCard t seq card) s = .next ((s.itemFrom t seq).setTerm t { s.term t with
      failures := 0, lastTaken := some seq, mode := .shown, current := none, attempts := 0, display := m,
      displayTimer := some ⟨10 * s.til.params.get 6, 10 * s.til.params.get 6⟩, interjection := none }).chooseTerminal

/-- R4, R5, R9 to R12, R14, R16: a card taken at a terminal takes the context at the head of the free list and the counter's number. A card that screening declines is freed at once, with a DECLINE record of screening's reason. At a terminal of one lane it binds the lane, which becomes IN USE, and captures its prices; where the program has a prompt and the lane a product to sell, the context is PROMPTING with its prompt timer and the terminal shows the prompt. Where the program has no prompt the decision follows at once: a LOCAL program's context is ARMED with the program's own approval and LIFT NOZZLE is shown; with the uplink ONLINE another's is OFFERED, at the tail of the request list, and AUTHORIZING is shown; with it OFFLINE and a program without stand-in it is declined with reason OFFLINE (R42, R44, R58). At a terminal of more lanes the context is PROMPTING for the LANE prompt, with no lane, and SELECT LANE is shown. The reply of an OFFLINE terminal is in TerminalPollsAndReplies. That the items' characters are ASCII is PRESUMED (notes/assumptions/50.md). -/
def Obligations.CardReadBindsAndPrompts : Prop :=
  (∀ (s : State) (t : TerminalId) (seq : Bool) (card : CardItem) (data : CardData) (i : ContextId) (rest : List ContextId)
    (l : LaneId) (p : ProgramId) (k : PromptKind) (ks : List PromptKind),
    s.awaitsTerminal t → (s.term t).lastTaken ≠ some seq → (s.term t).mode = .idle → readCard card = some data →
    s.cardRefusal t = none → s.terminalLanes t = [l] → s.rd.freeList = i :: rest →
    s.csu.screen data s.stamp = .accepted p → (s.csu.programs.get p).prompts = k :: ks →
    let c := ((Context.allocated t data s.rd.counter s.stamp).bindTo l (s.lane l)).screenedTo p (s.csu.programs.get p)
    c.requestable ≠ 0 →
    ∃ u : State, exec (.terminalCard t seq card) s = .next u ∧
      u.ctx i = { c with
        requestedSet := some c.requestable
        deadline := some ⟨10 * s.til.params.get 0, 10 * s.til.params.get 0⟩ } ∧
      (u.ctx i).state = .prompting ∧ (u.ctx i).transaction = s.rd.counter ∧ (u.ctx i).lane = some l ∧
      (u.ctx i).prices = some (s.lane l).prices ∧
      (∀ j, j ≠ i → u.ctx j = s.ctx j) ∧ u.rd.freeList = rest ∧
      u.rd.counter = (if s.rd.counter < 4294967295 then s.rd.counter + 1 else 1) ∧
      u.lane l = { s.lane l with state := .inUse } ∧ (∀ j, j ≠ l → u.lane j = s.lane j) ∧
      (u.term t).mode = .prompt ∧ (u.term t).current = some k ∧ (u.term t).attempts = 0 ∧
      u.rd.records = s.rd.records ∧ u.dlu = s.dlu ∧ u.hlu = s.hlu) ∧
  ∀ (s : State) (t : TerminalId) (seq : Bool) (card : CardItem) (data : CardData) (i : ContextId) (rest : List ContextId),
    s.awaitsTerminal t → (s.term t).lastTaken ≠ some seq → (s.term t).mode = .idle → readCard card = some data →
    s.cardRefusal t = none → s.rd.freeList = i :: rest →
    let start := Context.allocated t data s.rd.counter s.stamp
    let x := { s.term t with failures := 0, lastTaken := some seq, current := none, attempts := 0, displayTimer := none, interjection := none }
    let shows := fun (m : Message) => { x with
      mode := .shown, display := m, displayTimer := some ⟨10 * s.til.params.get 6, 10 * s.til.params.get 6⟩ }
    let taken := fun (u : State) => exec (.terminalCard t seq card) s = .next u ∧ (∀ j, j ≠ i → u.ctx j = s.ctx j) ∧
      u.rd.counter = (if s.rd.counter < 4294967295 then s.rd.counter + 1 else 1) ∧ u.dlu = s.dlu ∧ u.hlu = s.hlu
    let opened := fun (u : State) => taken u ∧ u.rd.freeList = rest ∧ u.rd.records = s.rd.records
    let declined := fun (u : State) (why : Reason) (lane : Option LaneId) (source : Option DecisionSource) =>
      taken u ∧ u.ctx i = .cleared ∧ u.rd.freeList = rest ++ [i] ∧
        ∃ r, u.rd.records = s.rd.records ++ [r] ∧ r.transaction = s.rd.counter ∧ r.kind = .decline ∧ r.reason = some why ∧
          r.terminal = some t ∧ r.lane = lane ∧ r.source = source
    (∀ why : Reason, s.csu.screen data s.stamp = .declined why →
      ∃ u : State, declined u why (match s.terminalLanes t with
        | [l] => some l
        | _ => none) none ∧ u.term t = shows (if why = .cardNotAccepted then .cardNotAccepted else .declined why)) ∧
    ∀ p : ProgramId, s.csu.screen data s.stamp = .accepted p →
      let g := s.csu.programs.get p
      ((∀ l, s.terminalLanes t ≠ [l]) →
        ∃ u : State, opened u ∧ u.dcu = s.dcu ∧
          u.ctx i = { start.screenedTo p g with deadline := some ⟨10 * s.til.params.get 0, 10 * s.til.params.get 0⟩ } ∧
          (u.ctx i).state = .prompting ∧ (u.ctx i).lane = none ∧
          u.term t = { x with mode := .prompt, current := some .lane, display := .selectLane }) ∧
      ∀ l : LaneId, s.terminalLanes t = [l] → g.prompts = [] →
        let c := (start.bindTo l (s.lane l)).screenedTo p g
        c.requestable ≠ 0 →
        let bound := fun (u : State) => u.lane l = { s.lane l with state := .inUse } ∧ ∀ j, j ≠ l → u.lane j = s.lane j
        (g.kind = .site →
          ∃ u : State, opened u ∧ bound u ∧ u.term t = shows (.liftNozzle l) ∧
            u.ctx i = { c with
              state := .armed, requestedSet := some c.requestable, source := some .site
              approval := some ⟨g.requested, c.requestable, g.dieselLimit, g.defLimit, none⟩
              deadline := some ⟨10 * s.til.params.get 2, 10 * s.til.params.get 2⟩ }) ∧
        (g.kind ≠ .site → s.ae.online = true →
          ∃ u : State, opened u ∧ bound u ∧ u.term t = { x with mode := .wait, display := .authorizing } ∧
            u.ae.requests = s.ae.requests ++ [i] ∧
            u.ctx i = { c with
              state := .offered, requestedSet := some c.requestable
              deadline := some ⟨10 * s.til.params.get 1, 10 * s.til.params.get 1⟩ }) ∧
        (g.kind ≠ .site → s.ae.online = false → g.standIn = false →
          ∃ u : State, declined u .offline (some l) (some .standIn) ∧ u.term t = shows (.declined .offline))

/-- R73: a CARD ERROR, or a card item that is taken as one (its flag clear, a character of its number no digit, an expiry field not two digits), puts an IDLE terminal in SHOW with READ AGAIN; in every other mode a card or a card error only sets the interjection PLEASE WAIT. That the items' characters are ASCII is PRESUMED (notes/assumptions/50.md). -/
def Obligations.CardErrorsAreShown : Prop :=
  ∀ (s : State) (t : TerminalId) (seq : Bool) (card : CardItem), s.awaitsTerminal t → (s.term t).lastTaken ≠ some seq →
    let time : Timer := ⟨10 * s.til.params.get 6, 10 * s.til.params.get 6⟩
    let base := { s.term t with failures := 0, lastTaken := some seq }
    let again := ((s.itemFrom t seq).setTerm t { base with
      mode := .shown, current := none, attempts := 0, display := .readAgain, displayTimer := some time, interjection := none }).chooseTerminal
    let wait := ((s.itemFrom t seq).setTerm t { base with interjection := some (.pleaseWait, time) }).chooseTerminal
    ((s.term t).mode = .idle →
      exec (.terminalCardError t seq) s = .next again ∧
        (readCard card = none → exec (.terminalCard t seq card) s = .next again)) ∧
    ((s.term t).mode ≠ .idle →
      exec (.terminalCardError t seq) s = .next wait ∧ exec (.terminalCard t seq card) s = .next wait)

/-- R35, R74, R75: an entry to a program prompt that passes its check is appended to the prompt entries and the next step of the context follows; one that fails counts an attempt, shows INVALID ENTRY and restarts the prompt timer, and the third cancels the context with reason PROMPT. Outside PROMPT mode an entry is discarded. That the items' characters are ASCII is PRESUMED (notes/assumptions/50.md). -/
def Obligations.EntriesAreCheckedAndCounted : Prop :=
  ∀ (s : State) (t : TerminalId) (seq : Bool) (chars : List Byte) (i : ContextId) (k : PromptKind),
    s.awaitsTerminal t → (s.term t).lastTaken ≠ some seq →
    let u := s.itemFrom t seq
    let x := { s.term t with failures := 0, lastTaken := some seq }
    ((s.term t).mode = .prompt → (s.term t).current = some k → k ≠ .lane → s.heldContext t = some i →
      (∀ ds, digitsOf chars = some ds → acceptsEntry k [] ds = true →
        exec (.terminalEntry t seq chars) s = .next
          (((u.setTerm t { x with interjection := none }).setCtx i { s.ctx i with entries := (s.ctx i).entries ++ [(k, ds)] }).nextStep i).chooseTerminal) ∧
      ((∀ ds, digitsOf chars = some ds → acceptsEntry k [] ds = false) →
        ((s.term t).attempts < 2 →
          exec (.terminalEntry t seq chars) s = .next ((u.setTerm t { x with
              attempts := x.attempts + 1
              interjection := some (.invalidEntry, ⟨10 * s.til.params.get 6, 10 * s.til.params.get 6⟩) }).setCtx i
            { s.ctx i with deadline := some ⟨10 * s.til.params.get 0, 10 * s.til.params.get 0⟩ }).chooseTerminal) ∧
        (2 ≤ (s.term t).attempts →
          exec (.terminalEntry t seq chars) s = .next ((u.setTerm t { x with attempts := 3 }).cancel i .prompt).chooseTerminal))) ∧
    ((s.term t).mode ≠ .prompt → exec (.terminalEntry t seq chars) s = .next u.chooseTerminal)

/-- R10, R74, R75: on the LANE prompt, an entry that names a lane of the terminal which is IDLE and open binds it and the context's requested products follow; one that names another lane of the terminal counts an attempt and shows LANE IN USE, restarting the prompt timer, and the third attempt cancels with reason LANE. An entry that names no lane of the terminal counts an attempt in the same way and shows INVALID ENTRY. That the items' characters are ASCII is PRESUMED (notes/assumptions/50.md). -/
def Obligations.LaneEntriesBindOrCount : Prop :=
  (∀ (s : State) (t : TerminalId) (seq : Bool) (chars : List Byte) (ds : Digits) (i : ContextId) (l : LaneId),
    s.awaitsTerminal t → (s.term t).lastTaken ≠ some seq → (s.term t).mode = .prompt → (s.term t).current = some .lane →
    s.heldContext t = some i → digitsOf chars = some ds → 1 ≤ ds.length → ds.length ≤ 2 →
    (s.lane l).config.terminal = some t → valueOf ds = l.val + 1 →
    let x := { s.term t with failures := 0, lastTaken := some seq, interjection := none }
    let u := (s.itemFrom t seq).setTerm t x
    ((s.lane l).state = .idle → (s.lane l).config.isOpen = true →
      exec (.terminalEntry t seq chars) s = .next ((((u.setCtx i ((s.ctx i).bindTo l (s.lane l))).setLane l
        { s.lane l with state := .inUse }).requestProducts i).chooseTerminal)) ∧
    ((s.lane l).state ≠ .idle ∨ (s.lane l).config.isOpen = false →
      ((s.term t).attempts < 2 → exec (.terminalEntry t seq chars) s = .next ((u.setTerm t { x with
          attempts := x.attempts + 1
          interjection := some (.laneInUse l, ⟨10 * s.til.params.get 6, 10 * s.til.params.get 6⟩) }).setCtx i
        { s.ctx i with deadline := some ⟨10 * s.til.params.get 0, 10 * s.til.params.get 0⟩ }).chooseTerminal) ∧
      (2 ≤ (s.term t).attempts →
        exec (.terminalEntry t seq chars) s = .next ((u.setTerm t { x with attempts := 3 }).cancel i .lane).chooseTerminal))) ∧
  ∀ (s : State) (t : TerminalId) (seq : Bool) (chars : List Byte) (i : ContextId),
    s.awaitsTerminal t → (s.term t).lastTaken ≠ some seq → (s.term t).mode = .prompt → (s.term t).current = some .lane →
    s.heldContext t = some i →
    (∀ ds, digitsOf chars = some ds → 1 ≤ ds.length → ds.length ≤ 2 →
      ∀ l : LaneId, (s.lane l).config.terminal = some t → valueOf ds ≠ l.val + 1) →
    let x := { s.term t with failures := 0, lastTaken := some seq }
    let u := s.itemFrom t seq
    ((s.term t).attempts < 2 → exec (.terminalEntry t seq chars) s = .next ((u.setTerm t { x with
        attempts := x.attempts + 1
        interjection := some (.invalidEntry, ⟨10 * s.til.params.get 6, 10 * s.til.params.get 6⟩) }).setCtx i
      { s.ctx i with deadline := some ⟨10 * s.til.params.get 0, 10 * s.til.params.get 0⟩ }).chooseTerminal) ∧
    (2 ≤ (s.term t).attempts →
      exec (.terminalEntry t seq chars) s = .next ((u.setTerm t { x with attempts := 3 }).cancel i .lane).chooseTerminal)

/-- R72, R76: the CANCEL key cancels the terminal's held context with reason DRIVER while no channel of it is past IDLE, and leaves one with a channel past IDLE as it is; in SHOW with no held context it ends the SHOW; in IDLE mode it does nothing. The display timer's expiry returns the terminal to IDLE with WELCOME and ends its context's hold; the interjection timer's removes the interjection. -/
def Obligations.CancelKeyAndDisplayTimes : Prop :=
  (∀ (s : State) (t : TerminalId) (seq : Bool), s.awaitsTerminal t → (s.term t).lastTaken ≠ some seq →
    let u := s.itemFrom t seq
    ((s.term t).mode = .idle → exec (.terminalCancel t seq) s = .next u.chooseTerminal) ∧
    (∀ i, (s.term t).mode = .prompt ∨ (s.term t).mode = .wait ∨ (s.term t).mode = .shown → s.heldContext t = some i →
      ((s.ctx i).beforeDelivery → exec (.terminalCancel t seq) s = .next (u.cancel i .driver).chooseTerminal) ∧
      (¬(s.ctx i).beforeDelivery → exec (.terminalCancel t seq) s = .next u.chooseTerminal)) ∧
    ((s.term t).mode = .shown → s.heldContext t = none →
      exec (.terminalCancel t seq) s = .next (u.setTerm t { s.term t with
        failures := 0, lastTaken := some seq, mode := .idle, current := none, attempts := 0, display := .welcome,
        displayTimer := none, interjection := none }).chooseTerminal)) ∧
  (∀ (s : State) (t : TerminalId), s.power.phase = .running →
    ((s.term t).displayTimer.isSome = true →
      let u := s.setTerm t { s.term t with
        mode := .idle, current := none, attempts := 0, display := .welcome, displayTimer := none, interjection := none }
      exec (.displayTimerExpiry t) s = .next (match s.heldContext t with
        | some i => u.setCtx i { s.ctx i with held := false }
        | none => u)) ∧
    exec (.interjectionTimerExpiry t) s = .next (s.setTerm t { s.term t with interjection := none }))

/-! ### Contexts: closing, timers (chapters 1, 3, 10) -/

/-- R24, R106, R128, R146, R148, R149, R166: a closing writes exactly one record, built from the context's fields, its sale total held at 9,999,999 cents, with OVER LIMIT where that total exceeds the approved amount; the context is cleared and FREE, at the tail of the free list and out of the request list. Its lane, where it stands in the adoption list, takes the newest prices and leaves the list, PRICE ADOPTED queued after any OVER LIMIT, and with the list empty the pending prices become site prices; a lane that stands in no list keeps its prices and nothing of prices changes. An IN USE lane becomes IDLE or CLOSED; one in FAULT STOP stays in it until every channel of its table configuration is quiet, and where all are becomes IDLE or CLOSED with its fault gone (in LOADING that configuration is empty: notes/assumptions/18.md); a LOCKED lane stays LOCKED; and where the closing gives a lock the lane is LOCKED. No other context, no other lane and no command changes. That the context is cleared before FAULT STOP is tested is notes/assumptions/19.md. -/
def Obligations.ClosingWritesOneRecord : Prop :=
  ∀ (s : State) (i : ContextId) (path : ClosePath) (lock : Bool),
    let c := s.ctx i
    let t := s.closeContext i path lock
    let kind := match path with
      | .kind k => k
      | .byVolume => if 0 < c.totalVolume then RecordKind.sale else .noSale
    let lines := if kind = .sale then c.saleLines else []
    let total : Nat := min 9999999 (lines.map (·.amount)).sum
    let approved : Nat := (c.approval.map (·.amount)).getD 0
    t.rd.records = s.rd.records ++ [
      { transaction := c.transaction, kind := kind, terminal := c.terminal, lane := c.lane, program := c.program,
        card := { c.card with number := c.card.number.take 19 }, entries := c.entries, source := c.source, approved := approved,
        code := c.approval.bind (·.code), lines := lines, total := total, excess := total - approved,
        flags := { c.flags with overLimit := c.flags.overLimit || decide (approved < total) },
        reason := c.reason, started := c.started, ended := s.stamp }] ∧
    t.ctx i = .cleared ∧ (∀ j, j ≠ i → t.ctx j = s.ctx j) ∧ t.rd.freeList = s.rd.freeList ++ [i] ∧
    t.ae.requests = s.ae.requests.filter (fun j => decide (j ≠ i)) ∧ t.dlu = s.dlu ∧
    (∀ l, c.lane ≠ some l → t.lane l = s.lane l) ∧
    (c.lane = none → t.lau = s.lau) ∧
    ∀ l, c.lane = some l →
      let listed := s.lau.adoption.get l
      let x : Lane := { s.lane l with prices :=
        if listed = true then s.lau.products.map fun e => e.pending.getD e.price else (s.lane l).prices }
      let free : LaneState := if x.config.isOpen = true ∧ s.til.load ≠ .loading then .idle else .closed
      let quiet := ∀ ch z, x.config.channels.get ch = some z → (x.channels.get ch).quiet = 2
      let rested := x.channels.map fun w => { w with faultClose := .none, faultSettle := none }
      (lock = false →
        (x.state = .inUse → t.lane l = { x with state := free }) ∧
        (x.state = .faultStop → (∀ j, j ≠ i → (s.ctx j).lane ≠ some l) →
          (quiet → t.lane l = { x with state := free, fault := none, channels := rested }) ∧ (¬quiet → t.lane l = x)) ∧
        (x.state ≠ .inUse → x.state ≠ .faultStop → t.lane l = x) ∧
        t.rd.locks = s.rd.locks ∧ t.scc.cut = s.scc.cut ∧
        let marked := if approved < total then s.reu.occur .overLimit (.lane l) 0 s.stamp else s.reu
        t.reu.events = (if listed = true then marked.occur .priceAdopted (.lane l) 0 s.stamp else marked).events) ∧
      (lock = true →
        t.lane l = { x with state := .locked, channels := rested } ∧
        t.rd.locks = s.rd.locks.set l true ∧ t.scc.cut = s.scc.cut.set l true) ∧
      (listed = false → t.lau = s.lau) ∧
      (listed = true → t.lau.adoption = s.lau.adoption.set l false ∧
        ((∃ m, m ≠ l ∧ s.lau.adoption.get m = true) → t.lau.products = s.lau.products) ∧
        ((∀ m, m ≠ l → s.lau.adoption.get m = false) →
          t.lau.products = s.lau.products.map fun e => { e with price := e.pending.getD e.price, pending := none }))

/-- R13, R17, R20, R51, R58, R59, R61, R187: what the expiry of a context's timer does in each state that runs one: PROMPTING is cancelled with reason PROMPT; ARMED closes NO SALE; ENDING closes by volume; OFFERED and TAKEN are decided by the stand-in check, whose refusals are HOST TIMEOUT and STAND-IN LIMIT, after the entries whose window has passed have been removed, with the clock invalid too (DEDUCED, notes/assumptions/28.md); RECOVERING closes with METER ESTIMATED and locks its lane (stated where no command is queued for a head or on the line). A timer that does not run expires to no effect (notes/assumptions/14.md). R17, R19, R20, R21, R187: what a channel's change does to its context, the one operation that O43 to O46 apply: in ARMED the arm timer stops while a channel is past IDLE, is started at the full arm time where none is any longer, an arm timer that still runs running on (DEDUCED, notes/assumptions/33.md: R17 says that it is restarted at the full arm time), or the context closes NO SALE where no permitted channel is left; DELIVERING becomes ENDING once nothing is in progress and a used channel is DONE, which closes at once with a continue time of 0 s, no channel left or the budget spent; ENDING with a channel in progress is DELIVERING again; STOPPING and RECOVERING close once their channels have ended. -/
def Obligations.ContextTimersExpire : Prop :=
  ∀ (s : State) (i : ContextId), s.power.phase = .running →
    let c := s.ctx i
    (c.deadline = none →
      exec (.promptTimerExpiry i) s = .next s ∧ exec (.hostDecisionTimerExpiry i) s = .next s ∧
      exec (.armTimerExpiry i) s = .next s ∧ exec (.continueTimerExpiry i) s = .next s ∧
      exec (.recoveryTimerExpiry i) s = .next s) ∧
    (c.deadline.isSome = true →
      (c.state = .prompting → exec (.promptTimerExpiry i) s = .next (s.cancel i .prompt)) ∧
      (c.state = .armed → exec (.armTimerExpiry i) s = .next (s.closeContext i (.kind .noSale) false)) ∧
      (c.state = .ending → exec (.continueTimerExpiry i) s = .next (s.closeContext i .byVolume false)) ∧
      (c.state = .recovering → (∀ h, (s.head h).commands = []) → (∀ x, s.dlu.line.exchange = some x → x.command = none) →
        exec (.recoveryTimerExpiry i) s = .next ((s.setCtx i { c with
          flags := { c.flags with meterEstimated := true }
          channels := c.channels.map fun rs => rs.map fun r =>
            if r.state = .closing ∨ r.state = .settling then
              { r with state := .failed, used := r.used || decide (0 < r.extended), noFlow := none, settle := none,
                       closeQueued := none, awaiting := false }
            else r }).closeContext i .byVolume true).arbitrate.1) ∧
      (c.state = .offered ∨ c.state = .taken →
        let kept := s.rd.standIn.filter fun e =>
          !decide (e.firstUse.seconds + 3600 * s.til.params.get 13 ≤ s.rd.clock.seconds)
        let u := { s with rd := { s.rd with standIn := kept } }
        (c.copy.all (fun p => !p.standIn) = true ∨ s.rd.clockValid = false →
          exec (.hostDecisionTimerExpiry i) s = .next (u.declineBy i .standIn .hostTimeout)) ∧
        ∀ p, c.copy = some p → p.standIn = true → s.rd.clockValid = true →
          ((∃ e, kept.find? (fun e => decide (e.card = c.card.number)) = some e ∧ p.standInUses ≤ e.uses) →
            exec (.hostDecisionTimerExpiry i) s = .next (u.declineBy i .standIn .standInLimit)) ∧
          ((∀ e, kept.find? (fun e => decide (e.card = c.card.number)) = some e → e.uses < p.standInUses) →
            exec (.hostDecisionTimerExpiry i) s = .next ((u.useStandIn i).approve i .standIn
              { amount := min p.standInAmount (c.requestedAmount.getD 0), permitted := c.requestedSet.getD 0,
                dieselLimit := p.dieselLimit, defLimit := p.defLimit, code := none })))) ∧
    let finished := c.anyChannel c.mayRelease = false ∨ c.spent = true
    let changed := s.contextChanged i
    (c.state = .armed →
      (c.anyPastIdle = true → changed = s.setCtx i { c with deadline := none }) ∧
      (c.anyPastIdle = false → c.anyChannel c.mayRelease = false → changed = s.closeContext i (.kind .noSale) false) ∧
      (c.anyPastIdle = false → c.anyChannel c.mayRelease = true → changed = s.setCtx i { c with
        deadline := some (c.deadline.getD ⟨10 * s.til.params.get 2, 10 * s.til.params.get 2⟩) })) ∧
    (c.state = .delivering →
      (c.anyInProgress = true ∨ c.anyChannel (fun r => r.used && decide (r.state = .done)) = false → changed = s) ∧
      (c.anyInProgress = false → c.anyChannel (fun r => r.used && decide (r.state = .done)) = true →
        let ending := s.setCtx i { c with
          state := .ending, deadline := some ⟨10 * s.til.params.get 3, 10 * s.til.params.get 3⟩ }
        (s.til.params.get 3 = 0 ∨ finished → changed = ending.closeContext i .byVolume false) ∧
        (s.til.params.get 3 ≠ 0 → ¬finished → changed = ending))) ∧
    (c.state = .ending →
      (c.anyInProgress = true → changed = s.setCtx i { c with state := .delivering, deadline := none }) ∧
      (c.anyInProgress = false → finished → changed = s.closeContext i .byVolume false) ∧
      (c.anyInProgress = false → ¬finished → changed = s)) ∧
    (c.state = .stopping → changed = if c.anyInProgress = true then s else s.closeContext i .byVolume false) ∧
    (c.state = .recovering → changed =
      if c.anyChannel (fun r => r.awaiting || decide (r.state = .closing) || decide (r.state = .settling)) = true then s
      else s.closeContext i .byVolume false)

/-- R30, R31: the range lookup chooses, among the entries whose prefix the card number begins with, one of the longest prefix length, and of those the one at the lowest index; it chooses none where none matches. -/
def Obligations.RangeLookupTakesTheLongestPrefix : Prop :=
  ∀ (number : Digits) (es : List RangeEntry),
    let fits := fun (e : RangeEntry) => e.length ≠ 0 ∧ digitsOf (e.digits.take e.length) = some (number.take e.length)
    (bestRange number es = none ↔ ∀ e ∈ es, ¬fits e) ∧
    ∀ e, bestRange number es = some e → ∃ front rest, es = front ++ e :: rest ∧ fits e ∧
      (∀ x ∈ front, fits x → x.length < e.length) ∧ ∀ x ∈ rest, fits x → x.length ≤ e.length

/-! ### The dispenser link and delivery control (chapters 5 and 6) -/

/-- R83 to R85, R97, R101, R117, R124, R126, R127, R129: a frame's last byte opens its reply window; an attempt that ends without a valid reply is made again while a retry is left, after the HALT ALL that is pending, and an unexpected frame of an ONLINE head is captured. A POLL whose last attempt fails raises the failed total, and with an ONLINE head below its limit the failure count and the capture; at the limit the head goes OFFLINE, its list discarded (stated of a list with no ZERO, whose channel becomes REFUSED, and of sound lists, which every step keeps, as only longer ones pass the bound of notes/assumptions/4.md), with its event. An OPEN or RELEASE whose last attempt fails makes its OPENING channel CLOSING and is its lane's first fault: FAULT STOP, a CLOSE queued, the ARMED or DELIVERING context STOPPING. The loss of a head of a lane in FAULT STOP is its second: the lane is LOCKED. The order of the events, LANE FAULT before LINK CAPTURE of a failed command and LINK CAPTURE before HEAD OFFLINE before LANE FAULT and LANE LOCKOUT of a lost head, is the model's choice: notes/assumptions/53.md and 20.md. -/
def Obligations.AttemptsAreRepeated : Prop :=
  ∀ (s : State) (x : Exchange), s.power.phase = .running →
    let y := s.head x.head
    let lost := fun (y' : Head) => { s with dlu := { s.dlu with
      line := .quiet
      heads := s.dlu.heads.set x.head { y' with failedTotal := min 65535 (y.failedTotal + 1) } } }
    (s.dlu.line = .sending x → exec .dispenserFrameSent s = .next { s with dlu := { s.dlu with line := .window x } }) ∧
    (s.dlu.line = .window x → 0 < x.retries → s.dlu.cutByStop = false → s.dlu.cutByLock = false →
      s.rd.latch = false ∨ x.command.any Command.opening = false →
      x.command = none ∨ (∀ q ∈ s.servedBy x.head, (s.lane q.1).state ≠ .locked) →
      let next := { x with retries := x.retries - 1 }
      let again := fun (f : FailureKind) => { s with dlu := { s.dlu with
        line := if s.dlu.haltPending = true then .haltAll (some (next, f)) else .sending next } }
      exec .dispenserReplyWindowExpiry s = .next (again .noAnswer) ∧
      exec .dispenserBadCheckFrame s = .next (again .badCheck) ∧
      exec .dispenserUnexpectedFrame s = .next (if (s.head x.head).online = true then
        (again .unexpected).captureFailure x.head (x.command.map (·.headChannel)) x.kind .unexpected else again .unexpected)) ∧
    (s.dlu.line = .window x → x.retries = 0 → x.command = none → s.LatchClean →
      (y.online = false → exec .dispenserReplyWindowExpiry s = .next (lost y).arbitrate.1) ∧
      (y.online = true → y.failures + 1 < s.til.params.get 9 →
        exec .dispenserReplyWindowExpiry s =
          .next ((lost { y with failures := y.failures + 1 }).captureFailure x.head none .poll .noAnswer).arbitrate.1) ∧
      (y.online = true → s.til.params.get 9 ≤ y.failures + 1 → s.ListsSound → (∀ d ∈ y.commands, d.payload.kind ≠ .zero) →
        let gone := ((lost { y with
          online := false, singleFrame := false, last := ⟨none, none⟩, totalizer := ⟨none, none⟩, failures := 0,
          offlinePoll := .running ⟨20, 20⟩, commands := [] }).captureFailure x.head none .poll .noAnswer).queueEvent .headOffline (.head x.head) 1
        (s.servedBy x.head = [] → exec .dispenserReplyWindowExpiry s = .next gone.arbitrate.1) ∧
        ∀ (l : LaneId) (ch : Channel), s.servedBy x.head = [(l, ch)] → (∀ h, h ≠ x.head → ∀ q ∈ s.servedBy h, q.1 ≠ l) →
          (s.lane l).state = .faultStop → s.bound l = none →
          let locked := { gone.setLane l { s.lane l with
              state := .locked
              fault := some .headLost
              channels := ((s.lane l).channels.set ch { (s.lane l).channels.get ch with quiet := 0 }).map fun w =>
                { w with faultClose := .none, faultSettle := none } } with
            rd := { s.rd with locks := s.rd.locks.set l true }
            scc := { s.scc with cut := s.scc.cut.set l true } }
          exec .dispenserReplyWindowExpiry s = .next ((locked.queueEvent .laneFault (.lane l) FaultKind.headLost.code).queueEvent
            .laneLockout (.lane l) FaultKind.headLost.code).arbitrate.1)) ∧
    ∀ (c : Command) (i : ContextId) (rs : Triple ChannelRecord) (z : ChannelSetup), s.dlu.line = .window x → x.retries = 0 →
      x.command = some c → c.head = x.head → c.opening = true → y.online = true → y.failures + 1 < s.til.params.get 9 →
      s.LatchClean → s.bound c.lane = some i → c.owner = some (i, (s.ctx i).transaction) → (s.ctx i).channels = some rs →
      (s.ctx i).state = .armed ∨ (s.ctx i).state = .delivering → (rs.get c.channel).state = .opening →
      (rs.get c.channel).setup = some z → z.head = x.head →
      (∀ e, e ≠ c.channel → (rs.get e).state = .idle ∧ (rs.get e).setup = none) →
      (s.lane c.lane).state ≠ .faultStop → (∀ q ∈ s.servedBy x.head, (s.lane q.1).state ≠ .locked) →
      (∀ d ∈ y.commands, ¬(d.lane = c.lane ∧ d.channel = c.channel)) →
      ∃ v : State,
        exec .dispenserReplyWindowExpiry s = .next (v.captureFailure x.head (some c.headChannel) x.kind .noAnswer).arbitrate.1 ∧
        v.ctx i = { s.ctx i with
          state := .stopping, deadline := none, allocation := .clear, flags := { (s.ctx i).flags with fault := true }
          reason := some ((s.ctx i).reason.getD .laneFault)
          channels := some (rs.set c.channel { rs.get c.channel with
            state := .closing, endCause := some (.fault .commandFailed), closeQueued := none, noFlow := none }) } ∧
        (∀ j, j ≠ i → v.ctx j = s.ctx j) ∧ v.rd.records = s.rd.records ∧
        v.lane c.lane = { s.lane c.lane with
          state := .faultStop
          fault := some .commandFailed
          channels := ((s.lane c.lane).channels.map fun w => { w with quiet := 0, faultClose := .none, faultSettle := none }).set
            c.channel { (s.lane c.lane).channels.get c.channel with quiet := 0, faultClose := .queued, faultSettle := none } } ∧
        (∀ m, m ≠ c.lane → v.lane m = s.lane m) ∧
        v.dlu = (lost { y with
          failures := y.failures + 1
          commands := y.commands.filter Command.isClose ++
            ⟨z.head, z.headChannel, c.lane, c.channel, c.owner, .close (.fault .commandFailed) true⟩ ::
              y.commands.filter fun d => !d.isClose }).dlu ∧
        v.reu.events = (s.reu.occur .laneFault (.lane c.lane) FaultKind.commandFailed.code s.stamp).events

/-- R89, R99, R108, R110, R112 to R115, R117, R120, R121, R124, R127: an acceptance ends its exchange; of a ZERO it is noted by the channel's latest entry to ZEROING and by no other; of a CLOSE it moves a CLOSING channel to SETTLING with its points lowered to the count; of a FINAL whose count passes its check it makes a SETTLING channel DONE at the count and keeps the totalizer, and a STOPPING context with nothing left in progress closes; where its context is DELIVERING it is trigger 2, stated of one other channel, FLOWING: that channel's LIMIT is queued, to lower its points or to raise them at once; with no channel that shares it is only reported (contextChanged, ContextTimersExpire). A FINAL that fails its check sets METER MISMATCH and is its lane's first fault, found after the channel is DONE (notes/assumptions/20.md), stated of a lane with one present channel: a STOPPING context closes, and the channel, DONE, is sent no CLOSE and has its fault close complete; a DELIVERING one goes through STOPPING and closes before the fault's CLOSEs are queued, so that one is queued for that channel too (DEDUCED, notes/assumptions/51.md). An OPEN's or RELEASE's makes an OPENING channel used and FLOWING, or CLOSING where a CLOSE is queued for it, and an ARMED context DELIVERING. A lowering LIMIT's puts its points in force and fixes its channel's count; with the last count fixed, phase 2 opens the one channel that joins with what the division gives it, and the allocation ends. The arbiter then chooses. -/
def Obligations.AcceptancesRunTheirChannel : Prop :=
  ∀ (s : State) (c : Command) (retries : Nat) (i : ContextId) (rs : Triple ChannelRecord) (count totalizer : BitVec 32)
    (valve : Valve),
    s.awaitsHead ⟨c.head, some c, retries⟩ → s.LatchClean → c.owner = some (i, (s.ctx i).transaction) →
    (s.ctx i).state ≠ .free → (s.ctx i).channels = some rs →
    let r := rs.get c.channel
    let u := s.exchangeDone c.head
    let put := fun (u : State) (r' : ChannelRecord) => u.setCtx i { s.ctx i with channels := some (rs.set c.channel r') }
    (∀ price entry, c.payload = .zero price entry →
      (r.state = .zeroing ∧ r.zeroEntry = entry →
        exec (.dispenserAccepted c.head count valve totalizer) s = .next (put u { r with zeroAccepted := true }).arbitrate.1) ∧
      (¬(r.state = .zeroing ∧ r.zeroEntry = entry) →
        exec (.dispenserAccepted c.head count valve totalizer) s = .next u.arbitrate.1)) ∧
    (∀ cause, c.payload = .close cause false → (s.ctx i).allocation = .clear → r.state = .closing →
      exec (.dispenserAccepted c.head count valve totalizer) s = .next (put u { r with
        state := .settling
        points := r.points.map fun p => ⟨min p.stop count.toNat, min p.slow count.toNat⟩
        noFlow := none
        settle := some ⟨10 * s.til.params.get 5, 10 * s.til.params.get 5⟩
        closeQueued := none
        awaiting := false }).arbitrate.1) ∧
    (c.payload = .final → (s.ctx i).state = .stopping → r.state = .settling →
      r.extended ≤ count.toNat → count.toNat < r.extended + 65536 →
      let v := put (u.setHead c.head { s.head c.head with
          failures := 0, totalizer := (s.head c.head).totalizer.set c.headChannel (some totalizer.toNat) })
        { r with
          state := .done, extended := count.toNat, low16 := count.setWidth 16, used := r.used || decide (0 < count.toNat),
          noFlow := none, settle := none, closeQueued := none, awaiting := false }
      exec (.dispenserAccepted c.head count valve totalizer) s = .next
        (if (v.ctx i).anyInProgress = true then v else v.closeContext i .byVolume false).arbitrate.1) ∧
    (c.payload = .final → r.state = .settling →
      let ended := { r with
        state := .done, extended := count.toNat, low16 := count.setWidth 16, used := r.used || decide (0 < count.toNat),
        noFlow := none, settle := none, closeQueued := none, awaiting := false }
      let v := put (u.setHead c.head { s.head c.head with
        failures := 0, totalizer := (s.head c.head).totalizer.set c.headChannel (some totalizer.toNat) }) ended
      let answers := fun (t : State) => exec (.dispenserAccepted c.head count valve totalizer) s = .next t.arbitrate.1
      let good := r.extended ≤ count.toNat ∧ count.toNat < r.extended + 65536
      let sharing := [ChannelState.opening, .flowing, .allocating]
      (good → (s.ctx i).state ≠ .delivering ∨ (∀ e, e ≠ c.channel → (rs.get e).state ∉ sharing) →
        answers (v.contextChanged i)) ∧
      (∀ (e : Channel) (x : ChannelSetup) (l : LaneId), good → (s.ctx i).state = .delivering → (s.ctx i).allocation = .clear →
        (s.ctx i).lane = some l → e ≠ c.channel → (rs.get e).state = .flowing → (rs.get e).setup = some x →
        (∀ d, d ≠ c.channel → d ≠ e → (rs.get d).state ∉ sharing) → (s.head x.head).online = true →
        (∀ q ∈ s.servedBy x.head, (s.lane q.1).state ≠ .locked) →
        (∀ d ∈ (s.head x.head).commands, ¬(d.lane = l ∧ d.channel = e)) →
        let stop := (rs.get e).stopInForce
        let target := ((v.ctx i).phaseOne s.productClass s.slowVolume).get e
        let share := (({ v.ctx i with allocation := ⟨.lowering, .fill false, .fill none, false⟩ } : Context).phaseTwo
          s.productClass s.slowVolume).get e
        let limited := fun (t : State) (p : Points) (lowers : Bool) => t.setHead x.head { v.head x.head with
          commands := (v.head x.head).commands ++
            [⟨x.head, x.headChannel, l, e, some (i, (s.ctx i).transaction), .limit p lowers⟩] }
        (∀ sh, target = some sh → sh.points.stop < stop →
          answers (limited (v.setCtx i { v.ctx i with
            allocation := ⟨.lowering, .fill false, (Triple.fill none).set e (some ⟨sh.points, none⟩), false⟩ }) sh.points true)) ∧
        ((∀ sh, target = some sh → stop ≤ sh.points.stop) →
          (∀ sh, share = some sh → stop < sh.points.stop →
            answers (limited (v.setCtx i { v.ctx i with
              channels := some ((rs.set c.channel ended).set e { rs.get e with points := some sh.points }) }) sh.points false)) ∧
          ((∀ sh, share = some sh → sh.points.stop ≤ stop) → answers v))) ∧
      ∀ z : ChannelSetup, ¬good → s.bound c.lane = some i → (s.lane c.lane).state ≠ .faultStop → (s.lane c.lane).state ≠ .locked →
        r.setup = some z → (∀ e, e ≠ c.channel → (rs.get e).state = .idle ∧ (rs.get e).setup = none) →
        let hit := fun (x : Context) (close : FaultClose) => ((v.setCtx i { x with
            flags := { x.flags with meterMismatch := true, fault := true } }).setLane c.lane { s.lane c.lane with
          state := .faultStop
          fault := some .meterMismatch
          channels := ((s.lane c.lane).channels.map fun w => { w with quiet := 0, faultClose := .none, faultSettle := none }).set
            c.channel { (s.lane c.lane).channels.get c.channel with quiet := 0, faultClose := close, faultSettle := none }
          }).queueEvent .laneFault (.lane c.lane) FaultKind.meterMismatch.code
        ((s.ctx i).state = .stopping → answers ((hit (v.ctx i) .complete).closeContext i .byVolume false)) ∧
        ((s.ctx i).state = .delivering → (∀ j, j ≠ i → (s.ctx j).lane ≠ some c.lane) →
          (∀ d, (s.lane c.lane).config.channels.get d = (rs.get d).setup) → (s.head z.head).online = true →
          (∀ q ∈ s.servedBy z.head, (s.lane q.1).state ≠ .locked) →
          (∀ d ∈ (s.head z.head).commands, ¬(d.lane = c.lane ∧ d.channel = c.channel)) →
          let closed := (hit { v.ctx i with
            state := .stopping, deadline := none, allocation := .clear
            reason := some ((s.ctx i).reason.getD .laneFault) } .none).closeContext i .byVolume false
          answers ((closed.setLane c.lane { closed.lane c.lane with
            channels := (closed.lane c.lane).channels.set c.channel
              { (closed.lane c.lane).channels.get c.channel with faultClose := .queued } }).setHead z.head { closed.head z.head with
            commands := (closed.head z.head).commands.filter Command.isClose ++
              ⟨z.head, z.headChannel, c.lane, c.channel, none, .close (.fault .meterMismatch) true⟩ ::
                (closed.head z.head).commands.filter fun d => !d.isClose }))) ∧
    (c.opening = true → r.state = .opening →
      (s.ctx i).state = .armed ∨ (s.ctx i).state = .delivering ∨ (s.ctx i).state = .stopping →
      let noFlow : Timer := ⟨10 * s.til.params.get 4, 10 * s.til.params.get 4⟩
      let opened := match r.closeQueued with
        | some cause => { r with
            state := .closing, endCause := some cause, used := true, closeQueued := none, noFlow := none, flowMark := r.extended }
        | none => { r with state := .flowing, used := true, noFlow := some noFlow, flowMark := r.extended }
      exec (.dispenserAccepted c.head count valve totalizer) s = .next (u.setCtx i { s.ctx i with
        state := if (s.ctx i).state = .armed then .delivering else (s.ctx i).state
        deadline := if (s.ctx i).state = .armed then none else (s.ctx i).deadline
        channels := some (rs.set c.channel opened) }).arbitrate.1) ∧
    ∀ (p : Points) (w : Lowering), c.payload = .limit p true → r.state = .opening ∨ r.state = .flowing →
      (s.ctx i).allocation.phase = .lowering → (s.ctx i).allocation.lowering.get c.channel = some w → w.fixed = none →
      let lowered := rs.set c.channel { r with points := some p }
      let fixed := { s.ctx i with
        channels := some lowered
        allocation := { (s.ctx i).allocation with
          lowering := (s.ctx i).allocation.lowering.set c.channel (some { w with fixed := some (max w.target.stop count.toNat) }) } }
      ((∃ e v, e ≠ c.channel ∧ (s.ctx i).allocation.lowering.get e = some v ∧ v.fixed = none) →
        exec (.dispenserAccepted c.head count valve totalizer) s = .next (u.setCtx i fixed).arbitrate.1) ∧
      ∀ (e : Channel) (sh : Share) (l : LaneId) (z : ChannelSetup),
        (∀ d v, d ≠ c.channel → (s.ctx i).allocation.lowering.get d = some v → v.fixed ≠ none) →
        (s.ctx i).allocation.resplit = false → s.rd.latch = false → (s.ctx i).lane = some l →
        (rs.get e).state = .allocating → (rs.get e).setup = some z →
        (fixed.phaseTwo s.productClass s.slowVolume).get e = some sh → 0 < sh.volume →
        (∀ d, d ≠ e → (fixed.phaseTwo s.productClass s.slowVolume).get d = none) →
        (s.head z.head).online = true → (∀ q ∈ s.servedBy z.head, (s.lane q.1).state ≠ .locked) →
        (∀ d ∈ (s.head z.head).commands, ¬(d.lane = l ∧ d.channel = e)) →
        let command := fun (q : Payload) => (⟨z.head, z.headChannel, l, e, some (i, (s.ctx i).transaction), q⟩ : Command)
        exec (.dispenserAccepted c.head count valve totalizer) s = .next ((u.setCtx i { fixed with
          channels := some (lowered.set e { rs.get e with state := .opening, points := some sh.points })
          allocation := .clear }).setHead z.head { u.head z.head with commands := (u.head z.head).commands ++
            if (s.head z.head).singleFrame = true then [command (.limit sh.points false), command .openValve]
            else [command (.release sh.points)] }).arbitrate.1

/-- R85, R89, R90, R92, R101, R111, R114, R117, R120, R121, R123, R124, R127, R129, R157: a ZERO refused, BUSY or BAD, makes its ZEROING channel REFUSED with a LANE FAULT event of detail 6, and is captured. A RELEASE refused as unsupported sets the head's single-frame flag and comes back as LIMIT and OPEN right behind the CLOSE entries; under the all-stop latch neither is put in, and the OPENING channel returns to IDLE. The place right behind the CLOSE entries is notes/assumptions/23.md; that the LANE FAULT event is queued before LINK CAPTURE is DEDUCED: notes/assumptions/53.md. The split is stated of an exchange in whose course no stop and no lockout fell. A LIMIT, CLOSE or FINAL that is refused, or unanswered at its last attempt below the head failure limit, is COMMAND FAILED, stated of a lane with one present channel as the first fault: FAULT STOP, a CLOSE of the fault queued, the capture after the events (53.md). After a LIMIT a FLOWING channel is CLOSING, the context STOPPING with its allocation abandoned; an OPEN that stood behind a split LIMIT is withdrawn, its OPENING channel IDLE and the context closed. A CLOSE makes a CLOSING or SETTLING channel FAILED with COMMAND FAILED (SETTLING: notes/assumptions/24.md), a FINAL a SETTLING one FAILED with the end cause it had, and the context, with nothing left in progress, closes: before the fault's CLOSEs are queued where it was still to be stopped (DEDUCED, notes/assumptions/51.md). The failed CLOSE of a lane in FAULT STOP with no context is the second fault: the lane is LOCKED. -/
def Obligations.RefusalsRunTheirChannel : Prop :=
  ∀ (s : State) (c : Command) (retries : Nat), s.awaitsHead ⟨c.head, some c, retries⟩ → s.LatchClean →
    let u := s.exchangeDone c.head
    let y := s.head c.head
    (∀ (i : ContextId) (rs : Triple ChannelRecord) (price entry : Nat), c.payload = .zero price entry →
      c.owner = some (i, (s.ctx i).transaction) → (s.ctx i).state ≠ .free → (s.ctx i).channels = some rs →
      (rs.get c.channel).state = .zeroing → (rs.get c.channel).zeroEntry = entry →
      let refused := ((((u.setCtx i { s.ctx i with channels := some (rs.set c.channel { rs.get c.channel with
          state := .refused, points := none, endCause := none, closeQueued := none, awaiting := false }) }).queueEvent
            .laneFault (.lane c.lane) 6).contextChanged i).captureFailure c.head (some c.headChannel) .zero .refused).arbitrate.1
      exec (.refusedBusy c.head) s = .next refused ∧ exec (.refusedBad c.head) s = .next refused) ∧
    (∀ p, c.payload = .release p → s.rd.latch = false → s.dlu.cutByStop = false → s.dlu.cutByLock = false →
      (∀ q ∈ s.servedBy c.head, (s.lane q.1).state ≠ .locked) →
      (∀ d ∈ y.commands, d.lane = c.lane → d.channel = c.channel → d.payload.kind ≠ .limit ∧ d.payload.kind ≠ .openValve) →
      exec (.refusedUnsupported c.head) s = .next (u.setHead c.head { y with
        failures := 0
        singleFrame := true
        commands := y.commands.filter Command.isClose ++
          { c with payload := .limit p false } :: { c with payload := .openValve } ::
            y.commands.filter (fun d => !d.isClose) }).arbitrate.1) ∧
    (∀ (p : Points) (i : ContextId) (rs : Triple ChannelRecord), c.payload = .release p → s.rd.latch = true →
      c.owner = some (i, (s.ctx i).transaction) → (s.ctx i).state ≠ .free → (s.ctx i).channels = some rs →
      (rs.get c.channel).state = .opening →
      exec (.refusedUnsupported c.head) s = .next (((u.setHead c.head { y with failures := 0, singleFrame := true }).setCtx i
        { s.ctx i with channels := some (rs.set c.channel (rs.get c.channel).toIdle) }).contextChanged i).arbitrate.1) ∧
    ∀ (command : Instr) (f : FailureKind) (t : State), s.failsAs c retries command f t →
      let x := s.lane c.lane
      let answers := fun (v : State) =>
        exec command s = .next (v.captureFailure c.head (some c.headChannel) c.payload.kind f).arbitrate.1
      let cause : EndCause := .fault .commandFailed
      (∀ (i : ContextId) (rs : Triple ChannelRecord) (z : ChannelSetup), s.bound c.lane = some i →
        c.owner = some (i, (s.ctx i).transaction) → (s.ctx i).channels = some rs → (rs.get c.channel).setup = some z →
        z.head = c.head → (∀ e, e ≠ c.channel → (rs.get e).state = .idle ∧ (rs.get e).setup = none) →
        x.state ≠ .faultStop → x.state ≠ .locked → (∀ q ∈ s.servedBy c.head, (s.lane q.1).state ≠ .locked) →
        let r := rs.get c.channel
        let alone := (∀ j, j ≠ i → (s.ctx j).lane ≠ some c.lane) ∧ ∀ d, x.config.channels.get d = (rs.get d).setup
        let unlisted := ∀ d ∈ y.commands, ¬(d.lane = c.lane ∧ d.channel = c.channel)
        let joined := fun (ds : List Command) (owner : Option (ContextId × Nat)) => ds.filter Command.isClose ++
          ⟨c.head, z.headChannel, c.lane, c.channel, owner, .close cause true⟩ :: ds.filter fun d => !d.isClose
        let flagged := fun (q : ChannelRecord) => { s.ctx i with
          flags := { (s.ctx i).flags with fault := true }, channels := some (rs.set c.channel q) }
        let stopping := fun (q : ChannelRecord) => { flagged q with
          state := .stopping, deadline := none, allocation := .clear, reason := some ((s.ctx i).reason.getD .laneFault) }
        let hit := fun (ctx : Context) (close : FaultClose) (ds : List Command) => (((t.setCtx i ctx).setLane c.lane { x with
            state := .faultStop
            fault := some .commandFailed
            channels := (x.channels.map fun w => { w with quiet := 0, faultClose := .none, faultSettle := none }).set c.channel
              { x.channels.get c.channel with quiet := 0, faultClose := close, faultSettle := none }
          }).setHead c.head { t.head c.head with commands := ds }).queueEvent .laneFault (.lane c.lane) FaultKind.commandFailed.code
        let closing := fun (q : ChannelRecord) (ds : List Command) =>
          let closed := (hit (stopping q) .none ds).closeContext i .byVolume false
          (closed.setLane c.lane { closed.lane c.lane with
            channels := (closed.lane c.lane).channels.set c.channel
              { (closed.lane c.lane).channels.get c.channel with faultClose := .queued } }).setHead c.head
              { closed.head c.head with commands := joined ds none }
        (∀ p lowers, c.payload = .limit p lowers → (s.ctx i).state = .armed ∨ (s.ctx i).state = .delivering →
          (r.state = .flowing → unlisted →
            answers (hit (stopping { r with state := .closing, endCause := some cause, closeQueued := none, noFlow := none })
              .queued (joined y.commands c.owner))) ∧
          (r.state = .opening → alone → s.ListsSound →
            (∃ d ∈ y.commands, d.lane = c.lane ∧ d.channel = c.channel ∧ d.payload = .openValve) →
            (∀ d ∈ y.commands, d.lane = c.lane → d.channel = c.channel → d.payload = .openValve ∧ d.owner = c.owner) →
            answers (closing r.toIdle (y.commands.filter fun d => !decide (d.lane = c.lane ∧ d.channel = c.channel))))) ∧
        (c.payload.kind = .close ∧ (r.state = .closing ∨ r.state = .settling) ∨ c.payload = .final ∧ r.state = .settling →
          unlisted →
          let failed := { r with
            state := .failed, used := r.used || decide (0 < r.extended), noFlow := none, settle := none, closeQueued := none
            awaiting := false, endCause := if c.payload = .final then r.endCause else some cause }
          ((s.ctx i).state = .stopping →
            answers ((hit (flagged failed) .queued (joined y.commands c.owner)).closeContext i .byVolume false)) ∧
          ((s.ctx i).state = .delivering → alone → answers (closing failed y.commands)))) ∧
      (c.owner = none → c.payload.kind = .close → s.bound c.lane = none → x.state = .faultStop → y.commands = [] →
        (∀ h, h ≠ c.head → ∀ q ∈ s.servedBy h, q.1 ≠ c.lane) →
        answers ((({ t.setLane c.lane { x with
            state := .locked
            fault := some .commandFailed
            channels := x.channels.map fun w => { w with faultClose := .none, faultSettle := none } } with
          rd := { t.rd with locks := t.rd.locks.set c.lane true }
          scc := { t.scc with cut := t.scc.cut.set c.lane true } } : State).queueEvent .laneFault (.lane c.lane)
            FaultKind.commandFailed.code).queueEvent .laneLockout (.lane c.lane) FaultKind.commandFailed.code))

/-- R87, R88, R90, R92, R93, R98, R103, R109 to R113, R115 to R120, R122, R125, R127, R128, R130: a good poll reply of an ONLINE head keeps its reports and ends the exchange. Of a head that serves one lane's channel alone, an UNCHANGED report sets the nozzle seen and the valve and close cause handed on, and counts quiet reports on a LOCKED lane. A CHANGED one of a lane with no context is FLOW WITHOUT RELEASE: FAULT STOP with a CLOSE queued, or on a LOCKED lane the event alone. On a lane in FAULT STOP with no context a report is counted toward the quiet count, a CHANGED one of a channel whose fault close is not complete too, and once every present channel is quiet FAULT STOP ends (in LOADING no channel is present: notes/assumptions/18.md). One that completes the zero handshake makes its channel join an allocation: it is OPENING at once with what the division gives it, or a flowing channel's LIMIT is queued first. Every report of a bound lane that takes commands sets the nozzle seen and what was handed on, RESTARTED or not. A lift on an unused, permitted IDLE channel begins ZEROING with a ZERO queued, and ENDING becomes DELIVERING; one on a channel not permitted makes it REFUSED; any other changes nothing more. In ZEROING a hang-up returns the channel to IDLE, and an incomplete report after the accepted ZERO is counted and at the count makes it REFUSED with ZERO FAILED. A hang-up in ALLOCATING takes the channel out of the joining ones; in OPENING its CLOSE withdraws the release (notes/assumptions/25.md where a CLOSE stands already). Counts are extended, and held where the head restarted; a rising count restarts the no-flow timer; a closed valve takes FLOWING and CLOSING to SETTLING. A delta of 32,768 or more is METER JUMP: FAULT STOP, the context STOPPING, the channel CLOSING with a CLOSE queued. What a changed channel does to its context (contextChanged) is said in ContextTimersExpire. -/
def Obligations.PollReportsAreKeptAndHandedOn : Prop :=
  ∀ (s : State) (h : HeadId) (retries : Nat) (rs : List ChannelReport), s.awaitsHead ⟨h, none, retries⟩ →
    (s.head h).online = true → s.LatchClean →
    let y := s.head h
    let kept := fun (restarted : Bool) => { s with dlu := { s.dlu with
      line := .quiet
      heads := s.dlu.heads.set h { y with
        failures := 0
        singleFrame := y.singleFrame && !restarted
        last := rs.foldl (fun p r => p.set r.channel (some ⟨r.nozzle, r.valve, r.cause, r.zeroed, r.low16⟩)) y.last } } }
    (s.servedBy h = [] → ∀ restarted, exec (.pollReply h restarted rs) s = .next (kept restarted).arbitrate.1) ∧
    (∀ (l : LaneId) (ch : Channel) (z : ChannelSetup) (r : ChannelReport) (p : LastReport),
      s.servedBy h = [(l, ch)] → s.setup l ch = some z → rs.find? (fun r => decide (r.channel = z.headChannel)) = some r →
      y.last.get z.headChannel = some p → p.low16 = r.low16 → (s.lane l).state ≠ .faultStop →
      let w := (s.lane l).channels.get ch
      let note := fun (u : State) => u.setLane l { s.lane l with channels := (s.lane l).channels.set ch { w with
        nozzle := match r.nozzle with
          | .hung => .hung
          | .lifted => .lifted
        handed := some (r.valve, r.cause)
        quiet := if (s.lane l).state = .locked then (if r.valve = .closed then min 2 (w.quiet + 1) else 0) else w.quiet } }
      (s.bound l = none → exec (.pollReply h false rs) s = .next (note (kept false)).arbitrate.1) ∧
      ∀ (i : ContextId) (cs : Triple ChannelRecord), s.bound l = some i → (s.ctx i).channels = some cs →
        (cs.get ch).state = .flowing → (cs.get ch).low16 = r.low16 → (cs.get ch).extended = (cs.get ch).flowMark →
        (cs.get ch).extended ≤ 4294967295 → r.valve = .closed → r.nozzle = .hung →
        exec (.pollReply h false rs) s = .next (note ((kept false).setCtx i { s.ctx i with
          channels := some (cs.set ch { cs.get ch with
            state := .settling
            points := (cs.get ch).points.map fun p => ⟨min p.stop (cs.get ch).extended, min p.slow (cs.get ch).extended⟩
            noFlow := none
            settle := some ⟨10 * s.til.params.get 5, 10 * s.til.params.get 5⟩
            closeQueued := none
            awaiting := false
            endCause := some (match r.cause with
              | .stopPoint => .stopPoint
              | .nozzle => .nozzle
              | .halt => .halt
              | .none | .command => .headClosed) }) })).arbitrate.1) ∧
    (∀ (l : LaneId) (ch : Channel) (z : ChannelSetup) (r : ChannelReport) (p : LastReport),
      s.servedBy h = [(l, ch)] → s.setup l ch = some z → rs.find? (fun r => decide (r.channel = z.headChannel)) = some r →
      y.last.get z.headChannel = some p → p.low16 ≠ r.low16 → s.bound l = none →
      let noted := fun (w : LaneChannel) => { w with
        nozzle := match r.nozzle with
          | .hung => .hung
          | .lifted => .lifted
        handed := some (r.valve, r.cause)
        quiet := 0 }
      let w := (s.lane l).channels.get ch
      ((s.lane l).state = .locked → exec (.pollReply h false rs) s = .next (((kept false).setLane l { s.lane l with
        channels := (s.lane l).channels.set ch (noted w) }).queueEvent .laneFault (.lane l)
          FaultKind.flowWithoutRelease.code).arbitrate.1) ∧
      ((s.lane l).state ≠ .locked → (s.lane l).state ≠ .faultStop → (∀ d, d ≠ ch → s.setup l d = none) →
        (∀ d ∈ y.commands, ¬(d.lane = l ∧ d.channel = ch)) →
        exec (.pollReply h false rs) s = .next ((((kept false).setHead h { (kept false).head h with
          commands := y.commands.filter Command.isClose ++
            ⟨h, z.headChannel, l, ch, none, .close (.fault .flowWithoutRelease) true⟩ ::
              y.commands.filter fun d => !d.isClose }).setLane l { s.lane l with
          state := .faultStop
          fault := some .flowWithoutRelease
          channels := ((s.lane l).channels.map fun w => { w with quiet := 0, faultClose := .none, faultSettle := none }).set ch
            (noted { w with faultClose := .queued, faultSettle := none }) }).queueEvent .laneFault (.lane l)
              FaultKind.flowWithoutRelease.code).arbitrate.1)) ∧
    (∀ (l : LaneId) (ch : Channel) (z : ChannelSetup) (r : ChannelReport) (p : LastReport),
      s.servedBy h = [(l, ch)] → s.setup l ch = some z → rs.find? (fun r => decide (r.channel = z.headChannel)) = some r →
      y.last.get z.headChannel = some p → s.bound l = none → (s.lane l).state = .faultStop → s.lau.adoption.get l = false →
      let w := (s.lane l).channels.get ch
      p.low16 = r.low16 ∨ w.faultClose ≠ .complete →
      let noted := (s.lane l).channels.set ch { w with
        nozzle := match r.nozzle with
          | .hung => .hung
          | .lifted => .lifted
        handed := some (r.valve, r.cause)
        quiet := if r.valve = .closed ∧ p.low16 = r.low16 then min 2 (w.quiet + 1) else 0 }
      let quiet := ∀ ch' z', s.setup l ch' = some z' → (noted.get ch').quiet = 2
      (quiet → exec (.pollReply h false rs) s = .next ((kept false).setLane l { s.lane l with
        state := if (s.lane l).config.isOpen = true ∧ s.til.load ≠ .loading then .idle else .closed
        fault := none
        channels := noted.map fun w => { w with faultClose := .none, faultSettle := none } }).arbitrate.1) ∧
      (¬quiet → exec (.pollReply h false rs) s = .next ((kept false).setLane l { s.lane l with channels := noted }).arbitrate.1)) ∧
    (∀ (l : LaneId) (ch : Channel) (z : ChannelSetup) (r : ChannelReport) (i : ContextId) (cs : Triple ChannelRecord),
      s.servedBy h = [(l, ch)] → s.setup l ch = some z → rs.find? (fun r => decide (r.channel = z.headChannel)) = some r →
      r.nozzle = .lifted → r.valve = .closed → r.zeroed = true → r.low16 = 0 → s.bound l = some i →
      (s.ctx i).channels = some cs → (s.ctx i).allocation = .clear →
      (s.lane l).state ≠ .faultStop → (s.lane l).state ≠ .locked →
      (cs.get ch).state = .zeroing → (cs.get ch).zeroAccepted = true → (cs.get ch).zeroPolls < s.til.params.get 7 →
      let note := fun (u : State) => u.setLane l { s.lane l with
        channels := (s.lane l).channels.set ch
          { (s.lane l).channels.get ch with nozzle := .lifted, handed := some (.closed, r.cause) } }
      let joined := cs.set ch { cs.get ch with state := .allocating, extended := 0, low16 := 0, flowMark := 0 }
      let allocation := fun (w : Triple (Option Lowering)) =>
        (⟨.lowering, (Triple.fill false).set ch true, w, false⟩ : Allocation)
      let begun := { s.ctx i with channels := some joined, allocation := allocation (.fill none) }
      let command := fun (z : ChannelSetup) (e : Channel) (q : Payload) =>
        (⟨z.head, z.headChannel, l, e, some (i, (s.ctx i).transaction), q⟩ : Command)
      (∀ sh : Share, s.rd.latch = false →
        (∀ d, d ≠ ch → (cs.get d).state ∉ [ChannelState.opening, .flowing, .allocating]) →
        (begun.phaseTwo s.productClass s.slowVolume).get ch = some sh → 0 < sh.volume →
        (∀ d ∈ y.commands, ¬(d.lane = l ∧ d.channel = ch)) →
        exec (.pollReply h false rs) s = .next (note (((kept false).setCtx i { begun with
          channels := some (joined.set ch { joined.get ch with state := .opening, points := some sh.points })
          allocation := .clear }).setHead h { (kept false).head h with commands := y.commands ++
            if y.singleFrame = true then [command z ch (.limit sh.points false), command z ch .openValve]
            else [command z ch (.release sh.points)] })).arbitrate.1) ∧
      ∀ (e : Channel) (x : ChannelSetup) (sh : Share), e ≠ ch → (cs.get e).state = .flowing → (cs.get e).setup = some x →
        (∀ d, d ≠ ch → d ≠ e → (cs.get d).state ∉ [ChannelState.opening, .flowing, .allocating]) →
        (({ s.ctx i with channels := some joined } : Context).phaseOne s.productClass s.slowVolume).get e = some sh →
        sh.points.stop < (cs.get e).stopInForce → (s.head x.head).online = true →
        (∀ q ∈ s.servedBy x.head, (s.lane q.1).state ≠ .locked) →
        (∀ d ∈ (s.head x.head).commands, ¬(d.lane = l ∧ d.channel = e)) →
        exec (.pollReply h false rs) s = .next (note (((kept false).setCtx i { s.ctx i with
          channels := some joined, allocation := allocation ((Triple.fill none).set e (some ⟨sh.points, none⟩)) }).setHead x.head
            { s.head x.head with commands := (s.head x.head).commands ++ [command x e (.limit sh.points true)] })).arbitrate.1) ∧
    ∀ (l : LaneId) (ch : Channel) (z : ChannelSetup) (r : ChannelReport) (i : ContextId) (cs : Triple ChannelRecord)
      (restarted : Bool),
      s.servedBy h = [(l, ch)] → s.setup l ch = some z → rs.find? (fun r => decide (r.channel = z.headChannel)) = some r →
      s.bound l = some i → (s.ctx i).channels = some cs → (s.lane l).state ≠ .faultStop → (s.lane l).state ≠ .locked →
      let c := s.ctx i
      let q := cs.get ch
      let seen := ((s.lane l).channels.get ch).nozzle
      let lift := r.nozzle = .lifted ∧ seen ≠ .lifted
      let hangUp := r.nozzle = .hung ∧ seen = .lifted
      let unchanged := restarted = true ∨ ∀ p, y.last.get z.headChannel = some p → p.low16 = r.low16
      let takes := c.state = .armed ∨ c.state = .delivering ∨ c.state = .ending
      let put := fun (q' : ChannelRecord) => (kept restarted).setCtx i { c with channels := some (cs.set ch q') }
      let listed := fun (u : State) (ds : List Command) => u.setHead h { (kept restarted).head h with commands := ds }
      let command := fun (p : Payload) => (⟨h, z.headChannel, l, ch, some (i, c.transaction), p⟩ : Command)
      let refused := { q with state := .refused, points := none, endCause := none, closeQueued := none, awaiting := false }
      let delta := (r.low16 - q.low16).toNat
      let n := if restarted = true then q.extended else q.extended + delta
      let answers := fun (u : State) => exec (.pollReply h restarted rs) s = .next (u.setLane l { u.lane l with
        channels := (u.lane l).channels.set ch { (u.lane l).channels.get ch with
          nozzle := match r.nozzle with
            | .hung => .hung
            | .lifted => .lifted
          handed := some (r.valve, r.cause) } }).arbitrate.1
      (unchanged → q.state ∈ [ChannelState.idle, .done, .refused, .failed] →
        ¬(lift ∧ takes) ∨ c.permits q = true ∧ (q.used = true ∨ q.state ≠ .idle) → answers (kept restarted)) ∧
      (unchanged → lift → takes → q.state = .idle →
        (c.permits q = false → answers (((put refused).tell i (.productNotAllowed l)).contextChanged i)) ∧
        (c.permits q = true → q.used = false → (∀ d ∈ y.commands, d.lane = l → d.channel = ch → d.payload.kind ≠ .zero) →
          answers (listed ((kept restarted).setCtx i { c with
            state := if c.state = .ending then .delivering else c.state
            deadline := if c.state = .delivering then c.deadline else none
            channels := some (cs.set ch { q with
              state := .zeroing, zeroPolls := 0, zeroEntry := q.zeroEntry + 1, zeroAccepted := false }) })
            (y.commands ++ [command (.zero (c.price z.product) (q.zeroEntry + 1))])))) ∧
      (q.state = .zeroing →
        (hangUp → answers ((put q.toIdle).contextChanged i)) ∧
        (¬hangUp → q.zeroAccepted = false → answers (kept restarted)) ∧
        (¬hangUp → q.zeroAccepted = true →
          ¬(r.nozzle = .lifted ∧ r.valve = .closed ∧ r.zeroed = true ∧ r.low16 = 0 ∧ q.zeroPolls < s.til.params.get 7) →
          (q.zeroPolls + 1 < s.til.params.get 7 → answers (put { q with zeroPolls := q.zeroPolls + 1 })) ∧
          (s.til.params.get 7 ≤ q.zeroPolls + 1 → answers (((put { refused with
            zeroPolls := q.zeroPolls + 1 }).queueEvent .laneFault (.lane l) 6).contextChanged i)))) ∧
      (unchanged → hangUp → q.state = .allocating → q.low16 = r.low16 → q.extended ≤ 4294967295 →
        answers (((kept restarted).setCtx i { c with
          channels := some (cs.set ch q.toIdle)
          allocation := { c.allocation with joining := c.allocation.joining.set ch false } }).contextChanged i)) ∧
      (hangUp → q.state = .opening → q.low16 = r.low16 → q.extended ≤ 4294967295 → s.ListsSound →
        (∃ d ∈ y.commands, d.lane = l ∧ d.channel = ch ∧ d.opening = true) →
        (∀ d ∈ y.commands, d.lane = l → d.channel = ch → d.releasing = true ∧ d.owner = some (i, c.transaction)) →
        let others := y.commands.filter fun d => !decide (d.lane = l ∧ d.channel = ch)
        answers ((listed (put q.toIdle) (others.filter Command.isClose ++
          command (.close .stopped false) :: others.filter fun d => !d.isClose)).contextChanged i)) ∧
      (q.state ∈ [ChannelState.allocating, .opening, .flowing, .closing, .settling] → c.permits q = true →
        (q.state = .allocating → unchanged) → (hangUp → q.state ∉ [ChannelState.allocating, .opening]) →
        restarted = true ∨ delta < 32768 → n ≤ 4294967295 →
        let read := { q with low16 := r.low16, extended := n }
        let flowed := { read with
          flowMark := n, noFlow := if n = q.flowMark then q.noFlow else some ⟨10 * s.til.params.get 4, 10 * s.til.params.get 4⟩ }
        let settled := fun (q' : ChannelRecord) => { q' with
          state := .settling
          points := q'.points.map fun p => ⟨min p.stop n, min p.slow n⟩
          noFlow := none
          settle := some ⟨10 * s.til.params.get 5, 10 * s.til.params.get 5⟩
          closeQueued := none
          awaiting := false }
        answers (put (match q.state, r.valve with
          | .flowing, .closed => { settled flowed with endCause := some (match r.cause with
              | .stopPoint => .stopPoint
              | .nozzle => .nozzle
              | .halt => .halt
              | .none | .command => .headClosed) }
          | .flowing, _ => flowed
          | .closing, .closed => settled read
          | _, _ => read))) ∧
      (restarted = false → 32768 ≤ delta → q.state = .flowing → c.state = .delivering → r.valve ≠ .closed →
        (∀ e, e ≠ ch → (cs.get e).state = .idle ∧ (cs.get e).setup = none) →
        (∀ d ∈ y.commands, ¬(d.lane = l ∧ d.channel = ch)) →
        ∃ v : State, exec (.pollReply h false rs) s = .next v.arbitrate.1 ∧
          v.ctx i = { c with
            state := .stopping, deadline := none, allocation := .clear, flags := { c.flags with fault := true }
            reason := some (c.reason.getD .laneFault)
            channels := some (cs.set ch { q with
              state := .closing, low16 := r.low16, endCause := some (.fault .meterJump), closeQueued := none, noFlow := none }) } ∧
          (∀ j, j ≠ i → v.ctx j = s.ctx j) ∧ v.rd.records = s.rd.records ∧
          v.lane l = { s.lane l with
            state := .faultStop
            fault := some .meterJump
            channels := ((s.lane l).channels.map fun w => { w with quiet := 0, faultClose := .none, faultSettle := none }).set ch
              { (s.lane l).channels.get ch with
                nozzle := match r.nozzle with
                  | .hung => .hung
                  | .lifted => .lifted
                handed := some (r.valve, r.cause)
                quiet := 0, faultClose := .queued, faultSettle := none } } ∧
          (∀ m, m ≠ l → v.lane m = s.lane m) ∧
          v.dlu = (listed (kept false) (y.commands.filter Command.isClose ++
            command (.close (.fault .meterJump) true) :: y.commands.filter fun d => !d.isClose)).dlu ∧
          v.reu.events = (s.reu.occur .laneFault (.lane l) FaultKind.meterJump.code s.stamp).events)

/-- R81, R84, R86, R91, R93, R95 to R97, R119, R121, R127, R128, R186: the arbiter on a free link sends a pending HALT ALL; else the entry at the head of the list of the first head, in rotation after the command position, whose list holds a CLOSE, in sound lists a CLOSE itself; else that of the first head whose list is not empty, unless the run count has reached 4 and an ONLINE head is active; else it polls: the next due active head, raising the poll count, or with the poll count at 3 the next due inactive head, setting it to 0, and a head of the other kind, with the poll count 0, where none of the one is due. A step-3 exchange raises the run count, a poll sets it to 0 and starts the timer of an OFFLINE head, and an OPEN or RELEASE met under the all-stop latch is removed, reported WITHDRAWN, and the arbiter chooses again; with nothing to do the link stays quiet. Heads that serve a LOCKED lane are passed over, their lists kept (DEDUCED, notes/assumptions/22.md); the positions are the three of R96's table (notes/assumptions/39.md). An offline poll timer's expiry makes its head due; HALT ALL sent is no longer pending, and the exchange it came between goes on; the no-flow timer's expiry queues a CLOSE right behind the CLOSEs of the head's list and the channel is CLOSING with NO FLOW; the settle timer's queues FINAL; the fault settle timer's completes the fault close and does no more: FAULT STOP is tested after each report (PollReportsAreKeptAndHandedOn) and after an unbinding (ClosingWritesOneRecord), not here. A complete poll reply of an OFFLINE head brings it ONLINE with the HEAD ONLINE event, of detail 1 where the head restarted, and is then taken as the reply of an ONLINE head (PollReportsAreKeptAndHandedOn), after the CLOSE of the one channel it serves that awaits recovery, or of one in FAULT STOP that was still owed it, has been queued behind the CLOSEs of its list. -/
def Obligations.LinkAndChannelTimersExpire : Prop :=
  (∀ s : State,
    let cutOff := fun (h : HeadId) => ∃ q ∈ s.servedBy h, (s.lane q.1).state = .locked
    let holdsClose := fun (h : HeadId) => ¬cutOff h ∧ ∃ d ∈ (s.head h).commands, d.payload.kind = .close
    let holds := fun (h : HeadId) => ¬cutOff h ∧ (s.head h).commands ≠ []
    let indebted := 4 ≤ s.dlu.runCount ∧ ∃ h, (s.head h).online = true ∧ s.isActive h
    let due := fun (h : HeadId) => (s.head h).online = true ∨ (s.head h).offlinePoll = .expired
    let dueActive := fun (h : HeadId) => due h ∧ s.isActive h
    let dueInactive := fun (h : HeadId) => due h ∧ ¬s.isActive h
    let sending := fun (h : HeadId) (c : Option Command) =>
      DispenserLine.sending ⟨h, c, if (s.head h).online = true then s.til.params.get 8 else 0⟩
    let serves := fun (h : HeadId) (run : Nat) => ∀ c rest, (s.head h).commands = c :: rest →
      let left := s.setHead h { s.head h with commands := rest }
      s.choose = if s.rd.latch = true ∧ c.opening = true then (left, some c) else
        ({ left with dlu := { left.dlu with
          commandPos := h, runCount := run, cutByStop := false, cutByLock := false, line := sending h (some c) } }, none)
    let polls := fun (h : HeadId) (toActive : Bool) (count : Nat) =>
      let u := if (s.head h).online = true then s else s.setHead h { s.head h with offlinePoll := .running ⟨20, 20⟩ }
      s.choose = ({ u with dlu := { u.dlu with
        activePos := if toActive = true then h else s.dlu.activePos
        inactivePos := if toActive = true then s.dlu.inactivePos else h
        runCount := 0, pollCount := count, cutByStop := false, cutByLock := false, line := sending h none } }, none)
    (s.power.phase ≠ .running ∨ s.dlu.line ≠ .quiet → s.arbitrate = (s, [])) ∧
    (s.power.phase = .running → s.dlu.line = .quiet →
      s.arbitrate = (s.choose.1, (s.choose.2.map fun c => [Work.outcome c .withdrawn, .arbitrate]).getD [])) ∧
    (s.dlu.haltPending = true → s.choose = ({ s with dlu := { s.dlu with line := .haltAll none } }, none)) ∧
    (s.dlu.haltPending = false →
      (∀ h, firstAfter s.dlu.commandPos h holdsClose → serves h s.dlu.runCount ∧
        (s.ListsSound → ∃ c rest, (s.head h).commands = c :: rest ∧ c.payload.kind = .close)) ∧
      ((∀ h, ¬holdsClose h) → ¬indebted → ∀ h, firstAfter s.dlu.commandPos h holds → serves h (min 4 (s.dlu.runCount + 1))) ∧
      ((∀ h, ¬holdsClose h) → indebted ∨ (∀ h, ¬holds h) →
        (s.dlu.pollCount < 3 →
          (∀ h, firstAfter s.dlu.activePos h dueActive → polls h true (s.dlu.pollCount + 1)) ∧
          ((∀ h, ¬dueActive h) → ∀ h, firstAfter s.dlu.inactivePos h dueInactive → polls h false 0)) ∧
        (3 ≤ s.dlu.pollCount →
          (∀ h, firstAfter s.dlu.inactivePos h dueInactive → polls h false 0) ∧
          ((∀ h, ¬dueInactive h) → ∀ h, firstAfter s.dlu.activePos h dueActive → polls h true 0)) ∧
        ((∀ h, ¬due h) → s.choose = (s, none))))) ∧
  ∀ s : State, s.power.phase = .running → s.LatchClean →
    (∀ h tm, (s.head h).offlinePoll = .running tm →
      exec (.headOfflinePollTimerExpiry h) s = .next (s.setHead h { s.head h with offlinePoll := .expired }).arbitrate.1) ∧
    (s.dlu.line = .haltAll none →
      exec .haltAllSent s = .next { s with dlu := { s.dlu with haltPending := false, line := .quiet } }.arbitrate.1) ∧
    (∀ x f, s.dlu.line = .haltAll (some (x, f)) → s.dlu.cutByStop = false → s.dlu.cutByLock = false → s.rd.latch = false ∨ x.command.any Command.opening = false →
      x.command = none ∨ (∀ q ∈ s.servedBy x.head, (s.lane q.1).state ≠ .locked) →
      exec .haltAllSent s = .next { s with dlu := { s.dlu with haltPending := false, line := .sending x } }) ∧
    (∀ (l : LaneId) (ch : Channel) (i : ContextId) (cs : Triple ChannelRecord) (z : ChannelSetup),
      s.bound l = some i → (s.ctx i).channels = some cs → (cs.get ch).setup = some z → (s.head z.head).online = true →
      (∀ q ∈ s.servedBy z.head, (s.lane q.1).state ≠ .locked) →
      (∀ d ∈ (s.head z.head).commands, ¬(d.lane = l ∧ d.channel = ch)) →
      let y := s.head z.head
      let command := fun (p : Payload) => (⟨z.head, z.headChannel, l, ch, some (i, (s.ctx i).transaction), p⟩ : Command)
      let put := fun (r : ChannelRecord) => s.setCtx i { s.ctx i with channels := some (cs.set ch r) }
      ((cs.get ch).noFlow.isSome = true → (cs.get ch).state = .flowing →
        exec (.noFlowTimerExpiry l ch) s = .next ((put { cs.get ch with
          state := .closing, endCause := some .noFlow, closeQueued := none, noFlow := none }).setHead z.head { y with
            commands := y.commands.filter Command.isClose ++
              command (.close .noFlow false) :: y.commands.filter (fun d => !d.isClose) }).arbitrate.1) ∧
      ((cs.get ch).settle.isSome = true → (cs.get ch).state = .settling →
        exec (.settleTimerExpiry l ch) s = .next ((put { cs.get ch with settle := none }).setHead z.head { y with
          commands := y.commands ++ [command .final] }).arbitrate.1)) ∧
    (∀ (l : LaneId) (ch : Channel), ((s.lane l).channels.get ch).faultSettle.isSome = true →
      exec (.faultSettleTimerExpiry l ch) s = .next (s.setLane l { s.lane l with
        channels := (s.lane l).channels.set ch { (s.lane l).channels.get ch with faultClose := .complete, faultSettle := none } })) ∧
    ∀ (h : HeadId) (retries : Nat) (restarted : Bool) (rs : List ChannelReport),
      s.dlu.line = .window ⟨h, none, retries⟩ → (s.head h).online = false →
      (∀ q ∈ s.servedBy h, ∀ z, s.setup q.1 q.2 = some z → ∃ r ∈ rs, r.channel = z.headChannel) →
      let y := { s.head h with online := true, failures := 0, offlinePoll := .stopped }
      let on := (s.setHead h y).queueEvent .headOnline (.head h) (if restarted = true then 1 else 0)
      let takenAs := fun (u : State) => exec (.pollReply h restarted rs) s = exec (.pollReply h restarted rs) u
      let closing := fun (u : State) (c : Command) => u.setHead h { y with
        commands := y.commands.filter Command.isClose ++ c :: y.commands.filter fun d => !d.isClose }
      ((∀ q ∈ s.servedBy h, ∀ i cs, s.bound q.1 = some i → (s.ctx i).channels = some cs → (cs.get q.2).awaiting = false) →
        (∀ q ∈ s.servedBy h, (s.lane q.1).state = .faultStop → ((s.lane q.1).channels.get q.2).faultClose ≠ .owed) →
        takenAs on) ∧
      ∀ (l : LaneId) (ch : Channel) (z : ChannelSetup), s.servedBy h = [(l, ch)] → s.setup l ch = some z →
        (∀ d ∈ y.commands, ¬(d.lane = l ∧ d.channel = ch)) →
        (∀ (i : ContextId) (cs : Triple ChannelRecord) (e : EndCause), s.bound l = some i → (s.ctx i).channels = some cs →
          (cs.get ch).awaiting = true → (cs.get ch).endCause = some e →
          (s.lane l).state ≠ .faultStop → (s.lane l).state ≠ .locked →
          takenAs (closing (on.setCtx i { s.ctx i with channels := some (cs.set ch { cs.get ch with awaiting := false }) })
            ⟨h, z.headChannel, l, ch, some (i, (s.ctx i).transaction), .close e false⟩)) ∧
        ∀ k : FaultKind, s.bound l = none → (s.lane l).state = .faultStop → (s.lane l).fault = some k →
          ((s.lane l).channels.get ch).faultClose = .owed →
          takenAs (closing (on.setLane l { s.lane l with
            channels := (s.lane l).channels.set ch { (s.lane l).channels.get ch with faultClose := .queued } })
            ⟨h, z.headChannel, l, ch, none, .close (.fault k) true⟩)

/-! ### Power, starts, the clock (chapter 10) -/

/-- R179 to R182, R190, R198: what the pins and the supplies do: PFAIL stops the links, sends HALT ALL, abandons a save and writes the check; RST writes it and holds a start with HALT and every cut line asserted, ATTN released and every site parameter at its default; a release of either, and main power coming up, begin a start; a loss without PFAIL, in a start that waits for RST too, leaves a check that does not match, and one after PFAIL the check as it was written; the indicator is cleared where the domain's supply fails. The model's choices in it: the bytes under the check and its value after a loss without PFAIL (notes/assumptions/5.md), outputs not driven without power (6.md), a pin event out of its place moves the pin alone (14.md), PFAIL in a start that waits for RST (16.md), the image lost with a save that is cut off (17.md), a HALT ALL still pending dropped by a start (49.md), the three links left as they stood while a start waits for RST (30.md). -/
def Obligations.PowerFollowsItsPins : Prop :=
  ∀ s : State,
    let held := fun (u : State) => { u with
      scc := { u.scc with halt := true, cut := .fill 12 true }
      reu := { u.reu with attn := false }
      til := { u.til with params := Config.defaultParameters }
      power := { u.power with phase := .waiting } }
    let til := if s.til.save.isSome = true then { s.til with save := none, flash := none } else s.til
    let off := { s with
      scc := { s.scc with halt := false, cut := .fill 12 false }
      reu := { s.reu with attn := false }
      power := { s.power with phase := .off } }
    (s.power.phase = .off →
      let u := { s with power := { s.power with pfailLow := false } }
      exec .powerUp s = .next (if s.power.rstLow = true then held u else u.start) ∧
      exec .retentionLost s = .next { s with rd := { s.rd with intact := false } } ∧ exec .mainPowerLoss s = .next s) ∧
    (s.power.phase ≠ .off → exec .powerUp s = .next s ∧ exec .retentionLost s = .next s) ∧
    (s.power.phase = .running →
      exec .pfailAssert s = .next { s with
        dlu := { s.dlu with line := .haltAll none, haltPending := true }
        tlu := { s.tlu with line := .quiet }
        hlu := { s.hlu with receiver := .hunting, answering := none }
        til := til
        rd := { s.rd with check := s.rd.crc }
        power := { s.power with pfailLow := true, phase := .frozen } } ∧
      ∃ k, k ≠ s.rd.crc ∧ exec .mainPowerLoss s = .next { off with rd := { s.rd with check := k }, til := til }) ∧
    (s.power.phase = .waiting →
      exec .pfailAssert s = .next { s with
        rd := { s.rd with check := s.rd.crc }, power := { s.power with pfailLow := true, phase := .frozen } } ∧
      (s.power.pfailLow = false →
        ∃ k, k ≠ s.rd.crc ∧ exec .mainPowerLoss s = .next { off with rd := { s.rd with check := k } })) ∧
    (s.power.phase = .frozen ∨ s.power.phase = .waiting ∧ s.power.pfailLow = true → exec .mainPowerLoss s = .next off) ∧
    (s.power.phase = .off ∨ s.power.phase = .frozen →
      exec .pfailAssert s = .next { s with power := { s.power with pfailLow := true } }) ∧
    (s.power.phase = .frozen →
      let u := { s with power := { s.power with pfailLow := false } }
      exec .pfailRelease s = .next (if s.power.rstLow = true then held u else u.start)) ∧
    (s.power.phase ≠ .frozen → exec .pfailRelease s = .next { s with power := { s.power with pfailLow := false } }) ∧
    (s.power.phase = .running ∨ s.power.phase = .frozen →
      exec .rstAssert s = .next (held { s with
        til := til, rd := { s.rd with check := s.rd.crc }, power := { s.power with rstLow := true } })) ∧
    (s.power.phase = .off ∨ s.power.phase = .waiting →
      exec .rstAssert s = .next { s with power := { s.power with rstLow := true } }) ∧
    (s.power.phase = .waiting → exec .rstRelease s = .next { s with power := { s.power with rstLow := false } }.start) ∧
    (s.power.phase ≠ .waiting → exec .rstRelease s = .next { s with power := { s.power with rstLow := false } })

/-- R180 to R184: a start that finds the indicator clear or the check not matching is cold and gives the retained contents their values; a loss of power after PFAIL is followed by a warm start, which changes nothing retained where every context is FREE, and a loss without PFAIL by a cold one, each stated of a start that follows the loss at once, as a clock that passes the end of 2099 in between may change the match (DEDUCED, notes/assumptions/54.md); that POWER_UP leaves the PFAIL pin high (DESIGN CHOICE), and that a loss in a part that works with the pin low already is one without PFAIL (DEDUCED), are the model's: notes/assumptions/16.md. The walk of a warm start cancels a context before delivery with reason RESTART, and takes a later one into RECOVERING, its channels in delivery CLOSING and awaiting recovery, or closes it where none awaits; a warm start with the latch clear queues WARM START with the number of contexts in RECOVERING after that walk and walks the contexts in number order. The bytes under the check are left open (notes/assumptions/5.md); what a ZEROING channel keeps as it returns to IDLE is notes/assumptions/29.md; a HALT ALL still pending is dropped by the start (the model's choice: notes/assumptions/49.md). -/
def Obligations.StartsAreWarmOrCold : Prop :=
  (∀ s : State, s.power.phase = .off → s.power.rstLow = false → s.power.estopLow = false →
    s.rd.intact = false ∨ s.rd.check ≠ s.rd.crc →
    ∃ t : State, exec .powerUp s = .next t ∧
      t.rd = ⟨.fill 16 .cleared, List.finRange 16, 1, [], [], false, false, false, .fill 12 false, ⟨2000, 1, 1, 0, 0, 0⟩, 0,
        false, true, s.rd.check⟩ ∧
      t.scc = ⟨false, .fill 12 false, false⟩ ∧ t.til = ⟨.loading, none, Config.defaultParameters, s.til.flash⟩ ∧
      t.reu.events = [⟨.coldStart, 7, .nothing, if s.rd.intact = true then 2 else 1, 1, ⟨⟨2000, 1, 1, 0, 0, 0⟩, false⟩⟩] ∧
      t.reu.attn = true ∧ (∀ l, (t.lane l).state = .closed) ∧ t.power.phase = .running) ∧
  (∀ s : State, s.power.phase = .running → s.power.rstLow = false → s.power.estopLow = false → s.rd.intact = true →
    (∀ i, (s.ctx i).state = .free) →
    (∃ a b t : State, exec .pfailAssert s = .next a ∧ exec .mainPowerLoss a = .next b ∧ exec .powerUp b = .next t ∧
      t.rd = { s.rd with check := s.rd.crc } ∧
      (∀ l, (t.lane l).state = if s.rd.locks.get l = true then .locked else .closed) ∧
      t.scc.halt = s.rd.latch ∧ t.scc.cut = s.rd.locks) ∧
    ∃ b t : State, exec .mainPowerLoss s = .next b ∧ exec .powerUp b = .next t ∧
      t.rd.counter = 1 ∧ t.rd.records = [] ∧ t.rd.clockValid = false ∧ t.rd.locks = .fill 12 false) ∧
  (∀ s : State, s.power.phase = .off → s.power.rstLow = false → s.power.estopLow = false → s.rd.intact = true →
    s.rd.check = s.rd.crc → s.rd.latch = false →
    let v := State.startVolatile { s with power := { s.power with pfailLow := false } }
    let walk := fun (u : State) => (List.finRange 16).foldl State.walkContext u
    exec .powerUp s = .next (walk (v.queueEvent .warmStart .nothing
      ((walk v).rd.contexts.items.filter fun c => decide (c.state = .recovering)).length)).startLinks) ∧
  ∀ (s : State) (i : ContextId),
    let c := s.ctx i
    (c.state = .free → s.walkContext i = s) ∧
    (c.beforeDelivery → s.walkContext i = (s.setCtx i { c with held := false }).cancel i .restart) ∧
    (∀ rs : Triple ChannelRecord, c.channels = some rs →
      c.state = .delivering ∨ c.state = .ending ∨ c.state = .stopping ∨ c.state = .recovering ∨
        (c.state = .armed ∧ c.anyPastIdle = true) →
      let recover := fun (r : ChannelRecord) =>
        let r := { r with noFlow := none, settle := none, closeQueued := none }
        match r.state with
        | .zeroing => { r with state := .idle, points := none, endCause := none, awaiting := false }
        | .allocating | .opening | .flowing | .closing | .settling =>
          { r with state := .closing, endCause := some (r.endCause.getD .stopped), awaiting := true }
        | .idle | .done | .refused | .failed => r
      let u := s.setCtx i { c with
        held := false, state := .recovering, deadline := none, allocation := .clear,
        flags := { c.flags with recovered := true }, channels := some (rs.map recover) }
      ((∃ ch, (rs.get ch).state ∈ [ChannelState.allocating, .opening, .flowing, .closing, .settling]) → s.walkContext i = u) ∧
      ((∀ ch, (rs.get ch).awaiting = false ∧
          (rs.get ch).state ∉ [ChannelState.allocating, .opening, .flowing, .closing, .settling]) →
        s.walkContext i = u.closeContext i .byVolume false))

/-- R61, R188: a change of the clock's minute moves a legal reading on by what is left of its minute, month lengths and leap years included, so one put in before its minute is over passes over the seconds left (DESIGN CHOICE, notes/assumptions/45.md); the last minute of 2099 is followed by the first of 2000, the clock invalid. While the part works and the clock is valid every stand-in entry whose window has passed is removed; that none is removed while the part does not work is the model's reading (DEDUCED, notes/assumptions/28.md), since R61 asks only that the clock be valid. Nothing else changes. -/
def Obligations.MinuteChangesMoveTheClock : Prop :=
  ∀ s : State, s.rd.clock.legal = true →
    ∃ t : State, exec .clockMinuteChange s = .next t ∧
      t.rd.clock.legal = true ∧ t.rd.clock.second = 0 ∧ t.rd.clockTenths = 0 ∧
      (s.rd.clock.lastMinute = false →
        t.rd.clock.seconds + s.rd.clock.second = s.rd.clock.seconds + 60 ∧ t.rd.clockValid = s.rd.clockValid) ∧
      (s.rd.clock.lastMinute = true → t.rd.clock = ⟨2000, 1, 1, 0, 0, 0⟩ ∧ t.rd.clockValid = false) ∧
      t.rd.standIn = (if s.power.phase = .running ∧ t.rd.clockValid = true then
        s.rd.standIn.filter fun e => !decide (e.firstUse.seconds + 3600 * s.til.params.get 13 ≤ t.rd.clock.seconds)
        else s.rd.standIn) ∧
      t = { s with rd := { s.rd with
        clock := t.rd.clock, clockTenths := 0, clockValid := t.rd.clockValid, standIn := t.rd.standIn } }

/-! ### Limit and sale arithmetic (chapter 7) -/

/-- R133, R140: the stop point of an allowed volume is the largest pulse count whose volume does not exceed it, and the slow point the largest whose volume does not exceed the allowed volume less the slow volume, or 0; both are held at 4,294,967,295, and the slow point is never above the stop point. -/
def Obligations.PointsAreTheLargestAllowed : Prop :=
  ∀ allow slow k : Nat, 1 ≤ k →
    (∀ p : Nat, p ≤ 4294967295 → (volumeOf p k ≤ allow ↔ p ≤ (pointsFor allow slow k).stop)) ∧
    (slow < allow → ∀ p : Nat, p ≤ 4294967295 → (volumeOf p k ≤ allow - slow ↔ p ≤ (pointsFor allow slow k).slow)) ∧
    (allow ≤ slow → (pointsFor allow slow k).slow = 0) ∧
    (pointsFor allow slow k).slow ≤ (pointsFor allow slow k).stop ∧ (pointsFor allow slow k).stop ≤ 4294967295

/-- R137 to R139: no division gives more than the budget leaves: the volumes it gives, at the captured prices, and the volumes taken into account cost together at most the budget where the latter alone do; and no channel is given more than its part of its class. -/
def Obligations.DivisionsStayWithinTheBudget : Prop :=
  ∀ (c : Context) (cls : Product → ProductClass) (slow : Nat) (d : Division),
    let given := (c.divide cls slow d).map fun x => (x.map (·.volume)).getD 0
    ((c.cost d.volumes : Int) ≤ c.budget → (c.cost given : Int) + c.cost d.volumes ≤ c.budget) ∧
    (c.budget < (c.cost d.volumes : Int) → c.cost given = 0) ∧
    ∀ (ch : Channel) (part : Nat), c.part cls d ch = some part → given.get ch ≤ part

/-- R135, R145, R146: the 500 cu that the budget keeps back for each permitted product cover the rounding of the sale lines: a sale whose volumes cost no more than the budget, on permitted channels alone, totals no more than the approved amount. -/
def Obligations.SalesWithinTheBudgetStayWithinTheApproval : Prop :=
  ∀ c : Context,
    (∀ ch : Channel, (c.records.get ch).soldVolume ≠ 0 → c.permits (c.records.get ch) = true) →
    (c.cost (c.records.map ChannelRecord.soldVolume) : Int) ≤ c.budget →
    (c.saleLines.map (·.amount)).sum ≤ c.approved

/-- R88, R98: on an extending channel a head count that has risen by less than 32,768 since the last report extends the count to itself, and one that has risen by more shows a METER JUMP and adds nothing; after RESTARTED the report only replaces the last low-16 count; a channel that is not extending keeps both. -/
def Obligations.CountsAreExtended : Prop :=
  ∀ (r : ChannelRecord) (n : Nat), r.low16 = BitVec.ofNat 16 r.extended → r.extended ≤ n → n ≤ 4294967295 →
    (r.state.extending = true →
      (n < r.extended + 32768 →
        r.extend false (BitVec.ofNat 16 n) = { r with extended := n, low16 := BitVec.ofNat 16 n } ∧
          jumps r false (BitVec.ofNat 16 n) = false) ∧
      (r.extended + 32768 ≤ n → n < r.extended + 65536 →
        r.extend false (BitVec.ofNat 16 n) = { r with low16 := BitVec.ofNat 16 n } ∧
          jumps r false (BitVec.ofNat 16 n) = true) ∧
      ∀ low : BitVec 16, r.extend true low = { r with low16 := low } ∧ jumps r true low = false) ∧
    (r.state.extending = false → ∀ restarted low, r.extend restarted low = r ∧ jumps r restarted low = false)

/-! ### Invariants that every step keeps -/

/-- R154, R162, R175: whatever a step does, the outputs follow their rules after it where they did before it: HALT the all-stop latch, each cut line its lane's lock, ATTN its condition, and all asserted or released while a start waits. -/
def Obligations.OutputsAlwaysFollow : Prop :=
  ∀ s t : State, s.OutputsFollow → step s = .next t → t.OutputsFollow

/-- R1, R6, R24, R167: every step keeps the context pool sound: the free list holds each FREE context once and no other, and the record queue has room for the record of every context in use. -/
def Obligations.PoolStaysSound : Prop :=
  ∀ s t : State, s.PoolSound → step s = .next t → t.PoolSound

/-- R170 to R174: every step keeps the event queue sound: at most 32 events, no two of one kind and subject, counts in 1..255, and level 7 for the three fixed kinds alone. -/
def Obligations.EventQueueStaysSound : Prop :=
  ∀ s t : State, s.reu.Sound → step s = .next t → t.reu.Sound

/-- R91, R92: every step keeps the command lists sound: one command of a kind for a channel, the CLOSEs before the others. -/
def Obligations.CommandListsStaySound : Prop :=
  ∀ s t : State, s.ListsSound → step s = .next t → t.ListsSound

/-- R94, R153, R157: under the all-stop latch no OPEN and no RELEASE is ever queued, and a step that leaves the latch set begins to send none: one on the line was on it before. -/
def Obligations.NothingOpensUnderTheLatch : Prop :=
  ∀ s t : State, s.LatchClean → step s = .next t →
    t.LatchClean ∧
      (t.rd.latch = true → ∀ x, t.dlu.line = .sending x → x.command.any Command.opening = true → s.dlu.line = .sending x)

/-- R5, R67, R85, R96, R101, R188, R193, R197: every step keeps the site parameters in their ranges, the clock legal, the transaction counter in 1..4,294,967,295, the saturating counters at 65,535 or below, the arbiter's run count in 0..4 and its poll count in 0..3. -/
def Obligations.RangesAreAlwaysKept : Prop :=
  ∀ s t : State, s.RangesKept → step s = .next t → t.RangesKept

/-- Section 10.3: the state after reset meets every invariant, and is what a cold start leaves of a part whose indicator was found clear (the model's choice of the state after reset: notes/assumptions/3.md). -/
def Obligations.ResetMeetsTheInvariants : Prop :=
  State.reset.OutputsFollow ∧ State.reset.PoolSound ∧ State.reset.reu.Sound ∧ State.reset.ListsSound ∧
    State.reset.LatchClean ∧ State.reset.RangesKept ∧
    exec .powerUp { State.reset with
      power := { State.reset.power with phase := .off }
      rd := { State.reset.rd with intact := false } } = .next State.reset
end

