-- ==== Sys2Proof/Laws/Tab.lean ====
section
/-! SUPPORT. Reading after writing, for the tables, triples and pairs of fixed size. -/

namespace Sys2Proof

namespace Tab

variable {n : Nat} {α β : Type}

@[ext] theorem ext_get {t u : Tab n α} (h : ∀ i, t.get i = u.get i) : t = u := by
  obtain ⟨xs, hx⟩ := t
  obtain ⟨ys, hy⟩ := u
  congr
  apply List.ext_getElem (by rw [hx, hy])
  intro k hk _
  exact h ⟨k, by rw [← hx]; exact hk⟩

@[simp] theorem get_set_self (t : Tab n α) (i : Fin n) (a : α) : (t.set i a).get i = a := by
  simp [get, set]

theorem get_set_ne (t : Tab n α) {i j : Fin n} (h : i ≠ j) (a : α) : (t.set i a).get j = t.get j := by
  have : i.val ≠ j.val := fun e => h (Fin.ext e)
  simp [get, set, this]

theorem get_set (t : Tab n α) (i j : Fin n) (a : α) : (t.set i a).get j = if i = j then a else t.get j := by
  split
  · rename_i h
    rw [← h, get_set_self]
  · rename_i h
    exact get_set_ne t h a

@[simp] theorem set_get (t : Tab n α) (i : Fin n) : t.set i (t.get i) = t := by
  ext j
  rw [get_set]
  split
  · rename_i h
    rw [h]
  · rfl

@[simp] theorem get_map (f : α → β) (t : Tab n α) (i : Fin n) : (t.map f).get i = f (t.get i) := by
  simp [get, map]

@[simp] theorem get_fill (a : α) (i : Fin n) : (fill n a).get i = a := by
  simp [get, fill]

@[simp] theorem get_build (f : Fin n → α) (i : Fin n) : (build n f).get i = f i := by
  simp [get, build]

theorem get_modify (t : Tab n α) (i j : Fin n) (f : α → α) :
    (t.modify i f).get j = if i = j then f (t.get j) else t.get j := by
  rw [modify, get_set]
  split
  · rename_i h
    rw [h]
  · rfl

/-- A table's entries are those its indices give. -/
theorem mem_items {t : Tab n α} {a : α} : a ∈ t.items ↔ ∃ i, t.get i = a := by
  constructor
  · intro h
    obtain ⟨k, hk, rfl⟩ := List.mem_iff_getElem.mp h
    exact ⟨⟨k, by rw [← t.size]; exact hk⟩, rfl⟩
  · rintro ⟨i, rfl⟩
    exact List.getElem_mem _

end Tab

namespace Triple

variable {α β : Type}

@[simp] theorem get_set_self (t : Triple α) (ch : Channel) (x : α) : (t.set ch x).get ch = x := by cases ch <;> rfl

theorem get_set_ne (t : Triple α) {ch e : Channel} (h : ch ≠ e) (x : α) : (t.set ch x).get e = t.get e := by
  cases ch <;> cases e <;> first | rfl | exact absurd rfl h

@[simp] theorem get_map (f : α → β) (t : Triple α) (ch : Channel) : (t.map f).get ch = f (t.get ch) := by cases ch <;> rfl

@[simp] theorem get_fill (x : α) (ch : Channel) : (fill x).get ch = x := by cases ch <;> rfl

@[simp] theorem get_build (f : Channel → α) (ch : Channel) : (build f).get ch = f ch := by cases ch <;> rfl

theorem any_iff (p : α → Bool) (t : Triple α) : t.any p = true ↔ ∃ ch, p (t.get ch) = true := by
  simp only [any, Bool.or_eq_true]
  constructor
  · rintro ((h | h) | h)
    exacts [⟨.a, h⟩, ⟨.b, h⟩, ⟨.c, h⟩]
  · rintro ⟨ch, h⟩
    cases ch
    exacts [.inl (.inl h), .inl (.inr h), .inr h]

end Triple

/-- The saturating counters stay within their maximum. -/
theorem saturating_le (max n : Nat) : saturating max n ≤ max := by
  unfold saturating; split <;> omega

/-- The link counters stay within 65,535. -/
theorem countUp_le (n : Nat) : countUp n ≤ 65535 := saturating_le _ _

end Sys2Proof
end

