-- ==== Sys2Proof/Laws/Work.lean ====
section
/-! SUPPORT. Work taken inside one command: how `drain` and `finish` unfold, and what they keep. -/

namespace Sys2Proof.Machine

open Sys2Proof

@[simp] theorem drain_nil (n : Nat) (s : State) : drain n [] s = some s := by cases n <;> rfl

theorem drain_cons (n : Nat) (w : Work) (ws : List Work) (s : State) :
    drain (n + 1) (w :: ws) s = drain n ((handle w s).2 ++ ws) (handle w s).1 := rfl

/-- A step that leaves no work of its own. -/
theorem drain_quiet {n : Nat} {w : Work} {ws : List Work} {s t : State} (h : handle w s = (t, [])) :
    drain (n + 1) (w :: ws) s = drain n ws t := by rw [drain_cons, h]; rfl

/-- More room changes no answer. -/
theorem drain_mono : ∀ {n m : Nat} {ws : List Work} {s t : State}, n ≤ m → drain n ws s = some t → drain m ws s = some t := by
  intro n
  induction n with
  | zero =>
    intro m ws s t _ h
    cases ws with
    | nil => simpa using h
    | cons w ws => simp [drain] at h
  | succ n ih =>
    intro m ws s t hm h
    cases ws with
    | nil => simpa using h
    | cons w ws =>
      obtain ⟨m, rfl⟩ : ∃ k, m = k + 1 := ⟨m - 1, by omega⟩
      rw [drain_cons] at h ⊢
      exact ih (by omega) h

/-- The answer of `finish`: the state that `drain` gives. -/
theorem finish_next {ws : List Work} {s t : State} : finish ws s = .next t ↔ drain workBound ws s = some t := by
  unfold finish
  cases drain workBound ws s <;> simp

/-- `finish` refuses nothing. -/
theorem finish_ne_refused (ws : List Work) (s : State) (r : Refusal) : finish ws s ≠ .refused r := by
  unfold finish
  cases drain workBound ws s <;> simp

@[simp] theorem finish_nil (s : State) : finish [] s = .next s := by simp [finish]

/-- Work that fits a small bound is done. -/
theorem finish_of_drain {n : Nat} {ws : List Work} {s t : State} (hn : n ≤ workBound) (h : drain n ws s = some t) :
    finish ws s = .next t := finish_next.mpr (drain_mono hn h)

/-- A property that every piece of work keeps is kept by all the work of a command. -/
theorem drain_keeps {P : State → Prop} (h : ∀ w s, P s → P (handle w s).1) :
    ∀ {n : Nat} {ws : List Work} {s t : State}, drain n ws s = some t → P s → P t := by
  intro n
  induction n with
  | zero =>
    intro ws s t hd hs
    cases ws with
    | nil =>
      rw [drain_nil] at hd
      cases hd
      exact hs
    | cons w ws => simp [drain] at hd
  | succ n ih =>
    intro ws s t hd hs
    cases ws with
    | nil =>
      rw [drain_nil] at hd
      cases hd
      exact hs
    | cons w ws => exact ih (drain_cons n w ws s ▸ hd) (h w s hs)

/-- A property that every piece of work keeps is kept by a command that `finish` ends. -/
theorem finish_keeps {P : State → Prop} (h : ∀ w s, P s → P (handle w s).1) {ws : List Work} {s t : State}
    (hd : finish ws s = .next t) (hs : P s) : P t := drain_keeps h (finish_next.mp hd) hs

/-- A property that every piece of good work keeps, where good work gives good work, is kept by good work. -/
theorem drain_keeps_good {P : State → Prop} {Q : Work → Prop}
    (h : ∀ w s, Q w → P s → P (handle w s).1 ∧ ∀ v ∈ (handle w s).2, Q v) :
    ∀ {n : Nat} {ws : List Work} {s t : State}, drain n ws s = some t → (∀ w ∈ ws, Q w) → P s → P t := by
  intro n
  induction n with
  | zero =>
    intro ws s t hd _ hs
    cases ws with
    | nil =>
      rw [drain_nil] at hd
      cases hd
      exact hs
    | cons w ws => simp [drain] at hd
  | succ n ih =>
    intro ws s t hd hq hs
    cases ws with
    | nil =>
      rw [drain_nil] at hd
      cases hd
      exact hs
    | cons w ws =>
      obtain ⟨hp, hv⟩ := h w s (hq w (List.mem_cons_self ..)) hs
      refine ih (drain_cons n w ws s ▸ hd) ?_ hp
      intro v hm
      rcases List.mem_append.mp hm with hm | hm
      · exact hv v hm
      · exact hq v (List.mem_cons_of_mem _ hm)

/-- The same of a command that `finish` ends. -/
theorem finish_keeps_good {P : State → Prop} {Q : Work → Prop}
    (h : ∀ w s, Q w → P s → P (handle w s).1 ∧ ∀ v ∈ (handle w s).2, Q v) {ws : List Work} {s t : State}
    (hd : finish ws s = .next t) (hq : ∀ w ∈ ws, Q w) (hs : P s) : P t :=
  drain_keeps_good h (finish_next.mp hd) hq hs

end Sys2Proof.Machine
end

