-- ==== Sys2Proof/Laws/Outside.lean ====
section
/-! SUPPORT. What the work of delivery control and the closing of contexts leave as they are: one lemma per shared operation. -/

namespace Sys2Proof.Machine

open Sys2Proof

/-- The state that closing a context and the work inside a command never touch. -/
structure Outside where
  hlu : HostUnit
  csu : CardUnit
  til : LoaderUnit
  power : PowerUnit
  pending : List Instr
  halt : Bool
  estopHeld : Bool
  levels : Tab 20 Nat
  mask : Nat
  latch : Bool
  sourceHost : Bool
  sourceEstop : Bool
  counter : Nat
  clock : DateTime
  clockTenths : Nat
  clockValid : Bool
  intact : Bool
  check : BitVec 16
  online : Bool
  silence : Option Timer
  termLine : TerminalLine
  lastOffline : TerminalId
  lastOnline : TerminalId

/-- The outside of a state. -/
def State.outside (s : State) : Outside :=
  { hlu := s.hlu, csu := s.csu, til := s.til, power := s.power, pending := s.pending, halt := s.scc.halt,
    estopHeld := s.scc.estopHeld, levels := s.reu.levels, mask := s.reu.mask, latch := s.rd.latch,
    sourceHost := s.rd.sourceHost, sourceEstop := s.rd.sourceEstop, counter := s.rd.counter, clock := s.rd.clock,
    clockTenths := s.rd.clockTenths, clockValid := s.rd.clockValid, intact := s.rd.intact, check := s.rd.check,
    online := s.ae.online, silence := s.ae.silence, termLine := s.tlu.line, lastOffline := s.tlu.lastOffline,
    lastOnline := s.tlu.lastOnline }

variable (s : State)

set_option maxRecDepth 10000

/-! ### Single updates -/

@[simp] theorem State.outside_setCtx (i : ContextId) (c : Context) : (s.setCtx i c).outside = s.outside := rfl
@[simp] theorem State.outside_modCtx (i : ContextId) (f : Context → Context) : (s.modCtx i f).outside = s.outside := rfl
@[simp] theorem State.outside_modChannel (i : ContextId) (ch : Channel) (f : ChannelRecord → ChannelRecord) :
    (s.modChannel i ch f).outside = s.outside := rfl
@[simp] theorem State.outside_setLane (l : LaneId) (x : Lane) : (s.setLane l x).outside = s.outside := rfl
@[simp] theorem State.outside_modLane (l : LaneId) (f : Lane → Lane) : (s.modLane l f).outside = s.outside := rfl
@[simp] theorem State.outside_modLaneChannel (l : LaneId) (ch : Channel) (f : LaneChannel → LaneChannel) :
    (s.modLaneChannel l ch f).outside = s.outside := rfl
@[simp] theorem State.outside_modTerm (t : TerminalId) (f : Terminal → Terminal) : (s.modTerm t f).outside = s.outside := rfl
@[simp] theorem State.outside_modHead (h : HeadId) (f : Head → Head) : (s.modHead h f).outside = s.outside := rfl
@[simp] theorem State.outside_setCommands (h : HeadId) (cs : List Command) : (s.setCommands h cs).outside = s.outside := rfl
@[simp] theorem State.outside_setLine (x : DispenserLine) : (s.setLine x).outside = s.outside := rfl
@[simp] theorem State.outside_testAttn : s.testAttn.outside = s.outside := rfl
@[simp] theorem State.outside_appendRecord (r : Record) : (s.appendRecord r).outside = s.outside := rfl
@[simp] theorem State.outside_freeContext (i : ContextId) : (s.freeContext i).outside = s.outside := rfl
@[simp] theorem State.outside_lockLane (l : LaneId) : (s.lockLane l).outside = s.outside := rfl
@[simp] theorem State.outside_showOn (t : TerminalId) (m : Message) : (s.showOn t m).outside = s.outside := rfl

/-- An occurrence changes neither the levels nor the mask. -/
theorem EventUnit.occur_keeps (u : EventUnit) (k : EventKind) (sub : Subject) (d : Nat) (now : Stamp) :
    (u.occur k sub d now).levels = u.levels ∧ (u.occur k sub d now).mask = u.mask := by
  simp only [EventUnit.occur]
  repeat' split
  all_goals exact ⟨rfl, rfl⟩

@[simp] theorem State.outside_queueEvent (k : EventKind) (sub : Subject) (d : Nat) :
    (s.queueEvent k sub d).outside = s.outside := by
  obtain ⟨h1, h2⟩ := EventUnit.occur_keeps s.reu k sub d s.stamp
  simp only [State.queueEvent, State.outside, State.testAttn, h1, h2]

/-! ### Prices, lanes, closing -/

@[simp] theorem State.outside_settlePrices : s.settlePrices.outside = s.outside := by
  unfold State.settlePrices; split <;> rfl

@[simp] theorem State.outside_adopt (l : LaneId) : (s.adopt l).outside = s.outside := by
  simp only [State.adopt, State.outside_queueEvent]; rfl

@[simp] theorem State.outside_adoptIfListed (l : LaneId) : (s.adoptIfListed l).outside = s.outside := by
  unfold State.adoptIfListed; split <;> simp

@[simp] theorem State.outside_testFaultStop (l : LaneId) : (s.testFaultStop l).outside = s.outside := by
  unfold State.testFaultStop; split <;> simp

@[simp] theorem State.outside_releaseLane (l : LaneId) : (s.releaseLane l).outside = s.outside := by
  unfold State.releaseLane; split <;> simp

@[simp] theorem State.outside_writeRecord (i : ContextId) (p : ClosePath) : (s.writeRecord i p).outside = s.outside := by
  simp only [State.writeRecord, State.outside_appendRecord]; split <;> simp

@[simp] theorem State.outside_unbind (x : Option LaneId) (lock : Bool) : (s.unbind x lock).outside = s.outside := by
  cases x with
  | none => rfl
  | some l => cases lock <;> simp [State.unbind]

@[simp] theorem State.outside_sayClosing (t : Option TerminalId) (m : Option Message) :
    (s.sayClosing t m).outside = s.outside := by
  cases t <;> cases m <;> rfl

/-- Closing a context touches nothing outside (R24). -/
@[simp] theorem State.outside_closeContext (i : ContextId) (p : ClosePath) (lock : Bool) :
    (s.closeContext i p lock).outside = s.outside := by
  simp [State.closeContext]

@[simp] theorem State.outside_cancel (i : ContextId) (r : Reason) : (s.cancel i r).outside = s.outside := by
  simp [State.cancel]

@[simp] theorem State.outside_testEnding (i : ContextId) : (s.testEnding i).outside = s.outside := by
  unfold State.testEnding; split <;> simp

@[simp] theorem State.outside_enterEnding (i : ContextId) : (s.enterEnding i).outside = s.outside := by
  simp only [State.enterEnding]; split <;> simp

@[simp] theorem State.outside_changedArmed (i : ContextId) : (s.changedArmed i).outside = s.outside := by
  simp only [State.changedArmed]; repeat' split
  all_goals simp

/-- The Transaction Manager's tests touch nothing outside. -/
@[simp] theorem State.outside_contextChanged (i : ContextId) : (s.contextChanged i).outside = s.outside := by
  simp only [State.contextChanged]
  repeat' split
  all_goals simp

@[simp] theorem State.outside_tellFreely (t : TerminalId) (m : Message) : (s.tellFreely t m).outside = s.outside := by
  simp only [State.tellFreely]; split <;> simp

@[simp] theorem State.outside_tell (i : ContextId) (m : Message) : (s.tell i m).outside = s.outside := by
  unfold State.tell; repeat' split
  all_goals simp

/-! ### The work -/

@[simp] theorem State.outside_withChannel (i : ContextId) (ch : Channel) (f : ChannelRecord → ChannelRecord) (ws : List Work) :
    (s.withChannel i ch f ws).1.outside = s.outside := rfl

@[simp] theorem State.outside_join (c : Command) : (s.join c).1.outside = s.outside := rfl

@[simp] theorem State.outside_queueCommand (c : Command) : (s.queueCommand c).1.outside = s.outside := by
  unfold State.queueCommand; repeat' split
  all_goals simp

@[simp] theorem State.outside_zeroOutcome (c : Command) (n : Nat) (o : CommandOutcome) :
    (s.zeroOutcome c n o).1.outside = s.outside := by
  unfold State.zeroOutcome
  rcases s.activeRecord c with _ | ⟨i, m, r⟩
  · rfl
  · dsimp only
    split
    · rfl
    · cases o <;> rfl

@[simp] theorem State.outside_limitAccepted (i : ContextId) (n : Nat) (ch : Channel) (p : Points) (b : Bool) (k : Nat) :
    (s.limitAccepted i n ch p b k).1.outside = s.outside := by
  unfold State.limitAccepted; split <;> rfl

@[simp] theorem State.outside_limitOutcome (c : Command) (p : Points) (b : Bool) (o : CommandOutcome) :
    (s.limitOutcome c p b o).1.outside = s.outside := by
  unfold State.limitOutcome
  rcases s.activeRecord c with _ | ⟨i, m, r⟩ <;> rcases o with _ | _ | (_ | _) | _ <;> first | rfl | simp

@[simp] theorem State.outside_openOutcome (c : Command) (o : CommandOutcome) : (s.openOutcome c o).1.outside = s.outside := by
  unfold State.openOutcome
  rcases s.activeRecord c with _ | ⟨i, m, r⟩ <;> rcases o with _ | _ | (_ | _) | _ <;>
    first | rfl | (dsimp only; split <;> rfl)

@[simp] theorem State.outside_faultCloseAccepted (l : LaneId) (ch : Channel) :
    (s.faultCloseAccepted l ch).outside = s.outside := by
  unfold State.faultCloseAccepted; split <;> rfl

@[simp] theorem State.outside_closeOutcome (c : Command) (b : Bool) (o : CommandOutcome) :
    (s.closeOutcome c b o).1.outside = s.outside := by
  have h : ((if b then s.faultCloseAccepted c.lane c.channel else s) : State).outside = s.outside := by
    cases b <;> simp
  unfold State.closeOutcome
  rcases o with _ | _ | (_ | _) | _
  · simp only
    revert h
    generalize ((if b then s.faultCloseAccepted c.lane c.channel else s) : State) = u
    intro h
    rcases u.activeRecord c with _ | ⟨i, m, r⟩ <;> exact h
  all_goals rcases s.activeRecord c with _ | ⟨i, m, r⟩ <;> rfl

@[simp] theorem State.outside_finalAccepted (i : ContextId) (n : Nat) (c : Command) (r : ChannelRecord) (k : BitVec 32) :
    (s.finalAccepted i n c r k).1.outside = s.outside := by
  unfold State.finalAccepted; split <;> rfl

@[simp] theorem State.outside_finalOutcome (c : Command) (o : CommandOutcome) : (s.finalOutcome c o).1.outside = s.outside := by
  unfold State.finalOutcome
  rcases s.activeRecord c with _ | ⟨i, m, r⟩ <;> rcases o with _ | _ | (_ | _) | _ <;>
    first | rfl | (dsimp only; split <;> simp)

@[simp] theorem State.outside_takeOutcome (c : Command) (o : CommandOutcome) : (s.takeOutcome c o).1.outside = s.outside := by
  unfold State.takeOutcome
  split
  · rfl
  · rcases c.payload <;> simp

/-- One step after another keeps what each of them keeps. -/
theorem State.gather_keeps {α β : Type} {g : State → β} {f : State → α → State × List Work}
    (h : ∀ s x, g (f s x).1 = g s) : ∀ (xs : List α) (s : State), g (s.gather f xs).1 = g s
  | [], _ => rfl
  | x :: xs, s => (State.gather_keeps h xs (f s x).1).trans (h s x)

@[simp] theorem State.outside_faultContext (i : ContextId) (k : FaultKind) : (s.faultContext i k).1.outside = s.outside := by
  simp only [State.faultContext]; repeat' split
  all_goals simp

@[simp] theorem State.outside_firstFault (l : LaneId) (k : FaultKind) : (s.firstFault l k).1.outside = s.outside := by
  simp only [State.firstFault]; split <;> simp

@[simp] theorem State.outside_emptyLists : ∀ (hs : List HeadId) (s : State), (s.emptyLists hs).1.outside = s.outside
  | [], _ => rfl
  | h :: hs, s => (State.outside_emptyLists hs (s.setCommands h [])).trans (by simp)

@[simp] theorem State.outside_cutLine (hs : List HeadId) : (s.cutLine hs).outside = s.outside := by
  unfold State.cutLine; split <;> rfl

@[simp] theorem State.outside_lockout (hs : List HeadId) : (s.lockout hs).1.outside = s.outside := by
  simp [State.lockout]

@[simp] theorem State.outside_takeFault (l : LaneId) (k : FaultKind) : (s.takeFault l k).1.outside = s.outside := by
  unfold State.takeFault State.secondFault; split <;> simp

@[simp] theorem State.outside_faultCloseOne (l : LaneId) (k : FaultKind) (ch : Channel) :
    (s.faultCloseOne l k ch).1.outside = s.outside := by
  simp only [State.faultCloseOne]; repeat' split
  all_goals simp

@[simp] theorem State.outside_queueFaultCloses (l : LaneId) (k : FaultKind) :
    (s.queueFaultCloses l k).1.outside = s.outside := by
  unfold State.queueFaultCloses; split
  · exact State.gather_keeps (g := State.outside) (fun s ch => State.outside_faultCloseOne s l k ch) _ s
  · rfl

@[simp] theorem State.outside_closeByLockout (i : ContextId) (n : Nat) : (s.closeByLockout i n).1.outside = s.outside := by
  unfold State.closeByLockout; split <;> simp

@[simp] theorem State.outside_stopChannel (i : ContextId) (k : EndCause) (ch : Channel) :
    (State.stopChannel i k s ch).1.outside = s.outside := by
  unfold State.stopChannel; split <;> simp

@[simp] theorem State.outside_enterStopping (i : ContextId) (n : Nat) (k : EndCause) :
    (s.enterStopping i n k).1.outside = s.outside := by
  unfold State.enterStopping; split
  · exact (State.gather_keeps (g := State.outside) (fun s ch => State.outside_stopChannel s i k ch) _ _).trans (by simp)
  · rfl

@[simp] theorem State.outside_hostStop (i : ContextId) (r : Reason) : (s.hostStop i r).1.outside = s.outside := by
  simp only [State.hostStop]; repeat' split
  all_goals simp

@[simp] theorem State.outside_allStopContext (i : ContextId) : (s.allStopContext i).1.outside = s.outside := by
  simp only [State.allStopContext]; repeat' split
  all_goals simp

@[simp] theorem State.outside_beginAllocation (i : ContextId) (n : Nat) : (s.beginAllocation i n).1.outside = s.outside := by
  simp [State.beginAllocation]

@[simp] theorem State.outside_takeTrigger (i : ContextId) (n : Nat) (b : Bool) : (s.takeTrigger i n b).1.outside = s.outside := by
  simp only [State.takeTrigger]; repeat' split
  all_goals simp

@[simp] theorem State.outside_testLowered (i : ContextId) (n : Nat) : (s.testLowered i n).1.outside = s.outside := by
  unfold State.testLowered; split <;> simp

@[simp] theorem State.outside_raiseChannel (i : ContextId) (n : Nat) (ch : Channel) (x : Option Share) :
    (s.raiseChannel i n ch x).1.outside = s.outside := by
  simp only [State.raiseChannel]; repeat' split
  all_goals simp

@[simp] theorem State.outside_endAllocation (i : ContextId) (n : Nat) : (s.endAllocation i n).1.outside = s.outside := by
  simp only [State.endAllocation]; repeat' split
  all_goals simp

@[simp] theorem State.outside_takeReport (x : Handed) : (s.takeReport x).1.outside = s.outside := by
  simp only [State.takeReport]; split <;> simp

@[simp] theorem State.outside_takeLift (i : ContextId) (x : Handed) : (s.takeLift i x).1.outside = s.outside := by
  simp only [State.takeLift]; repeat' split
  all_goals simp

@[simp] theorem State.outside_countZero (i : ContextId) (x : Handed) (r : ChannelRecord) :
    (s.countZero i x r).1.outside = s.outside := by
  simp only [State.countZero, State.zeroFailed]; repeat' split
  all_goals simp

@[simp] theorem State.outside_takeHangUp (i : ContextId) (x : Handed) (r : ChannelRecord) :
    (s.takeHangUp i x r).1.outside = s.outside := by
  simp only [State.takeHangUp]; repeat' split
  all_goals simp

@[simp] theorem State.outside_takeFlowing (i : ContextId) (x : Handed) (r : ChannelRecord) :
    (s.takeFlowing i x r).1.outside = s.outside := by
  simp only [State.takeFlowing]; repeat' split
  all_goals simp

@[simp] theorem State.outside_takeClosing (i : ContextId) (x : Handed) : (s.takeClosing i x).1.outside = s.outside := by
  unfold State.takeClosing; split <;> simp

@[simp] theorem State.outside_actOnReport (x : Handed) : (s.actOnReport x).1.outside = s.outside := by
  simp only [State.actOnReport]; repeat' split
  all_goals simp

@[simp] theorem State.outside_noteReport (x : Handed) : (s.noteReport x).1.outside = s.outside := by
  simp [State.noteReport]

@[simp] theorem State.outside_unquiet (l : LaneId) (ch : Channel) : (s.unquiet l ch).outside = s.outside := by
  unfold State.unquiet; split <;> simp

@[simp] theorem State.outside_loseChannel (l : LaneId) (ch : Channel) : (s.loseChannel l ch).1.outside = s.outside := by
  simp only [State.loseChannel]; repeat' split
  all_goals simp

@[simp] theorem State.outside_captureFailure (h : HeadId) (ch : Option HeadChannel) (k : ExchangeKind) (f : FailureKind) :
    (s.captureFailure h ch k f).outside = s.outside := by
  unfold State.captureFailure; split
  · rfl
  · simp only [State.outside_queueEvent]; rfl

@[simp] theorem State.outside_pollHead (h : HeadId) (b : Bool) (n : Nat) : (s.pollHead h b n).outside = s.outside := by
  simp only [State.pollHead]; split <;> rfl

@[simp] theorem State.outside_choosePoll : s.choosePoll.outside = s.outside := by
  unfold State.choosePoll; repeat' split
  all_goals simp

@[simp] theorem State.outside_choose : s.choose.1.outside = s.outside := by
  unfold State.choose; repeat' split
  all_goals first | rfl | simp

@[simp] theorem State.outside_arbitrate : s.arbitrate.1.outside = s.outside := by
  unfold State.arbitrate
  split
  · have h := State.outside_choose s
    split <;> rename_i e <;> rw [e] at h <;> exact h
  · rfl

/-- No piece of work touches the outside. -/
theorem handle_outside (w : Work) (s : State) : (handle w s).1.outside = s.outside := by
  cases w <;> simp [handle, State.dropOpen, State.discardCommands, State.loseHead]
  split <;> simp

/-- The work of a command touches nothing outside. -/
theorem finish_outside {ws : List Work} {s t : State} (h : finish ws s = .next t) : t.outside = s.outside :=
  finish_keeps (P := fun u => u.outside = s.outside) (fun w u hu => (handle_outside w u).trans hu) h rfl

end Sys2Proof.Machine
end

