-- ==== Sys2Proof/Laws/Contexts.lean ====
section
/-! SUPPORT. What closing, approving, declining and offering a context do to the pool, the records and the request list, said once. -/

namespace Sys2Proof.Machine

open Sys2Proof

/-- The part of the state that lanes, prices, terminals and events never touch. -/
structure Inside where
  contexts : Tab 16 Context
  freeList : List ContextId
  counter : Nat
  records : List Record
  standIn : List StandInEntry
  requests : List ContextId
  dlu : DispenserUnit

/-- The inside of a state. -/
def State.inside (s : State) : Inside :=
  { contexts := s.rd.contexts, freeList := s.rd.freeList, counter := s.rd.counter, records := s.rd.records,
    standIn := s.rd.standIn, requests := s.ae.requests, dlu := s.dlu }

variable (s : State)

@[simp] theorem State.inside_setLane (l : LaneId) (x : Lane) : (s.setLane l x).inside = s.inside := rfl
@[simp] theorem State.inside_modLane (l : LaneId) (f : Lane → Lane) : (s.modLane l f).inside = s.inside := rfl
@[simp] theorem State.inside_modLaneChannel (l : LaneId) (ch : Channel) (f : LaneChannel → LaneChannel) :
    (s.modLaneChannel l ch f).inside = s.inside := rfl
@[simp] theorem State.inside_modTerm (t : TerminalId) (f : Terminal → Terminal) : (s.modTerm t f).inside = s.inside := rfl
@[simp] theorem State.inside_setTermLine (x : TerminalLine) : (s.setTermLine x).inside = s.inside := rfl
@[simp] theorem State.inside_testAttn : s.testAttn.inside = s.inside := rfl
@[simp] theorem State.inside_queueEvent (k : EventKind) (sub : Subject) (d : Nat) :
    (s.queueEvent k sub d).inside = s.inside := rfl
@[simp] theorem State.inside_showOn (t : TerminalId) (m : Message) : (s.showOn t m).inside = s.inside := rfl
@[simp] theorem State.inside_interjectOn (t : TerminalId) (m : Message) : (s.interjectOn t m).inside = s.inside := rfl
@[simp] theorem State.inside_lockLane (l : LaneId) : (s.lockLane l).inside = s.inside := rfl

@[simp] theorem State.inside_settlePrices : s.settlePrices.inside = s.inside := by
  unfold State.settlePrices; split <;> rfl

@[simp] theorem State.inside_adopt (l : LaneId) : (s.adopt l).inside = s.inside := rfl

@[simp] theorem State.inside_adoptIfListed (l : LaneId) : (s.adoptIfListed l).inside = s.inside := by
  unfold State.adoptIfListed; split <;> simp

@[simp] theorem State.inside_testFaultStop (l : LaneId) : (s.testFaultStop l).inside = s.inside := by
  unfold State.testFaultStop; split <;> simp

@[simp] theorem State.inside_releaseLane (l : LaneId) : (s.releaseLane l).inside = s.inside := by
  unfold State.releaseLane; split <;> simp

@[simp] theorem State.inside_unbind (x : Option LaneId) (lock : Bool) : (s.unbind x lock).inside = s.inside := by
  cases x with
  | none => rfl
  | some l => cases lock <;> simp [State.unbind]

@[simp] theorem State.inside_sayClosing (t : Option TerminalId) (m : Option Message) :
    (s.sayClosing t m).inside = s.inside := by
  cases t <;> cases m <;> rfl

@[simp] theorem State.inside_sayLift (i : ContextId) : (s.sayLift i).inside = s.inside := by
  unfold State.sayLift; split <;> simp

@[simp] theorem State.inside_tellFreely (t : TerminalId) (m : Message) : (s.tellFreely t m).inside = s.inside := by
  simp only [State.tellFreely]; split <;> simp

@[simp] theorem State.inside_tell (i : ContextId) (m : Message) : (s.tell i m).inside = s.inside := by
  unfold State.tell; repeat' split
  all_goals simp

/-! ### Closing -/

/-- A context whose total passes the approved amount has its flag set before its record is built (R24, R146). -/
def Context.marked (c : Context) (p : ClosePath) : Context :=
  if c.overApproved (c.recordKind p) then c.flagOverLimit else c

/-- The record that a closing appends (R24, R166). -/
def State.closingRecord (s : State) (i : ContextId) (p : ClosePath) : Record :=
  ((s.ctx i).marked p).toRecord ((s.ctx i).recordKind p) s.stamp

/-- What writing a record leaves: the record at the queue's tail, the OVER LIMIT flag in the context, nothing else inside. -/
theorem State.inside_writeRecord (i : ContextId) (p : ClosePath) :
    (s.writeRecord i p).inside =
      { s.inside with contexts := s.rd.contexts.set i ((s.ctx i).marked p), records := s.rd.records ++ [s.closingRecord i p] } := by
  have h : s.rd.contexts.set i (s.ctx i) = s.rd.contexts := Tab.set_get _ _
  simp only [State.writeRecord, State.closingRecord, Context.marked]
  split
  · have e : ((s.modCtx i Context.flagOverLimit).queueEvent .overLimit (laneSubject (s.ctx i).lane) 0).ctx i =
        (s.ctx i).flagOverLimit := by
      simp [State.queueEvent, State.testAttn, State.modCtx, State.setCtx, State.ctx]
    simp only [e]
    rfl
  · rw [h]
    rfl

/-- Closing a context: it is cleared and joins the tail of the free list, its record joins the record queue, it leaves the request list; every other context, the counter, the stand-in list and the dispenser link stay (R24). -/
theorem State.inside_closeContext (i : ContextId) (p : ClosePath) (lock : Bool) :
    (s.closeContext i p lock).inside =
      { s.inside with
        contexts := s.rd.contexts.set i .cleared
        freeList := s.rd.freeList ++ [i]
        records := s.rd.records ++ [s.closingRecord i p]
        requests := s.ae.requests.filter fun j => decide (j ≠ i) } := by
  have h := State.inside_writeRecord s i p
  have set_set : ∀ (t : Tab 16 Context) (a b : Context), (t.set i a).set i b = t.set i b := by
    intro t a b
    ext j
    simp only [Tab.get_set]
    split <;> rfl
  have e : ∀ u : State, (u.freeContext i).inside =
      { u.inside with
        contexts := u.inside.contexts.set i .cleared
        freeList := u.inside.freeList ++ [i]
        requests := u.inside.requests.filter fun j => decide (j ≠ i) } := fun _ => rfl
  simp only [State.closeContext, State.inside_sayClosing, State.inside_unbind, State.inside_testAttn, e, h, set_set]
  rfl

theorem State.closeContext_ctx (i j : ContextId) (p : ClosePath) (lock : Bool) :
    (s.closeContext i p lock).ctx j = if i = j then .cleared else s.ctx j := by
  have h := congrArg Inside.contexts (State.inside_closeContext s i p lock)
  show (s.closeContext i p lock).inside.contexts.get j = _
  rw [h]
  exact Tab.get_set _ _ _ _

theorem State.closeContext_freeList (i : ContextId) (p : ClosePath) (lock : Bool) :
    (s.closeContext i p lock).rd.freeList = s.rd.freeList ++ [i] :=
  congrArg Inside.freeList (State.inside_closeContext s i p lock)

theorem State.closeContext_records (i : ContextId) (p : ClosePath) (lock : Bool) :
    (s.closeContext i p lock).rd.records = s.rd.records ++ [s.closingRecord i p] :=
  congrArg Inside.records (State.inside_closeContext s i p lock)

theorem State.closeContext_requests (i : ContextId) (p : ClosePath) (lock : Bool) :
    (s.closeContext i p lock).ae.requests = s.ae.requests.filter fun j => decide (j ≠ i) :=
  congrArg Inside.requests (State.inside_closeContext s i p lock)

theorem State.closeContext_dlu (i : ContextId) (p : ClosePath) (lock : Bool) : (s.closeContext i p lock).dlu = s.dlu :=
  congrArg Inside.dlu (State.inside_closeContext s i p lock)

theorem State.modCtx_ctx (i j : ContextId) (f : Context → Context) :
    (s.modCtx i f).ctx j = if i = j then f (s.ctx j) else s.ctx j := by
  rw [State.modCtx, State.setCtx, State.ctx, Tab.get_set]
  split
  · rename_i h
    rw [h]
  · rfl

/-- A cancellation or decline: the context is cleared, every other stays. -/
theorem State.cancel_ctx (i j : ContextId) (r : Reason) : (s.cancel i r).ctx j = if i = j then .cleared else s.ctx j := by
  rw [State.cancel, State.closeContext_ctx]
  split
  · rfl
  · rename_i h
    rw [State.modCtx_ctx, if_neg h]

theorem State.decline_ctx (i j : ContextId) (r : Reason) : (s.decline i r).ctx j = if i = j then .cleared else s.ctx j := by
  rw [State.decline, State.closeContext_ctx]
  split
  · rfl
  · rename_i h
    rw [State.modCtx_ctx, if_neg h]

theorem State.declineBy_ctx (i j : ContextId) (x : DecisionSource) (r : Reason) :
    (s.declineBy i x r).ctx j = if i = j then .cleared else s.ctx j := by
  rw [State.declineBy, State.decline_ctx]
  split
  · rfl
  · rename_i h
    rw [State.modCtx_ctx, if_neg h]

/-! ### Approval (R16) -/

/-- An approval arms its context and takes it from the request list; nothing else inside changes (R16). -/
theorem State.inside_approve (i : ContextId) (x : DecisionSource) (a : Approval) :
    (s.approve i x a).inside =
      { s.inside with
        contexts := s.rd.contexts.set i ((s.ctx i).arm x a s.armTime)
        requests := s.ae.requests.filter fun j => decide (j ≠ i) } := by
  simp only [State.approve, State.inside_testAttn, State.inside_sayLift]
  rfl

theorem State.approve_ctx (i j : ContextId) (x : DecisionSource) (a : Approval) :
    (s.approve i x a).ctx j = if i = j then (s.ctx i).arm x a s.armTime else s.ctx j := by
  have h := congrArg Inside.contexts (State.inside_approve s i x a)
  show (s.approve i x a).inside.contexts.get j = _
  rw [h]
  exact Tab.get_set _ _ _ _

/-! ### The stand-in check (R58, R59) -/

theorem State.useStandIn_ctx (i j : ContextId) : (s.useStandIn i).ctx j = s.ctx j := by
  simp only [State.useStandIn]
  split <;> rfl

theorem State.useStandIn_armTime (i : ContextId) : (s.useStandIn i).armTime = s.armTime := by
  simp only [State.useStandIn]
  split <;> rfl

/-- The stand-in check approves or declines its context, and touches no other (R58). -/
theorem State.standInCheck_ctx (i j : ContextId) (o : Origin) :
    (s.standInCheck i o).ctx j =
      if i = j then
        (match s.sweepStandIn.standInRefusal (s.ctx i) o with
         | some _ => .cleared
         | none => (s.ctx i).arm .standIn ((s.ctx i).ownApproval (Nat.min (s.ctx i).standInAmount (s.ctx i).requested)) s.armTime)
      else s.ctx j := by
  have e : ∀ k, s.sweepStandIn.ctx k = s.ctx k := fun _ => rfl
  have t : s.sweepStandIn.armTime = s.armTime := rfl
  simp only [State.standInCheck, e]
  cases s.sweepStandIn.standInRefusal (s.ctx i) o with
  | some r => simp only [State.declineBy_ctx, e]
  | none => simp only [State.approve_ctx, State.useStandIn_ctx, State.useStandIn_armTime, e, t]

end Sys2Proof.Machine
end

