-- ==== Sys2Proof/Laws/Events.lean ====
section
/-! SUPPORT. The event queue: what an occurrence leaves in it (R170 to R172). -/

namespace Sys2Proof.Machine

open Sys2Proof

/-- The queue without its lowest event holds nothing new, and one event less where one below level 7 stood there. -/
theorem removeLowest_sublist (es : List Event) : (removeLowest es).Sublist es := by
  unfold removeLowest
  split
  · exact List.eraseP_sublist
  · exact List.Sublist.refl _

/-- An occurrence changes neither the levels nor the mask nor ATTN. -/
theorem EventUnit.occur_rest (u : EventUnit) (k : EventKind) (sub : Subject) (d : Nat) (now : Stamp) :
    (u.occur k sub d now).levels = u.levels ∧ (u.occur k sub d now).mask = u.mask ∧ (u.occur k sub d now).attn = u.attn := by
  simp only [EventUnit.occur]
  repeat' split
  all_goals exact ⟨rfl, rfl, rfl⟩

/-- An event of the queue after an occurrence stood there before, is one gathered into, or is the occurrence itself. -/
theorem EventUnit.mem_occur {u : EventUnit} {k : EventKind} {sub : Subject} {d : Nat} {now : Stamp} {e : Event}
    (h : e ∈ (u.occur k sub d now).events) :
    e ∈ u.events ∨ (∃ f ∈ u.events, sameOccurrence k sub f = true ∧ e = coalesce (u.levels.get k.index) d now f) ∨
      e = ⟨k, u.levels.get k.index, sub, d, 1, now⟩ := by
  simp only [EventUnit.occur] at h
  split at h
  · exact .inl h
  · split at h
    · obtain ⟨f, hf, rfl⟩ := List.mem_map.mp h
      split
      · rename_i hs
        exact .inr (.inl ⟨f, hf, hs, rfl⟩)
      · exact .inl hf
    · split at h
      · rcases List.mem_append.mp h with h | h
        · exact .inl h
        · exact .inr (.inr (List.mem_singleton.mp h))
      · split at h
        · rcases List.mem_append.mp h with h | h
          · exact .inl ((removeLowest_sublist u.events).subset h)
          · exact .inr (.inr (List.mem_singleton.mp h))
        · exact .inl h

/-- Gathering keeps an event's kind and subject. -/
@[simp] theorem coalesce_key (l d : Nat) (now : Stamp) (e : Event) :
    (coalesce l d now e).kind = e.kind ∧ (coalesce l d now e).subject = e.subject := ⟨rfl, rfl⟩

end Sys2Proof.Machine
end

