-- ==== Sys2Proof/Laws/HostLink.lean ====
section
/-! SUPPORT. A request taken at once, said once: what its frame does, and the reply that follows. -/

namespace Sys2Proof.Machine

open Sys2Proof

variable {s : State}

/-! ### What hearing a frame and replying leave as it was -/

@[simp] theorem State.heard_rd (s : State) : s.heard.rd = s.rd := rfl
@[simp] theorem State.heard_tlu (s : State) : s.heard.tlu = s.tlu := rfl
@[simp] theorem State.heard_csu (s : State) : s.heard.csu = s.csu := rfl
@[simp] theorem State.heard_dcu (s : State) : s.heard.dcu = s.dcu := rfl
@[simp] theorem State.heard_lau (s : State) : s.heard.lau = s.lau := rfl
@[simp] theorem State.heard_dlu (s : State) : s.heard.dlu = s.dlu := rfl
@[simp] theorem State.heard_scc (s : State) : s.heard.scc = s.scc := rfl
@[simp] theorem State.heard_reu (s : State) : s.heard.reu = s.reu := rfl
@[simp] theorem State.heard_til (s : State) : s.heard.til = s.til := rfl
@[simp] theorem State.heard_power (s : State) : s.heard.power = s.power := rfl
@[simp] theorem State.heard_pending (s : State) : s.heard.pending = s.pending := rfl
@[simp] theorem State.heard_hlu_holding (s : State) : s.heard.hlu.holding = s.hlu.holding := rfl
@[simp] theorem State.heard_hlu_answering (s : State) : s.heard.hlu.answering = s.hlu.answering := rfl
@[simp] theorem State.heard_hlu_restarting (s : State) : s.heard.hlu.restarting = s.hlu.restarting := rfl
@[simp] theorem State.heard_hlu_errors (s : State) : s.heard.hlu.errors = s.hlu.errors := rfl
@[simp] theorem State.heard_ae_online (s : State) : s.heard.ae.online = s.ae.online := rfl
@[simp] theorem State.heard_ae_requests (s : State) : s.heard.ae.requests = s.ae.requests := rfl
@[simp] theorem State.heard_ctx (s : State) : s.heard.ctx = s.ctx := rfl
@[simp] theorem State.heard_lane (s : State) : s.heard.lane = s.lane := rfl
@[simp] theorem State.heard_term (s : State) : s.heard.term = s.term := rfl
@[simp] theorem State.heard_head (s : State) : s.heard.head = s.head := rfl
@[simp] theorem State.heard_param (s : State) : s.heard.param = s.param := rfl
@[simp] theorem State.heard_bound (s : State) : s.heard.bound = s.bound := rfl
@[simp] theorem State.heard_heldContext (s : State) : s.heard.heldContext = s.heldContext := rfl
@[simp] theorem State.heard_setup (s : State) : s.heard.setup = s.setup := rfl
@[simp] theorem State.heard_stamp (s : State) : s.heard.stamp = s.stamp := rfl
@[simp] theorem State.heard_attnCondition (s : State) : s.heard.attnCondition = s.attnCondition := rfl
@[simp] theorem State.heard_offeredCount (s : State) : s.heard.offeredCount = s.offeredCount := rfl
@[simp] theorem State.heard_inUseCount (s : State) : s.heard.inUseCount = s.inUseCount := rfl
@[simp] theorem State.heard_findTransaction (s : State) : s.heard.findTransaction = s.findTransaction := rfl
@[simp] theorem State.heard_findRecord (s : State) : s.heard.findRecord = s.findRecord := rfl
@[simp] theorem State.heard_laneRecord (s : State) : s.heard.laneRecord = s.laneRecord := rfl
@[simp] theorem State.heard_standInWindow (s : State) : s.heard.standInWindow = s.standInWindow := rfl
@[simp] theorem State.heard_armTime (s : State) : s.heard.armTime = s.armTime := rfl
@[simp] theorem State.heard_displayTime (s : State) : s.heard.displayTime = s.displayTime := rfl
@[simp] theorem State.heard_loading (s : State) : s.heard.loading = s.loading := rfl
@[simp] theorem State.heard_saving (s : State) : s.heard.saving = s.saving := rfl
@[simp] theorem State.heard_someBound (s : State) : s.heard.someBound = s.someBound := rfl
@[simp] theorem State.heard_laneReport (s : State) : s.heard.laneReport = s.laneReport := rfl
@[simp] theorem State.heard_pendingLimit (s : State) : s.heard.pendingLimit = s.pendingLimit := rfl
@[simp] theorem State.heard_statusReport (s : State) : s.heard.statusReport = s.statusReport := rfl
@[simp] theorem State.heard_productClass (s : State) : s.heard.productClass = s.productClass := rfl
@[simp] theorem State.heard_slowVolume (s : State) : s.heard.slowVolume = s.slowVolume := rfl
@[simp] theorem State.heard_headLocked (s : State) : s.heard.headLocked = s.headLocked := rfl
@[simp] theorem State.heard_servedBy (s : State) : s.heard.servedBy = s.servedBy := rfl
@[simp] theorem State.heard_terminalLanes (s : State) : s.heard.terminalLanes = s.terminalLanes := rfl

@[simp] theorem State.replied_rd (s : State) (c t : Byte) (r : Reply) : (s.replied c t r).rd = s.rd := rfl
@[simp] theorem State.replied_tlu (s : State) (c t : Byte) (r : Reply) : (s.replied c t r).tlu = s.tlu := rfl
@[simp] theorem State.replied_csu (s : State) (c t : Byte) (r : Reply) : (s.replied c t r).csu = s.csu := rfl
@[simp] theorem State.replied_dcu (s : State) (c t : Byte) (r : Reply) : (s.replied c t r).dcu = s.dcu := rfl
@[simp] theorem State.replied_lau (s : State) (c t : Byte) (r : Reply) : (s.replied c t r).lau = s.lau := rfl
@[simp] theorem State.replied_dlu (s : State) (c t : Byte) (r : Reply) : (s.replied c t r).dlu = s.dlu := rfl
@[simp] theorem State.replied_scc (s : State) (c t : Byte) (r : Reply) : (s.replied c t r).scc = s.scc := rfl
@[simp] theorem State.replied_reu (s : State) (c t : Byte) (r : Reply) : (s.replied c t r).reu = s.reu := rfl
@[simp] theorem State.replied_til (s : State) (c t : Byte) (r : Reply) : (s.replied c t r).til = s.til := rfl
@[simp] theorem State.replied_power (s : State) (c t : Byte) (r : Reply) : (s.replied c t r).power = s.power := rfl
@[simp] theorem State.replied_pending (s : State) (c t : Byte) (r : Reply) : (s.replied c t r).pending = s.pending := rfl
@[simp] theorem State.replied_ae (s : State) (c t : Byte) (r : Reply) : (s.replied c t r).ae = s.ae := rfl
@[simp] theorem State.replied_hlu_receiver (s : State) (c t : Byte) (r : Reply) : (s.replied c t r).hlu.receiver = s.hlu.receiver := rfl
@[simp] theorem State.replied_hlu_holding (s : State) (c t : Byte) (r : Reply) : (s.replied c t r).hlu.holding = s.hlu.holding := rfl
@[simp] theorem State.replied_hlu_restarting (s : State) (c t : Byte) (r : Reply) : (s.replied c t r).hlu.restarting = s.hlu.restarting := rfl
@[simp] theorem State.replied_hlu_errors (s : State) (c t : Byte) (r : Reply) : (s.replied c t r).hlu.errors = s.hlu.errors := rfl
@[simp] theorem State.replied_answering (s : State) (c t : Byte) (r : Reply) : (s.replied c t r).hlu.answering = some ⟨c, t, r⟩ := rfl
@[simp] theorem State.replied_ctx (s : State) (c t : Byte) (r : Reply) : (s.replied c t r).ctx = s.ctx := rfl
@[simp] theorem State.replied_lane (s : State) (c t : Byte) (r : Reply) : (s.replied c t r).lane = s.lane := rfl
@[simp] theorem State.replied_term (s : State) (c t : Byte) (r : Reply) : (s.replied c t r).term = s.term := rfl
@[simp] theorem State.replied_head (s : State) (c t : Byte) (r : Reply) : (s.replied c t r).head = s.head := rfl
@[simp] theorem State.replied_attnCondition (s : State) (c t : Byte) (r : Reply) : (s.replied c t r).attnCondition = s.attnCondition := rfl

/-- A frame's completion restarts the host-silence timer and hunts (R46, R192). -/
theorem State.frameDone_eq (s : State) : s.frameDone = s.heard := rfl

/-- A request in whose way nothing stands is served on the state its frame leaves, and its reply goes on the line. -/
theorem State.arrive_takes (h : s.takes) (f : HostFrame) :
    s.arrive f = finish (s.heard.serveFrame f).works
      ((s.heard.serveFrame f).state.replied (answerCode (requestCode f.request)) f.tag (s.heard.serveFrame f).reply) := by
  obtain ⟨h1, h2, h3⟩ := h
  have hl : s.listens = true := by simp [State.listens, State.working, h1, h2]
  have ha : s.heard.hlu.answering = none := h3
  simp only [State.arrive, hl, State.receive, State.frameDone_eq, ha, Option.isNone_none, if_true, State.takeFrame]
  rfl

/-- The same where the length is good. -/
theorem State.arrive_good (h : s.takes) {f : HostFrame} (hf : lengthGood f = true) :
    s.arrive f = finish (s.heard.serveRequest f.request).works
      ((s.heard.serveRequest f.request).state.replied (answerCode (requestCode f.request)) f.tag
        (s.heard.serveRequest f.request).reply) := by
  rw [State.arrive_takes h, State.serveFrame, if_pos hf]

/-- The answer to a request that leaves no work. -/
theorem State.arrive_done (h : s.takes) {f : HostFrame} (hf : lengthGood f = true)
    (hw : (s.heard.serveRequest f.request).works = []) :
    s.arrive f = .next ((s.heard.serveRequest f.request).state.replied (answerCode (requestCode f.request)) f.tag
        (s.heard.serveRequest f.request).reply) := by
  rw [State.arrive_good h hf, hw, finish_nil]

end Sys2Proof.Machine
end

