-- ==== Sys2Proof/Laws/Image.lean ====
section
/-! SUPPORT. The site table image and the retained check: the length of the image's body, what a save's image reads back as, and when the check matches. -/

namespace Sys2Proof.Machine

open Sys2Proof

/-! ### The image (section 10.6) -/

/-- Entries of one size, one after another. -/
theorem length_flatMap_const {α : Type} {f : α → List Byte} {k : Nat} (h : ∀ x, (f x).length = k) (xs : List α) :
    (xs.flatMap f).length = xs.length * k := by
  induction xs with
  | nil => simp
  | cons x xs ih => rw [List.flatMap_cons, List.length_append, ih, h, List.length_cons]; ring

@[simp] theorem bigEndian_length (size n : Nat) : (bigEndian size n).length = size := by simp [bigEndian]

@[simp] theorem padded_length (size : Nat) (bs : List Byte) : (padded size bs).length = size := by
  simp only [padded, List.length_take, List.length_append, List.length_replicate]; omega

@[simp] theorem rangeBytes_length (e : RangeEntry) : (rangeBytes e).length = 12 := by simp [rangeBytes]
@[simp] theorem Program.bytes_length (p : Program) : p.bytes.length = 29 := by simp [Program.bytes]
@[simp] theorem denyBytes_length (ds : Digits) : (denyBytes ds).length = 20 := by simp [denyBytes]
@[simp] theorem ProductEntry.bytes_length (e : ProductEntry) : e.bytes.length = 5 := by simp [ProductEntry.bytes]
@[simp] theorem setupBytes_length (x : Option ChannelSetup) : (setupBytes x).length = 6 := by cases x <;> simp [setupBytes]
@[simp] theorem LaneConfig.bytes_length (c : LaneConfig) : c.bytes.length = 20 := by simp [LaneConfig.bytes]

/-- The body of the image is 7,892 bytes long (section 10.6). -/
theorem SiteImage.bytes_length (x : SiteImage) : x.bytes.length = 7892 := by
  simp only [SiteImage.bytes, List.length_append, length_flatMap_const rangeBytes_length,
    length_flatMap_const Program.bytes_length, length_flatMap_const denyBytes_length,
    length_flatMap_const ProductEntry.bytes_length, length_flatMap_const LaneConfig.bytes_length,
    length_flatMap_const (bigEndian_length 2), Tab.size]

@[simp] theorem FlashImage.write_length (b : SiteImage) : (FlashImage.write b).length = imageLength := rfl
@[simp] theorem FlashImage.write_body (b : SiteImage) : (FlashImage.write b).body = b := rfl

/-- What a save writes reads back with its CRC good (R190). -/
@[simp] theorem FlashImage.write_checkGood (b : SiteImage) : (FlashImage.write b).checkGood = true := by
  simp [FlashImage.checkGood, FlashImage.write]

/-- A load reads what a save wrote (R189, R190). -/
@[simp] theorem readImage_write (b : SiteImage) : readImage true (some (.write b)) = .ok b := by simp [readImage]

/-- A flash that does not answer. -/
@[simp] theorem readImage_silent (x : Option FlashImage) : readImage false x = .error 1 := by cases x <;> rfl

/-! ### The retained check (R180) -/

/-- The check is not taken over itself, nor over the clock's running reading. -/
theorem Retained.crc_eq (r : Retained) (t : DateTime) (n : Nat) (c : BitVec 16) :
    ({ r with clock := t, clockTenths := n, check := c } : Retained).crc = r.crc := rfl

@[simp] theorem Retained.crc_check (r : Retained) (c : BitVec 16) : ({ r with check := c } : Retained).crc = r.crc := rfl

@[simp] theorem Retained.writeCheck_matches (r : Retained) : r.writeCheck.matches = true := by
  simp [Retained.writeCheck, Retained.matches]

/-- A loss of main power without PFAIL leaves a check that does not match. -/
@[simp] theorem Retained.unmatched_matches (r : Retained) : r.unmatched.matches = false := by
  have ne : ∀ x : BitVec 16, ~~~x ≠ x := fun x h => by
    have := congrArg (·.getLsbD 0) h
    simp at this
  simp only [Retained.unmatched, Retained.matches, Retained.crc_check]
  refine decide_eq_false ?_
  split
  · rename_i h
    rw [← h]
    exact ne _
  · assumption

end Sys2Proof.Machine
end

