-- ==== Sys2Proof/Laws/Link.lean ====
section
/-! SUPPORT. The command lists and the arbiter: what joins a list, and what the arbiter leaves to do. -/

namespace Sys2Proof.Machine

open Sys2Proof

variable {s t : State}

/-! ### Lists -/

/-- A rotation holds every entry. -/
@[simp] theorem mem_rotateFrom {n : Nat} (i pos : Fin n) : i ∈ rotateFrom pos := by
  simp only [rotateFrom, List.mem_append, List.mem_filter, List.mem_finRange, true_and, decide_eq_true_eq]
  exact lt_or_ge pos i

/-- An entry of a list that a command joined is the command or stood there before. -/
theorem mem_joinList {cs : List Command} {c d : Command} (h : d ∈ joinList cs c) : d = c ∨ d ∈ cs := by
  unfold joinList at h
  split at h
  · obtain ⟨e, he, rfl⟩ := List.mem_map.mp h
    split
    · exact .inl rfl
    · exact .inr he
  · split at h
    · simp only [List.mem_append, List.mem_filter, List.mem_cons] at h
      rcases h with ⟨⟨h, _⟩, _⟩ | rfl | ⟨⟨h, _⟩, _⟩
      · exact .inr h
      · exact .inl rfl
      · exact .inr h
    · simpa [or_comm] using h

/-- A command withdrawn as another joins stood in the list and is a release command. -/
theorem mem_joinWithdrawn {cs : List Command} {c d : Command} (h : d ∈ joinWithdrawn cs c) : d ∈ cs ∧ d.releasing = true := by
  unfold joinWithdrawn at h
  split at h
  · cases h
  · split at h
    · simp only [withdrawnBy, List.mem_filter, Bool.and_eq_true] at h
      exact ⟨h.1, h.2.2⟩
    · cases h

/-- Nothing but the list of one head changes when its list is set. -/
theorem State.setCommands_head (s : State) (h j : HeadId) (cs : List Command) :
    (s.setCommands h cs).head j = if h = j then { s.head j with commands := cs } else s.head j := by
  simp only [State.setCommands, State.modHead, State.setHead, State.head, Tab.get_set]
  split
  · rename_i e
    rw [e]
  · rfl

/-! ### The latch -/

/-- `LatchClean` looks at the latch and the dispenser link alone. -/
theorem State.LatchClean.of_eq (h : s.LatchClean) (hl : t.rd.latch = s.rd.latch) (hd : t.dlu = s.dlu) : t.LatchClean := by
  intro h1 j c hc
  rw [hl] at h1
  exact h h1 j c (by simpa [State.head, hd] using hc)

/-- Setting a list of some of the entries that stood there keeps `LatchClean`. -/
theorem State.LatchClean.setCommands (h : s.LatchClean) (j : HeadId) {cs : List Command}
    (hs : ∀ c ∈ cs, c ∈ (s.head j).commands) : (s.setCommands j cs).LatchClean := by
  intro hl k c hc
  rw [State.setCommands_head] at hc
  split at hc
  · rename_i e
    exact h hl j c (hs c hc)
  · exact h hl k c hc

/-! ### The arbiter -/

/-- In a rotation an entry nearer after the position comes first (R96). -/
theorem rotateFrom_pairwise :
    ∀ pos : HeadId, (rotateFrom pos).Pairwise fun x y => (x.val + 23 - pos.val) % 24 < (y.val + 23 - pos.val) % 24 := by decide

/-- The first head after a position with a property is the one a rotation from it finds (R95, R96). -/
theorem find_rotateFrom {pos h : HeadId} {p : HeadId → Bool} (hp : firstAfter pos h fun g => p g = true) :
    (rotateFrom pos).find? p = some h := by
  obtain ⟨a, b, e⟩ := List.append_of_mem (mem_rotateFrom h pos)
  refine List.find?_eq_some_iff_append.mpr ⟨hp.1, a, b, e, fun g hg => ?_⟩
  by_contra hc
  have near := hp.2 g (by simpa using hc)
  have before := rotateFrom_pairwise pos
  rw [e] at before
  have := (List.pairwise_append.mp before).2.2 g hg h (List.mem_cons_self ..)
  omega

/-- A head's activity, as the statements say it (R81). -/
theorem State.headActive_iff (s : State) (h : HeadId) : s.headActive h = true ↔ s.isActive h := by
  have past : ∀ x : ChannelState, x.pastIdle = decide (x ≠ .idle ∧ x ≠ .refused) := by intro x; cases x <;> decide
  simp only [State.headActive, State.isActive, List.any_eq_true, Bool.or_eq_true, decide_eq_true_eq, or_assoc, past]

/-- A head that serves a LOCKED lane (R91, R94). -/
theorem State.headLocked_iff (s : State) (h : HeadId) : s.headLocked h = true ↔ ∃ q ∈ s.servedBy h, (s.lane q.1).state = .locked := by
  simp [State.headLocked]

/-- What serving a head leaves: its entry on the line, the rest in its list (R93, R95). -/
theorem State.serve_eq (s : State) (h : HeadId) (c : Command) (rest : List Command) (run : Nat) :
    s.serve h c rest run =
      let left := s.setHead h { s.head h with commands := rest }
      { left with dlu := { left.dlu with
        commandPos := h, runCount := run, cutByStop := false, cutByLock := false, line := .sending ⟨h, some c, s.retriesFor h⟩ } } := by
  have : (s.setCommands h rest).retriesFor h = s.retriesFor h := by
    simp only [State.retriesFor, State.setCommands_head, if_true]
    rfl
  simp only [State.serve, this]
  rfl

/-- Where no OPEN and no RELEASE stands in a list under the latch, one choice of the arbiter removes nothing. -/
theorem State.choose_works (h : s.LatchClean) : s.choose.2 = none := by
  unfold State.choose
  split
  · rfl
  · split
    · rfl
    · rename_i hd run hc
      split
      · rfl
      · rename_i c rest hcs
        have : (s.rd.latch && c.opening) = false := by
          cases hl : s.rd.latch with
          | false => rfl
          | true => rw [h hl hd c (by rw [hcs]; simp)]; rfl
        rw [this]
        rfl

/-- It then leaves no work. -/
theorem State.arbitrate_works (h : s.LatchClean) : s.arbitrate.2 = [] := by
  unfold State.arbitrate
  split
  · generalize hx : s.choose = x
    obtain ⟨u, o⟩ := x
    have : o = none := by
      have := State.choose_works h
      rw [hx] at this
      exact this
    rw [this]
  · rfl

/-- A command that ends with the arbiter's choice. -/
theorem finish_arbitrate (h : s.LatchClean) : finish [.arbitrate] s = .next s.arbitrate.1 := by
  apply finish_of_drain (n := 1) (by decide)
  rw [drain_cons]
  change drain 0 (s.arbitrate.2 ++ []) s.arbitrate.1 = _
  rw [State.arbitrate_works h]
  rfl

/-- A link that is not quiet, or a part that does not work, leaves the arbiter nothing. -/
theorem State.arbitrate_idle (h : s.dlu.line ≠ .quiet ∨ s.power.phase ≠ .running) : s.arbitrate = (s, []) := by
  unfold State.arbitrate
  have : (s.working && decide (s.dlu.line = .quiet)) = false := by
    rcases h with h | h <;> simp [State.working, h]
  rw [this]
  rfl

/-! ### Contexts -/

theorem Context.cancellable_iff (c : Context) : c.cancellable = true ↔ c.beforeDelivery := by
  unfold Context.cancellable Context.beforeDelivery
  cases c.state <;> simp

theorem State.cancel_dlu (s : State) (i : ContextId) (r : Reason) : (s.cancel i r).dlu = s.dlu := by
  rw [State.cancel, State.closeContext_dlu]
  rfl

/-- A context in use holds its own transaction (R2). -/
theorem State.holds_self (s : State) (i : ContextId) (h : (s.ctx i).state ≠ .free) : s.holds i (s.ctx i).transaction = true := by
  simp [State.holds, Context.inUse, h]

/-! ### What the readings of bindings and configurations depend on -/

/-- Bindings are read from the contexts alone. -/
theorem State.bound_congr (h : t.rd.contexts = s.rd.contexts) : t.bound = s.bound := by
  have : t.ctx = s.ctx := by funext i; simp only [State.ctx, h]
  funext l; unfold State.bound; rw [this]

/-- A channel's configuration in force is read from the contexts and the lane table. -/
theorem State.setup_congr (h : t.rd.contexts = s.rd.contexts) (hd : t.dcu = s.dcu) : t.setup = s.setup := by
  have h1 : t.ctx = s.ctx := by funext i; simp only [State.ctx, h]
  have h2 : t.lane = s.lane := by funext i; simp only [State.lane, hd]
  funext l ch; unfold State.setup; rw [State.bound_congr h, h1, h2]

/-- The channels a head serves are read from the contexts and the lane table. -/
theorem State.servedBy_congr (h : t.rd.contexts = s.rd.contexts) (hd : t.dcu = s.dcu) : t.servedBy = s.servedBy := by
  funext x; unfold State.servedBy; rw [State.setup_congr h hd]

/-- A lockout's mark on the line changes the mark alone. -/
@[simp] theorem State.cutLine_line (s : State) (hs : List HeadId) : (s.cutLine hs).dlu.line = s.dlu.line := by
  unfold State.cutLine; split <;> rfl
@[simp] theorem State.cutLine_heads (s : State) (hs : List HeadId) : (s.cutLine hs).dlu.heads = s.dlu.heads := by
  unfold State.cutLine; split <;> rfl

/-- A stop's mark on the line changes the mark alone. -/
@[simp] theorem State.cutOpening_line (s : State) : s.cutOpening.dlu.line = s.dlu.line := by
  unfold State.cutOpening; split <;> rfl
@[simp] theorem State.cutOpening_heads (s : State) : s.cutOpening.dlu.heads = s.dlu.heads := by
  unfold State.cutOpening; split <;> rfl
@[simp] theorem State.cutOpening_rd (s : State) : s.cutOpening.rd = s.rd := by
  unfold State.cutOpening; split <;> rfl
@[simp] theorem State.cutOpening_dcu (s : State) : s.cutOpening.dcu = s.dcu := by
  unfold State.cutOpening; split <;> rfl

end Sys2Proof.Machine
end

