-- ==== Sys2Proof/Laws/State.lean ====
section
/-! SUPPORT. One lemma per field per update of the state: what an update leaves as it was, and what it writes. -/

namespace Sys2Proof.Machine

open Sys2Proof

variable (s : State)

/-! ### setCtx -/

@[simp] theorem State.setCtx_rd_freeList (i : ContextId) (c : Context) : (s.setCtx i c).rd.freeList = s.rd.freeList := rfl
@[simp] theorem State.setCtx_rd_counter (i : ContextId) (c : Context) : (s.setCtx i c).rd.counter = s.rd.counter := rfl
@[simp] theorem State.setCtx_rd_records (i : ContextId) (c : Context) : (s.setCtx i c).rd.records = s.rd.records := rfl
@[simp] theorem State.setCtx_rd_standIn (i : ContextId) (c : Context) : (s.setCtx i c).rd.standIn = s.rd.standIn := rfl
@[simp] theorem State.setCtx_rd_latch (i : ContextId) (c : Context) : (s.setCtx i c).rd.latch = s.rd.latch := rfl
@[simp] theorem State.setCtx_rd_sourceHost (i : ContextId) (c : Context) : (s.setCtx i c).rd.sourceHost = s.rd.sourceHost := rfl
@[simp] theorem State.setCtx_rd_sourceEstop (i : ContextId) (c : Context) : (s.setCtx i c).rd.sourceEstop = s.rd.sourceEstop := rfl
@[simp] theorem State.setCtx_rd_locks (i : ContextId) (c : Context) : (s.setCtx i c).rd.locks = s.rd.locks := rfl
@[simp] theorem State.setCtx_rd_clock (i : ContextId) (c : Context) : (s.setCtx i c).rd.clock = s.rd.clock := rfl
@[simp] theorem State.setCtx_rd_clockTenths (i : ContextId) (c : Context) : (s.setCtx i c).rd.clockTenths = s.rd.clockTenths := rfl
@[simp] theorem State.setCtx_rd_clockValid (i : ContextId) (c : Context) : (s.setCtx i c).rd.clockValid = s.rd.clockValid := rfl
@[simp] theorem State.setCtx_rd_intact (i : ContextId) (c : Context) : (s.setCtx i c).rd.intact = s.rd.intact := rfl
@[simp] theorem State.setCtx_rd_check (i : ContextId) (c : Context) : (s.setCtx i c).rd.check = s.rd.check := rfl
@[simp] theorem State.setCtx_hlu (i : ContextId) (c : Context) : (s.setCtx i c).hlu = s.hlu := rfl
@[simp] theorem State.setCtx_tlu (i : ContextId) (c : Context) : (s.setCtx i c).tlu = s.tlu := rfl
@[simp] theorem State.setCtx_csu (i : ContextId) (c : Context) : (s.setCtx i c).csu = s.csu := rfl
@[simp] theorem State.setCtx_ae (i : ContextId) (c : Context) : (s.setCtx i c).ae = s.ae := rfl
@[simp] theorem State.setCtx_dcu (i : ContextId) (c : Context) : (s.setCtx i c).dcu = s.dcu := rfl
@[simp] theorem State.setCtx_lau (i : ContextId) (c : Context) : (s.setCtx i c).lau = s.lau := rfl
@[simp] theorem State.setCtx_dlu (i : ContextId) (c : Context) : (s.setCtx i c).dlu = s.dlu := rfl
@[simp] theorem State.setCtx_scc (i : ContextId) (c : Context) : (s.setCtx i c).scc = s.scc := rfl
@[simp] theorem State.setCtx_reu (i : ContextId) (c : Context) : (s.setCtx i c).reu = s.reu := rfl
@[simp] theorem State.setCtx_til (i : ContextId) (c : Context) : (s.setCtx i c).til = s.til := rfl
@[simp] theorem State.setCtx_power (i : ContextId) (c : Context) : (s.setCtx i c).power = s.power := rfl
@[simp] theorem State.setCtx_pending (i : ContextId) (c : Context) : (s.setCtx i c).pending = s.pending := rfl

/-! ### modCtx -/

@[simp] theorem State.modCtx_rd_freeList (i : ContextId) (f : Context → Context) : (s.modCtx i f).rd.freeList = s.rd.freeList := rfl
@[simp] theorem State.modCtx_rd_counter (i : ContextId) (f : Context → Context) : (s.modCtx i f).rd.counter = s.rd.counter := rfl
@[simp] theorem State.modCtx_rd_records (i : ContextId) (f : Context → Context) : (s.modCtx i f).rd.records = s.rd.records := rfl
@[simp] theorem State.modCtx_rd_standIn (i : ContextId) (f : Context → Context) : (s.modCtx i f).rd.standIn = s.rd.standIn := rfl
@[simp] theorem State.modCtx_rd_latch (i : ContextId) (f : Context → Context) : (s.modCtx i f).rd.latch = s.rd.latch := rfl
@[simp] theorem State.modCtx_rd_sourceHost (i : ContextId) (f : Context → Context) : (s.modCtx i f).rd.sourceHost = s.rd.sourceHost := rfl
@[simp] theorem State.modCtx_rd_sourceEstop (i : ContextId) (f : Context → Context) : (s.modCtx i f).rd.sourceEstop = s.rd.sourceEstop := rfl
@[simp] theorem State.modCtx_rd_locks (i : ContextId) (f : Context → Context) : (s.modCtx i f).rd.locks = s.rd.locks := rfl
@[simp] theorem State.modCtx_rd_clock (i : ContextId) (f : Context → Context) : (s.modCtx i f).rd.clock = s.rd.clock := rfl
@[simp] theorem State.modCtx_rd_clockTenths (i : ContextId) (f : Context → Context) : (s.modCtx i f).rd.clockTenths = s.rd.clockTenths := rfl
@[simp] theorem State.modCtx_rd_clockValid (i : ContextId) (f : Context → Context) : (s.modCtx i f).rd.clockValid = s.rd.clockValid := rfl
@[simp] theorem State.modCtx_rd_intact (i : ContextId) (f : Context → Context) : (s.modCtx i f).rd.intact = s.rd.intact := rfl
@[simp] theorem State.modCtx_rd_check (i : ContextId) (f : Context → Context) : (s.modCtx i f).rd.check = s.rd.check := rfl
@[simp] theorem State.modCtx_hlu (i : ContextId) (f : Context → Context) : (s.modCtx i f).hlu = s.hlu := rfl
@[simp] theorem State.modCtx_tlu (i : ContextId) (f : Context → Context) : (s.modCtx i f).tlu = s.tlu := rfl
@[simp] theorem State.modCtx_csu (i : ContextId) (f : Context → Context) : (s.modCtx i f).csu = s.csu := rfl
@[simp] theorem State.modCtx_ae (i : ContextId) (f : Context → Context) : (s.modCtx i f).ae = s.ae := rfl
@[simp] theorem State.modCtx_dcu (i : ContextId) (f : Context → Context) : (s.modCtx i f).dcu = s.dcu := rfl
@[simp] theorem State.modCtx_lau (i : ContextId) (f : Context → Context) : (s.modCtx i f).lau = s.lau := rfl
@[simp] theorem State.modCtx_dlu (i : ContextId) (f : Context → Context) : (s.modCtx i f).dlu = s.dlu := rfl
@[simp] theorem State.modCtx_scc (i : ContextId) (f : Context → Context) : (s.modCtx i f).scc = s.scc := rfl
@[simp] theorem State.modCtx_reu (i : ContextId) (f : Context → Context) : (s.modCtx i f).reu = s.reu := rfl
@[simp] theorem State.modCtx_til (i : ContextId) (f : Context → Context) : (s.modCtx i f).til = s.til := rfl
@[simp] theorem State.modCtx_power (i : ContextId) (f : Context → Context) : (s.modCtx i f).power = s.power := rfl
@[simp] theorem State.modCtx_pending (i : ContextId) (f : Context → Context) : (s.modCtx i f).pending = s.pending := rfl

/-! ### modChannel -/

@[simp] theorem State.modChannel_rd_freeList (i : ContextId) (ch : Channel) (f : ChannelRecord → ChannelRecord) : (s.modChannel i ch f).rd.freeList = s.rd.freeList := rfl
@[simp] theorem State.modChannel_rd_counter (i : ContextId) (ch : Channel) (f : ChannelRecord → ChannelRecord) : (s.modChannel i ch f).rd.counter = s.rd.counter := rfl
@[simp] theorem State.modChannel_rd_records (i : ContextId) (ch : Channel) (f : ChannelRecord → ChannelRecord) : (s.modChannel i ch f).rd.records = s.rd.records := rfl
@[simp] theorem State.modChannel_rd_standIn (i : ContextId) (ch : Channel) (f : ChannelRecord → ChannelRecord) : (s.modChannel i ch f).rd.standIn = s.rd.standIn := rfl
@[simp] theorem State.modChannel_rd_latch (i : ContextId) (ch : Channel) (f : ChannelRecord → ChannelRecord) : (s.modChannel i ch f).rd.latch = s.rd.latch := rfl
@[simp] theorem State.modChannel_rd_sourceHost (i : ContextId) (ch : Channel) (f : ChannelRecord → ChannelRecord) : (s.modChannel i ch f).rd.sourceHost = s.rd.sourceHost := rfl
@[simp] theorem State.modChannel_rd_sourceEstop (i : ContextId) (ch : Channel) (f : ChannelRecord → ChannelRecord) : (s.modChannel i ch f).rd.sourceEstop = s.rd.sourceEstop := rfl
@[simp] theorem State.modChannel_rd_locks (i : ContextId) (ch : Channel) (f : ChannelRecord → ChannelRecord) : (s.modChannel i ch f).rd.locks = s.rd.locks := rfl
@[simp] theorem State.modChannel_rd_clock (i : ContextId) (ch : Channel) (f : ChannelRecord → ChannelRecord) : (s.modChannel i ch f).rd.clock = s.rd.clock := rfl
@[simp] theorem State.modChannel_rd_clockTenths (i : ContextId) (ch : Channel) (f : ChannelRecord → ChannelRecord) : (s.modChannel i ch f).rd.clockTenths = s.rd.clockTenths := rfl
@[simp] theorem State.modChannel_rd_clockValid (i : ContextId) (ch : Channel) (f : ChannelRecord → ChannelRecord) : (s.modChannel i ch f).rd.clockValid = s.rd.clockValid := rfl
@[simp] theorem State.modChannel_rd_intact (i : ContextId) (ch : Channel) (f : ChannelRecord → ChannelRecord) : (s.modChannel i ch f).rd.intact = s.rd.intact := rfl
@[simp] theorem State.modChannel_rd_check (i : ContextId) (ch : Channel) (f : ChannelRecord → ChannelRecord) : (s.modChannel i ch f).rd.check = s.rd.check := rfl
@[simp] theorem State.modChannel_hlu (i : ContextId) (ch : Channel) (f : ChannelRecord → ChannelRecord) : (s.modChannel i ch f).hlu = s.hlu := rfl
@[simp] theorem State.modChannel_tlu (i : ContextId) (ch : Channel) (f : ChannelRecord → ChannelRecord) : (s.modChannel i ch f).tlu = s.tlu := rfl
@[simp] theorem State.modChannel_csu (i : ContextId) (ch : Channel) (f : ChannelRecord → ChannelRecord) : (s.modChannel i ch f).csu = s.csu := rfl
@[simp] theorem State.modChannel_ae (i : ContextId) (ch : Channel) (f : ChannelRecord → ChannelRecord) : (s.modChannel i ch f).ae = s.ae := rfl
@[simp] theorem State.modChannel_dcu (i : ContextId) (ch : Channel) (f : ChannelRecord → ChannelRecord) : (s.modChannel i ch f).dcu = s.dcu := rfl
@[simp] theorem State.modChannel_lau (i : ContextId) (ch : Channel) (f : ChannelRecord → ChannelRecord) : (s.modChannel i ch f).lau = s.lau := rfl
@[simp] theorem State.modChannel_dlu (i : ContextId) (ch : Channel) (f : ChannelRecord → ChannelRecord) : (s.modChannel i ch f).dlu = s.dlu := rfl
@[simp] theorem State.modChannel_scc (i : ContextId) (ch : Channel) (f : ChannelRecord → ChannelRecord) : (s.modChannel i ch f).scc = s.scc := rfl
@[simp] theorem State.modChannel_reu (i : ContextId) (ch : Channel) (f : ChannelRecord → ChannelRecord) : (s.modChannel i ch f).reu = s.reu := rfl
@[simp] theorem State.modChannel_til (i : ContextId) (ch : Channel) (f : ChannelRecord → ChannelRecord) : (s.modChannel i ch f).til = s.til := rfl
@[simp] theorem State.modChannel_power (i : ContextId) (ch : Channel) (f : ChannelRecord → ChannelRecord) : (s.modChannel i ch f).power = s.power := rfl
@[simp] theorem State.modChannel_pending (i : ContextId) (ch : Channel) (f : ChannelRecord → ChannelRecord) : (s.modChannel i ch f).pending = s.pending := rfl

/-! ### setLane -/

@[simp] theorem State.setLane_rd (l : LaneId) (x : Lane) : (s.setLane l x).rd = s.rd := rfl
@[simp] theorem State.setLane_hlu (l : LaneId) (x : Lane) : (s.setLane l x).hlu = s.hlu := rfl
@[simp] theorem State.setLane_tlu (l : LaneId) (x : Lane) : (s.setLane l x).tlu = s.tlu := rfl
@[simp] theorem State.setLane_csu (l : LaneId) (x : Lane) : (s.setLane l x).csu = s.csu := rfl
@[simp] theorem State.setLane_ae (l : LaneId) (x : Lane) : (s.setLane l x).ae = s.ae := rfl
@[simp] theorem State.setLane_lau (l : LaneId) (x : Lane) : (s.setLane l x).lau = s.lau := rfl
@[simp] theorem State.setLane_dlu (l : LaneId) (x : Lane) : (s.setLane l x).dlu = s.dlu := rfl
@[simp] theorem State.setLane_scc (l : LaneId) (x : Lane) : (s.setLane l x).scc = s.scc := rfl
@[simp] theorem State.setLane_reu (l : LaneId) (x : Lane) : (s.setLane l x).reu = s.reu := rfl
@[simp] theorem State.setLane_til (l : LaneId) (x : Lane) : (s.setLane l x).til = s.til := rfl
@[simp] theorem State.setLane_power (l : LaneId) (x : Lane) : (s.setLane l x).power = s.power := rfl
@[simp] theorem State.setLane_pending (l : LaneId) (x : Lane) : (s.setLane l x).pending = s.pending := rfl

/-! ### modLane -/

@[simp] theorem State.modLane_rd (l : LaneId) (f : Lane → Lane) : (s.modLane l f).rd = s.rd := rfl
@[simp] theorem State.modLane_hlu (l : LaneId) (f : Lane → Lane) : (s.modLane l f).hlu = s.hlu := rfl
@[simp] theorem State.modLane_tlu (l : LaneId) (f : Lane → Lane) : (s.modLane l f).tlu = s.tlu := rfl
@[simp] theorem State.modLane_csu (l : LaneId) (f : Lane → Lane) : (s.modLane l f).csu = s.csu := rfl
@[simp] theorem State.modLane_ae (l : LaneId) (f : Lane → Lane) : (s.modLane l f).ae = s.ae := rfl
@[simp] theorem State.modLane_lau (l : LaneId) (f : Lane → Lane) : (s.modLane l f).lau = s.lau := rfl
@[simp] theorem State.modLane_dlu (l : LaneId) (f : Lane → Lane) : (s.modLane l f).dlu = s.dlu := rfl
@[simp] theorem State.modLane_scc (l : LaneId) (f : Lane → Lane) : (s.modLane l f).scc = s.scc := rfl
@[simp] theorem State.modLane_reu (l : LaneId) (f : Lane → Lane) : (s.modLane l f).reu = s.reu := rfl
@[simp] theorem State.modLane_til (l : LaneId) (f : Lane → Lane) : (s.modLane l f).til = s.til := rfl
@[simp] theorem State.modLane_power (l : LaneId) (f : Lane → Lane) : (s.modLane l f).power = s.power := rfl
@[simp] theorem State.modLane_pending (l : LaneId) (f : Lane → Lane) : (s.modLane l f).pending = s.pending := rfl

/-! ### modLaneChannel -/

@[simp] theorem State.modLaneChannel_rd (l : LaneId) (ch : Channel) (f : LaneChannel → LaneChannel) : (s.modLaneChannel l ch f).rd = s.rd := rfl
@[simp] theorem State.modLaneChannel_hlu (l : LaneId) (ch : Channel) (f : LaneChannel → LaneChannel) : (s.modLaneChannel l ch f).hlu = s.hlu := rfl
@[simp] theorem State.modLaneChannel_tlu (l : LaneId) (ch : Channel) (f : LaneChannel → LaneChannel) : (s.modLaneChannel l ch f).tlu = s.tlu := rfl
@[simp] theorem State.modLaneChannel_csu (l : LaneId) (ch : Channel) (f : LaneChannel → LaneChannel) : (s.modLaneChannel l ch f).csu = s.csu := rfl
@[simp] theorem State.modLaneChannel_ae (l : LaneId) (ch : Channel) (f : LaneChannel → LaneChannel) : (s.modLaneChannel l ch f).ae = s.ae := rfl
@[simp] theorem State.modLaneChannel_lau (l : LaneId) (ch : Channel) (f : LaneChannel → LaneChannel) : (s.modLaneChannel l ch f).lau = s.lau := rfl
@[simp] theorem State.modLaneChannel_dlu (l : LaneId) (ch : Channel) (f : LaneChannel → LaneChannel) : (s.modLaneChannel l ch f).dlu = s.dlu := rfl
@[simp] theorem State.modLaneChannel_scc (l : LaneId) (ch : Channel) (f : LaneChannel → LaneChannel) : (s.modLaneChannel l ch f).scc = s.scc := rfl
@[simp] theorem State.modLaneChannel_reu (l : LaneId) (ch : Channel) (f : LaneChannel → LaneChannel) : (s.modLaneChannel l ch f).reu = s.reu := rfl
@[simp] theorem State.modLaneChannel_til (l : LaneId) (ch : Channel) (f : LaneChannel → LaneChannel) : (s.modLaneChannel l ch f).til = s.til := rfl
@[simp] theorem State.modLaneChannel_power (l : LaneId) (ch : Channel) (f : LaneChannel → LaneChannel) : (s.modLaneChannel l ch f).power = s.power := rfl
@[simp] theorem State.modLaneChannel_pending (l : LaneId) (ch : Channel) (f : LaneChannel → LaneChannel) : (s.modLaneChannel l ch f).pending = s.pending := rfl

/-! ### setTerm -/

@[simp] theorem State.setTerm_rd (t : TerminalId) (x : Terminal) : (s.setTerm t x).rd = s.rd := rfl
@[simp] theorem State.setTerm_hlu (t : TerminalId) (x : Terminal) : (s.setTerm t x).hlu = s.hlu := rfl
@[simp] theorem State.setTerm_tlu_line (t : TerminalId) (x : Terminal) : (s.setTerm t x).tlu.line = s.tlu.line := rfl
@[simp] theorem State.setTerm_tlu_lastOffline (t : TerminalId) (x : Terminal) : (s.setTerm t x).tlu.lastOffline = s.tlu.lastOffline := rfl
@[simp] theorem State.setTerm_tlu_lastOnline (t : TerminalId) (x : Terminal) : (s.setTerm t x).tlu.lastOnline = s.tlu.lastOnline := rfl
@[simp] theorem State.setTerm_csu (t : TerminalId) (x : Terminal) : (s.setTerm t x).csu = s.csu := rfl
@[simp] theorem State.setTerm_ae (t : TerminalId) (x : Terminal) : (s.setTerm t x).ae = s.ae := rfl
@[simp] theorem State.setTerm_dcu (t : TerminalId) (x : Terminal) : (s.setTerm t x).dcu = s.dcu := rfl
@[simp] theorem State.setTerm_lau (t : TerminalId) (x : Terminal) : (s.setTerm t x).lau = s.lau := rfl
@[simp] theorem State.setTerm_dlu (t : TerminalId) (x : Terminal) : (s.setTerm t x).dlu = s.dlu := rfl
@[simp] theorem State.setTerm_scc (t : TerminalId) (x : Terminal) : (s.setTerm t x).scc = s.scc := rfl
@[simp] theorem State.setTerm_reu (t : TerminalId) (x : Terminal) : (s.setTerm t x).reu = s.reu := rfl
@[simp] theorem State.setTerm_til (t : TerminalId) (x : Terminal) : (s.setTerm t x).til = s.til := rfl
@[simp] theorem State.setTerm_power (t : TerminalId) (x : Terminal) : (s.setTerm t x).power = s.power := rfl
@[simp] theorem State.setTerm_pending (t : TerminalId) (x : Terminal) : (s.setTerm t x).pending = s.pending := rfl

/-! ### modTerm -/

@[simp] theorem State.modTerm_rd (t : TerminalId) (f : Terminal → Terminal) : (s.modTerm t f).rd = s.rd := rfl
@[simp] theorem State.modTerm_hlu (t : TerminalId) (f : Terminal → Terminal) : (s.modTerm t f).hlu = s.hlu := rfl
@[simp] theorem State.modTerm_tlu_line (t : TerminalId) (f : Terminal → Terminal) : (s.modTerm t f).tlu.line = s.tlu.line := rfl
@[simp] theorem State.modTerm_tlu_lastOffline (t : TerminalId) (f : Terminal → Terminal) : (s.modTerm t f).tlu.lastOffline = s.tlu.lastOffline := rfl
@[simp] theorem State.modTerm_tlu_lastOnline (t : TerminalId) (f : Terminal → Terminal) : (s.modTerm t f).tlu.lastOnline = s.tlu.lastOnline := rfl
@[simp] theorem State.modTerm_csu (t : TerminalId) (f : Terminal → Terminal) : (s.modTerm t f).csu = s.csu := rfl
@[simp] theorem State.modTerm_ae (t : TerminalId) (f : Terminal → Terminal) : (s.modTerm t f).ae = s.ae := rfl
@[simp] theorem State.modTerm_dcu (t : TerminalId) (f : Terminal → Terminal) : (s.modTerm t f).dcu = s.dcu := rfl
@[simp] theorem State.modTerm_lau (t : TerminalId) (f : Terminal → Terminal) : (s.modTerm t f).lau = s.lau := rfl
@[simp] theorem State.modTerm_dlu (t : TerminalId) (f : Terminal → Terminal) : (s.modTerm t f).dlu = s.dlu := rfl
@[simp] theorem State.modTerm_scc (t : TerminalId) (f : Terminal → Terminal) : (s.modTerm t f).scc = s.scc := rfl
@[simp] theorem State.modTerm_reu (t : TerminalId) (f : Terminal → Terminal) : (s.modTerm t f).reu = s.reu := rfl
@[simp] theorem State.modTerm_til (t : TerminalId) (f : Terminal → Terminal) : (s.modTerm t f).til = s.til := rfl
@[simp] theorem State.modTerm_power (t : TerminalId) (f : Terminal → Terminal) : (s.modTerm t f).power = s.power := rfl
@[simp] theorem State.modTerm_pending (t : TerminalId) (f : Terminal → Terminal) : (s.modTerm t f).pending = s.pending := rfl

/-! ### setTermLine -/

@[simp] theorem State.setTermLine_rd (x : TerminalLine) : (s.setTermLine x).rd = s.rd := rfl
@[simp] theorem State.setTermLine_hlu (x : TerminalLine) : (s.setTermLine x).hlu = s.hlu := rfl
@[simp] theorem State.setTermLine_tlu_terminals (x : TerminalLine) : (s.setTermLine x).tlu.terminals = s.tlu.terminals := rfl
@[simp] theorem State.setTermLine_tlu_lastOffline (x : TerminalLine) : (s.setTermLine x).tlu.lastOffline = s.tlu.lastOffline := rfl
@[simp] theorem State.setTermLine_tlu_lastOnline (x : TerminalLine) : (s.setTermLine x).tlu.lastOnline = s.tlu.lastOnline := rfl
@[simp] theorem State.setTermLine_csu (x : TerminalLine) : (s.setTermLine x).csu = s.csu := rfl
@[simp] theorem State.setTermLine_ae (x : TerminalLine) : (s.setTermLine x).ae = s.ae := rfl
@[simp] theorem State.setTermLine_dcu (x : TerminalLine) : (s.setTermLine x).dcu = s.dcu := rfl
@[simp] theorem State.setTermLine_lau (x : TerminalLine) : (s.setTermLine x).lau = s.lau := rfl
@[simp] theorem State.setTermLine_dlu (x : TerminalLine) : (s.setTermLine x).dlu = s.dlu := rfl
@[simp] theorem State.setTermLine_scc (x : TerminalLine) : (s.setTermLine x).scc = s.scc := rfl
@[simp] theorem State.setTermLine_reu (x : TerminalLine) : (s.setTermLine x).reu = s.reu := rfl
@[simp] theorem State.setTermLine_til (x : TerminalLine) : (s.setTermLine x).til = s.til := rfl
@[simp] theorem State.setTermLine_power (x : TerminalLine) : (s.setTermLine x).power = s.power := rfl
@[simp] theorem State.setTermLine_pending (x : TerminalLine) : (s.setTermLine x).pending = s.pending := rfl

/-! ### setHead -/

@[simp] theorem State.setHead_rd (h : HeadId) (x : Head) : (s.setHead h x).rd = s.rd := rfl
@[simp] theorem State.setHead_hlu (h : HeadId) (x : Head) : (s.setHead h x).hlu = s.hlu := rfl
@[simp] theorem State.setHead_tlu (h : HeadId) (x : Head) : (s.setHead h x).tlu = s.tlu := rfl
@[simp] theorem State.setHead_csu (h : HeadId) (x : Head) : (s.setHead h x).csu = s.csu := rfl
@[simp] theorem State.setHead_ae (h : HeadId) (x : Head) : (s.setHead h x).ae = s.ae := rfl
@[simp] theorem State.setHead_dcu (h : HeadId) (x : Head) : (s.setHead h x).dcu = s.dcu := rfl
@[simp] theorem State.setHead_lau (h : HeadId) (x : Head) : (s.setHead h x).lau = s.lau := rfl
@[simp] theorem State.setHead_dlu_line (h : HeadId) (x : Head) : (s.setHead h x).dlu.line = s.dlu.line := rfl
@[simp] theorem State.setHead_dlu_haltPending (h : HeadId) (x : Head) : (s.setHead h x).dlu.haltPending = s.dlu.haltPending := rfl
@[simp] theorem State.setHead_dlu_commandPos (h : HeadId) (x : Head) : (s.setHead h x).dlu.commandPos = s.dlu.commandPos := rfl
@[simp] theorem State.setHead_dlu_activePos (h : HeadId) (x : Head) : (s.setHead h x).dlu.activePos = s.dlu.activePos := rfl
@[simp] theorem State.setHead_dlu_inactivePos (h : HeadId) (x : Head) : (s.setHead h x).dlu.inactivePos = s.dlu.inactivePos := rfl
@[simp] theorem State.setHead_dlu_runCount (h : HeadId) (x : Head) : (s.setHead h x).dlu.runCount = s.dlu.runCount := rfl
@[simp] theorem State.setHead_dlu_pollCount (h : HeadId) (x : Head) : (s.setHead h x).dlu.pollCount = s.dlu.pollCount := rfl
@[simp] theorem State.setHead_dlu_capture (h : HeadId) (x : Head) : (s.setHead h x).dlu.capture = s.dlu.capture := rfl
@[simp] theorem State.setHead_dlu_further (h : HeadId) (x : Head) : (s.setHead h x).dlu.further = s.dlu.further := rfl
@[simp] theorem State.setHead_scc (h : HeadId) (x : Head) : (s.setHead h x).scc = s.scc := rfl
@[simp] theorem State.setHead_reu (h : HeadId) (x : Head) : (s.setHead h x).reu = s.reu := rfl
@[simp] theorem State.setHead_til (h : HeadId) (x : Head) : (s.setHead h x).til = s.til := rfl
@[simp] theorem State.setHead_power (h : HeadId) (x : Head) : (s.setHead h x).power = s.power := rfl
@[simp] theorem State.setHead_pending (h : HeadId) (x : Head) : (s.setHead h x).pending = s.pending := rfl

/-! ### modHead -/

@[simp] theorem State.modHead_rd (h : HeadId) (f : Head → Head) : (s.modHead h f).rd = s.rd := rfl
@[simp] theorem State.modHead_hlu (h : HeadId) (f : Head → Head) : (s.modHead h f).hlu = s.hlu := rfl
@[simp] theorem State.modHead_tlu (h : HeadId) (f : Head → Head) : (s.modHead h f).tlu = s.tlu := rfl
@[simp] theorem State.modHead_csu (h : HeadId) (f : Head → Head) : (s.modHead h f).csu = s.csu := rfl
@[simp] theorem State.modHead_ae (h : HeadId) (f : Head → Head) : (s.modHead h f).ae = s.ae := rfl
@[simp] theorem State.modHead_dcu (h : HeadId) (f : Head → Head) : (s.modHead h f).dcu = s.dcu := rfl
@[simp] theorem State.modHead_lau (h : HeadId) (f : Head → Head) : (s.modHead h f).lau = s.lau := rfl
@[simp] theorem State.modHead_dlu_line (h : HeadId) (f : Head → Head) : (s.modHead h f).dlu.line = s.dlu.line := rfl
@[simp] theorem State.modHead_dlu_haltPending (h : HeadId) (f : Head → Head) : (s.modHead h f).dlu.haltPending = s.dlu.haltPending := rfl
@[simp] theorem State.modHead_dlu_commandPos (h : HeadId) (f : Head → Head) : (s.modHead h f).dlu.commandPos = s.dlu.commandPos := rfl
@[simp] theorem State.modHead_dlu_activePos (h : HeadId) (f : Head → Head) : (s.modHead h f).dlu.activePos = s.dlu.activePos := rfl
@[simp] theorem State.modHead_dlu_inactivePos (h : HeadId) (f : Head → Head) : (s.modHead h f).dlu.inactivePos = s.dlu.inactivePos := rfl
@[simp] theorem State.modHead_dlu_runCount (h : HeadId) (f : Head → Head) : (s.modHead h f).dlu.runCount = s.dlu.runCount := rfl
@[simp] theorem State.modHead_dlu_pollCount (h : HeadId) (f : Head → Head) : (s.modHead h f).dlu.pollCount = s.dlu.pollCount := rfl
@[simp] theorem State.modHead_dlu_capture (h : HeadId) (f : Head → Head) : (s.modHead h f).dlu.capture = s.dlu.capture := rfl
@[simp] theorem State.modHead_dlu_further (h : HeadId) (f : Head → Head) : (s.modHead h f).dlu.further = s.dlu.further := rfl
@[simp] theorem State.modHead_scc (h : HeadId) (f : Head → Head) : (s.modHead h f).scc = s.scc := rfl
@[simp] theorem State.modHead_reu (h : HeadId) (f : Head → Head) : (s.modHead h f).reu = s.reu := rfl
@[simp] theorem State.modHead_til (h : HeadId) (f : Head → Head) : (s.modHead h f).til = s.til := rfl
@[simp] theorem State.modHead_power (h : HeadId) (f : Head → Head) : (s.modHead h f).power = s.power := rfl
@[simp] theorem State.modHead_pending (h : HeadId) (f : Head → Head) : (s.modHead h f).pending = s.pending := rfl

/-! ### setCommands -/

@[simp] theorem State.setCommands_rd (h : HeadId) (cs : List Command) : (s.setCommands h cs).rd = s.rd := rfl
@[simp] theorem State.setCommands_hlu (h : HeadId) (cs : List Command) : (s.setCommands h cs).hlu = s.hlu := rfl
@[simp] theorem State.setCommands_tlu (h : HeadId) (cs : List Command) : (s.setCommands h cs).tlu = s.tlu := rfl
@[simp] theorem State.setCommands_csu (h : HeadId) (cs : List Command) : (s.setCommands h cs).csu = s.csu := rfl
@[simp] theorem State.setCommands_ae (h : HeadId) (cs : List Command) : (s.setCommands h cs).ae = s.ae := rfl
@[simp] theorem State.setCommands_dcu (h : HeadId) (cs : List Command) : (s.setCommands h cs).dcu = s.dcu := rfl
@[simp] theorem State.setCommands_lau (h : HeadId) (cs : List Command) : (s.setCommands h cs).lau = s.lau := rfl
@[simp] theorem State.setCommands_dlu_line (h : HeadId) (cs : List Command) : (s.setCommands h cs).dlu.line = s.dlu.line := rfl
@[simp] theorem State.setCommands_dlu_haltPending (h : HeadId) (cs : List Command) : (s.setCommands h cs).dlu.haltPending = s.dlu.haltPending := rfl
@[simp] theorem State.setCommands_dlu_commandPos (h : HeadId) (cs : List Command) : (s.setCommands h cs).dlu.commandPos = s.dlu.commandPos := rfl
@[simp] theorem State.setCommands_dlu_activePos (h : HeadId) (cs : List Command) : (s.setCommands h cs).dlu.activePos = s.dlu.activePos := rfl
@[simp] theorem State.setCommands_dlu_inactivePos (h : HeadId) (cs : List Command) : (s.setCommands h cs).dlu.inactivePos = s.dlu.inactivePos := rfl
@[simp] theorem State.setCommands_dlu_runCount (h : HeadId) (cs : List Command) : (s.setCommands h cs).dlu.runCount = s.dlu.runCount := rfl
@[simp] theorem State.setCommands_dlu_pollCount (h : HeadId) (cs : List Command) : (s.setCommands h cs).dlu.pollCount = s.dlu.pollCount := rfl
@[simp] theorem State.setCommands_dlu_capture (h : HeadId) (cs : List Command) : (s.setCommands h cs).dlu.capture = s.dlu.capture := rfl
@[simp] theorem State.setCommands_dlu_further (h : HeadId) (cs : List Command) : (s.setCommands h cs).dlu.further = s.dlu.further := rfl
@[simp] theorem State.setCommands_scc (h : HeadId) (cs : List Command) : (s.setCommands h cs).scc = s.scc := rfl
@[simp] theorem State.setCommands_reu (h : HeadId) (cs : List Command) : (s.setCommands h cs).reu = s.reu := rfl
@[simp] theorem State.setCommands_til (h : HeadId) (cs : List Command) : (s.setCommands h cs).til = s.til := rfl
@[simp] theorem State.setCommands_power (h : HeadId) (cs : List Command) : (s.setCommands h cs).power = s.power := rfl
@[simp] theorem State.setCommands_pending (h : HeadId) (cs : List Command) : (s.setCommands h cs).pending = s.pending := rfl

/-! ### setLine -/

@[simp] theorem State.setLine_rd (x : DispenserLine) : (s.setLine x).rd = s.rd := rfl
@[simp] theorem State.setLine_hlu (x : DispenserLine) : (s.setLine x).hlu = s.hlu := rfl
@[simp] theorem State.setLine_tlu (x : DispenserLine) : (s.setLine x).tlu = s.tlu := rfl
@[simp] theorem State.setLine_csu (x : DispenserLine) : (s.setLine x).csu = s.csu := rfl
@[simp] theorem State.setLine_ae (x : DispenserLine) : (s.setLine x).ae = s.ae := rfl
@[simp] theorem State.setLine_dcu (x : DispenserLine) : (s.setLine x).dcu = s.dcu := rfl
@[simp] theorem State.setLine_lau (x : DispenserLine) : (s.setLine x).lau = s.lau := rfl
@[simp] theorem State.setLine_dlu_heads (x : DispenserLine) : (s.setLine x).dlu.heads = s.dlu.heads := rfl
@[simp] theorem State.setLine_dlu_haltPending (x : DispenserLine) : (s.setLine x).dlu.haltPending = s.dlu.haltPending := rfl
@[simp] theorem State.setLine_dlu_commandPos (x : DispenserLine) : (s.setLine x).dlu.commandPos = s.dlu.commandPos := rfl
@[simp] theorem State.setLine_dlu_activePos (x : DispenserLine) : (s.setLine x).dlu.activePos = s.dlu.activePos := rfl
@[simp] theorem State.setLine_dlu_inactivePos (x : DispenserLine) : (s.setLine x).dlu.inactivePos = s.dlu.inactivePos := rfl
@[simp] theorem State.setLine_dlu_runCount (x : DispenserLine) : (s.setLine x).dlu.runCount = s.dlu.runCount := rfl
@[simp] theorem State.setLine_dlu_pollCount (x : DispenserLine) : (s.setLine x).dlu.pollCount = s.dlu.pollCount := rfl
@[simp] theorem State.setLine_dlu_capture (x : DispenserLine) : (s.setLine x).dlu.capture = s.dlu.capture := rfl
@[simp] theorem State.setLine_dlu_further (x : DispenserLine) : (s.setLine x).dlu.further = s.dlu.further := rfl
@[simp] theorem State.setLine_scc (x : DispenserLine) : (s.setLine x).scc = s.scc := rfl
@[simp] theorem State.setLine_reu (x : DispenserLine) : (s.setLine x).reu = s.reu := rfl
@[simp] theorem State.setLine_til (x : DispenserLine) : (s.setLine x).til = s.til := rfl
@[simp] theorem State.setLine_power (x : DispenserLine) : (s.setLine x).power = s.power := rfl
@[simp] theorem State.setLine_pending (x : DispenserLine) : (s.setLine x).pending = s.pending := rfl

/-! ### setAnswering -/

@[simp] theorem State.setAnswering_rd (a : Option Answer) : (s.setAnswering a).rd = s.rd := rfl
@[simp] theorem State.setAnswering_hlu_receiver (a : Option Answer) : (s.setAnswering a).hlu.receiver = s.hlu.receiver := rfl
@[simp] theorem State.setAnswering_hlu_holding (a : Option Answer) : (s.setAnswering a).hlu.holding = s.hlu.holding := rfl
@[simp] theorem State.setAnswering_hlu_restarting (a : Option Answer) : (s.setAnswering a).hlu.restarting = s.hlu.restarting := rfl
@[simp] theorem State.setAnswering_hlu_errors (a : Option Answer) : (s.setAnswering a).hlu.errors = s.hlu.errors := rfl
@[simp] theorem State.setAnswering_tlu (a : Option Answer) : (s.setAnswering a).tlu = s.tlu := rfl
@[simp] theorem State.setAnswering_csu (a : Option Answer) : (s.setAnswering a).csu = s.csu := rfl
@[simp] theorem State.setAnswering_ae (a : Option Answer) : (s.setAnswering a).ae = s.ae := rfl
@[simp] theorem State.setAnswering_dcu (a : Option Answer) : (s.setAnswering a).dcu = s.dcu := rfl
@[simp] theorem State.setAnswering_lau (a : Option Answer) : (s.setAnswering a).lau = s.lau := rfl
@[simp] theorem State.setAnswering_dlu (a : Option Answer) : (s.setAnswering a).dlu = s.dlu := rfl
@[simp] theorem State.setAnswering_scc (a : Option Answer) : (s.setAnswering a).scc = s.scc := rfl
@[simp] theorem State.setAnswering_reu (a : Option Answer) : (s.setAnswering a).reu = s.reu := rfl
@[simp] theorem State.setAnswering_til (a : Option Answer) : (s.setAnswering a).til = s.til := rfl
@[simp] theorem State.setAnswering_power (a : Option Answer) : (s.setAnswering a).power = s.power := rfl
@[simp] theorem State.setAnswering_pending (a : Option Answer) : (s.setAnswering a).pending = s.pending := rfl

/-! ### setReceiver -/

@[simp] theorem State.setReceiver_rd (x : Receiver) : (s.setReceiver x).rd = s.rd := rfl
@[simp] theorem State.setReceiver_hlu_holding (x : Receiver) : (s.setReceiver x).hlu.holding = s.hlu.holding := rfl
@[simp] theorem State.setReceiver_hlu_answering (x : Receiver) : (s.setReceiver x).hlu.answering = s.hlu.answering := rfl
@[simp] theorem State.setReceiver_hlu_restarting (x : Receiver) : (s.setReceiver x).hlu.restarting = s.hlu.restarting := rfl
@[simp] theorem State.setReceiver_hlu_errors (x : Receiver) : (s.setReceiver x).hlu.errors = s.hlu.errors := rfl
@[simp] theorem State.setReceiver_tlu (x : Receiver) : (s.setReceiver x).tlu = s.tlu := rfl
@[simp] theorem State.setReceiver_csu (x : Receiver) : (s.setReceiver x).csu = s.csu := rfl
@[simp] theorem State.setReceiver_ae (x : Receiver) : (s.setReceiver x).ae = s.ae := rfl
@[simp] theorem State.setReceiver_dcu (x : Receiver) : (s.setReceiver x).dcu = s.dcu := rfl
@[simp] theorem State.setReceiver_lau (x : Receiver) : (s.setReceiver x).lau = s.lau := rfl
@[simp] theorem State.setReceiver_dlu (x : Receiver) : (s.setReceiver x).dlu = s.dlu := rfl
@[simp] theorem State.setReceiver_scc (x : Receiver) : (s.setReceiver x).scc = s.scc := rfl
@[simp] theorem State.setReceiver_reu (x : Receiver) : (s.setReceiver x).reu = s.reu := rfl
@[simp] theorem State.setReceiver_til (x : Receiver) : (s.setReceiver x).til = s.til := rfl
@[simp] theorem State.setReceiver_power (x : Receiver) : (s.setReceiver x).power = s.power := rfl
@[simp] theorem State.setReceiver_pending (x : Receiver) : (s.setReceiver x).pending = s.pending := rfl

/-! ### countError -/

@[simp] theorem State.countError_rd (f : LinkErrors → LinkErrors) : (s.countError f).rd = s.rd := rfl
@[simp] theorem State.countError_hlu_receiver (f : LinkErrors → LinkErrors) : (s.countError f).hlu.receiver = s.hlu.receiver := rfl
@[simp] theorem State.countError_hlu_holding (f : LinkErrors → LinkErrors) : (s.countError f).hlu.holding = s.hlu.holding := rfl
@[simp] theorem State.countError_hlu_answering (f : LinkErrors → LinkErrors) : (s.countError f).hlu.answering = s.hlu.answering := rfl
@[simp] theorem State.countError_hlu_restarting (f : LinkErrors → LinkErrors) : (s.countError f).hlu.restarting = s.hlu.restarting := rfl
@[simp] theorem State.countError_tlu (f : LinkErrors → LinkErrors) : (s.countError f).tlu = s.tlu := rfl
@[simp] theorem State.countError_csu (f : LinkErrors → LinkErrors) : (s.countError f).csu = s.csu := rfl
@[simp] theorem State.countError_ae (f : LinkErrors → LinkErrors) : (s.countError f).ae = s.ae := rfl
@[simp] theorem State.countError_dcu (f : LinkErrors → LinkErrors) : (s.countError f).dcu = s.dcu := rfl
@[simp] theorem State.countError_lau (f : LinkErrors → LinkErrors) : (s.countError f).lau = s.lau := rfl
@[simp] theorem State.countError_dlu (f : LinkErrors → LinkErrors) : (s.countError f).dlu = s.dlu := rfl
@[simp] theorem State.countError_scc (f : LinkErrors → LinkErrors) : (s.countError f).scc = s.scc := rfl
@[simp] theorem State.countError_reu (f : LinkErrors → LinkErrors) : (s.countError f).reu = s.reu := rfl
@[simp] theorem State.countError_til (f : LinkErrors → LinkErrors) : (s.countError f).til = s.til := rfl
@[simp] theorem State.countError_power (f : LinkErrors → LinkErrors) : (s.countError f).power = s.power := rfl
@[simp] theorem State.countError_pending (f : LinkErrors → LinkErrors) : (s.countError f).pending = s.pending := rfl

/-! ### restartSilence -/

@[simp] theorem State.restartSilence_rd : (s.restartSilence).rd = s.rd := rfl
@[simp] theorem State.restartSilence_hlu : (s.restartSilence).hlu = s.hlu := rfl
@[simp] theorem State.restartSilence_tlu : (s.restartSilence).tlu = s.tlu := rfl
@[simp] theorem State.restartSilence_csu : (s.restartSilence).csu = s.csu := rfl
@[simp] theorem State.restartSilence_ae_online : (s.restartSilence).ae.online = s.ae.online := rfl
@[simp] theorem State.restartSilence_ae_requests : (s.restartSilence).ae.requests = s.ae.requests := rfl
@[simp] theorem State.restartSilence_dcu : (s.restartSilence).dcu = s.dcu := rfl
@[simp] theorem State.restartSilence_lau : (s.restartSilence).lau = s.lau := rfl
@[simp] theorem State.restartSilence_dlu : (s.restartSilence).dlu = s.dlu := rfl
@[simp] theorem State.restartSilence_scc : (s.restartSilence).scc = s.scc := rfl
@[simp] theorem State.restartSilence_reu : (s.restartSilence).reu = s.reu := rfl
@[simp] theorem State.restartSilence_til : (s.restartSilence).til = s.til := rfl
@[simp] theorem State.restartSilence_power : (s.restartSilence).power = s.power := rfl
@[simp] theorem State.restartSilence_pending : (s.restartSilence).pending = s.pending := rfl

/-! ### frameDone -/

@[simp] theorem State.frameDone_rd : (s.frameDone).rd = s.rd := rfl
@[simp] theorem State.frameDone_hlu_holding : (s.frameDone).hlu.holding = s.hlu.holding := rfl
@[simp] theorem State.frameDone_hlu_answering : (s.frameDone).hlu.answering = s.hlu.answering := rfl
@[simp] theorem State.frameDone_hlu_restarting : (s.frameDone).hlu.restarting = s.hlu.restarting := rfl
@[simp] theorem State.frameDone_hlu_errors : (s.frameDone).hlu.errors = s.hlu.errors := rfl
@[simp] theorem State.frameDone_tlu : (s.frameDone).tlu = s.tlu := rfl
@[simp] theorem State.frameDone_csu : (s.frameDone).csu = s.csu := rfl
@[simp] theorem State.frameDone_ae_online : (s.frameDone).ae.online = s.ae.online := rfl
@[simp] theorem State.frameDone_ae_requests : (s.frameDone).ae.requests = s.ae.requests := rfl
@[simp] theorem State.frameDone_dcu : (s.frameDone).dcu = s.dcu := rfl
@[simp] theorem State.frameDone_lau : (s.frameDone).lau = s.lau := rfl
@[simp] theorem State.frameDone_dlu : (s.frameDone).dlu = s.dlu := rfl
@[simp] theorem State.frameDone_scc : (s.frameDone).scc = s.scc := rfl
@[simp] theorem State.frameDone_reu : (s.frameDone).reu = s.reu := rfl
@[simp] theorem State.frameDone_til : (s.frameDone).til = s.til := rfl
@[simp] theorem State.frameDone_power : (s.frameDone).power = s.power := rfl
@[simp] theorem State.frameDone_pending : (s.frameDone).pending = s.pending := rfl

/-! ### testAttn -/

@[simp] theorem State.testAttn_rd : (s.testAttn).rd = s.rd := rfl
@[simp] theorem State.testAttn_hlu : (s.testAttn).hlu = s.hlu := rfl
@[simp] theorem State.testAttn_tlu : (s.testAttn).tlu = s.tlu := rfl
@[simp] theorem State.testAttn_csu : (s.testAttn).csu = s.csu := rfl
@[simp] theorem State.testAttn_ae : (s.testAttn).ae = s.ae := rfl
@[simp] theorem State.testAttn_dcu : (s.testAttn).dcu = s.dcu := rfl
@[simp] theorem State.testAttn_lau : (s.testAttn).lau = s.lau := rfl
@[simp] theorem State.testAttn_dlu : (s.testAttn).dlu = s.dlu := rfl
@[simp] theorem State.testAttn_scc : (s.testAttn).scc = s.scc := rfl
@[simp] theorem State.testAttn_reu_events : (s.testAttn).reu.events = s.reu.events := rfl
@[simp] theorem State.testAttn_reu_dropped : (s.testAttn).reu.dropped = s.reu.dropped := rfl
@[simp] theorem State.testAttn_reu_levels : (s.testAttn).reu.levels = s.reu.levels := rfl
@[simp] theorem State.testAttn_reu_mask : (s.testAttn).reu.mask = s.reu.mask := rfl
@[simp] theorem State.testAttn_til : (s.testAttn).til = s.til := rfl
@[simp] theorem State.testAttn_power : (s.testAttn).power = s.power := rfl
@[simp] theorem State.testAttn_pending : (s.testAttn).pending = s.pending := rfl

/-! ### queueEvent -/

@[simp] theorem State.queueEvent_rd (k : EventKind) (sub : Subject) (d : Nat) : (s.queueEvent k sub d).rd = s.rd := rfl
@[simp] theorem State.queueEvent_hlu (k : EventKind) (sub : Subject) (d : Nat) : (s.queueEvent k sub d).hlu = s.hlu := rfl
@[simp] theorem State.queueEvent_tlu (k : EventKind) (sub : Subject) (d : Nat) : (s.queueEvent k sub d).tlu = s.tlu := rfl
@[simp] theorem State.queueEvent_csu (k : EventKind) (sub : Subject) (d : Nat) : (s.queueEvent k sub d).csu = s.csu := rfl
@[simp] theorem State.queueEvent_ae (k : EventKind) (sub : Subject) (d : Nat) : (s.queueEvent k sub d).ae = s.ae := rfl
@[simp] theorem State.queueEvent_dcu (k : EventKind) (sub : Subject) (d : Nat) : (s.queueEvent k sub d).dcu = s.dcu := rfl
@[simp] theorem State.queueEvent_lau (k : EventKind) (sub : Subject) (d : Nat) : (s.queueEvent k sub d).lau = s.lau := rfl
@[simp] theorem State.queueEvent_dlu (k : EventKind) (sub : Subject) (d : Nat) : (s.queueEvent k sub d).dlu = s.dlu := rfl
@[simp] theorem State.queueEvent_scc (k : EventKind) (sub : Subject) (d : Nat) : (s.queueEvent k sub d).scc = s.scc := rfl
@[simp] theorem State.queueEvent_til (k : EventKind) (sub : Subject) (d : Nat) : (s.queueEvent k sub d).til = s.til := rfl
@[simp] theorem State.queueEvent_power (k : EventKind) (sub : Subject) (d : Nat) : (s.queueEvent k sub d).power = s.power := rfl
@[simp] theorem State.queueEvent_pending (k : EventKind) (sub : Subject) (d : Nat) : (s.queueEvent k sub d).pending = s.pending := rfl

/-! ### appendRecord -/

@[simp] theorem State.appendRecord_rd_contexts (r : Record) : (s.appendRecord r).rd.contexts = s.rd.contexts := rfl
@[simp] theorem State.appendRecord_rd_freeList (r : Record) : (s.appendRecord r).rd.freeList = s.rd.freeList := rfl
@[simp] theorem State.appendRecord_rd_counter (r : Record) : (s.appendRecord r).rd.counter = s.rd.counter := rfl
@[simp] theorem State.appendRecord_rd_standIn (r : Record) : (s.appendRecord r).rd.standIn = s.rd.standIn := rfl
@[simp] theorem State.appendRecord_rd_latch (r : Record) : (s.appendRecord r).rd.latch = s.rd.latch := rfl
@[simp] theorem State.appendRecord_rd_sourceHost (r : Record) : (s.appendRecord r).rd.sourceHost = s.rd.sourceHost := rfl
@[simp] theorem State.appendRecord_rd_sourceEstop (r : Record) : (s.appendRecord r).rd.sourceEstop = s.rd.sourceEstop := rfl
@[simp] theorem State.appendRecord_rd_locks (r : Record) : (s.appendRecord r).rd.locks = s.rd.locks := rfl
@[simp] theorem State.appendRecord_rd_clock (r : Record) : (s.appendRecord r).rd.clock = s.rd.clock := rfl
@[simp] theorem State.appendRecord_rd_clockTenths (r : Record) : (s.appendRecord r).rd.clockTenths = s.rd.clockTenths := rfl
@[simp] theorem State.appendRecord_rd_clockValid (r : Record) : (s.appendRecord r).rd.clockValid = s.rd.clockValid := rfl
@[simp] theorem State.appendRecord_rd_intact (r : Record) : (s.appendRecord r).rd.intact = s.rd.intact := rfl
@[simp] theorem State.appendRecord_rd_check (r : Record) : (s.appendRecord r).rd.check = s.rd.check := rfl
@[simp] theorem State.appendRecord_hlu (r : Record) : (s.appendRecord r).hlu = s.hlu := rfl
@[simp] theorem State.appendRecord_tlu (r : Record) : (s.appendRecord r).tlu = s.tlu := rfl
@[simp] theorem State.appendRecord_csu (r : Record) : (s.appendRecord r).csu = s.csu := rfl
@[simp] theorem State.appendRecord_ae (r : Record) : (s.appendRecord r).ae = s.ae := rfl
@[simp] theorem State.appendRecord_dcu (r : Record) : (s.appendRecord r).dcu = s.dcu := rfl
@[simp] theorem State.appendRecord_lau (r : Record) : (s.appendRecord r).lau = s.lau := rfl
@[simp] theorem State.appendRecord_dlu (r : Record) : (s.appendRecord r).dlu = s.dlu := rfl
@[simp] theorem State.appendRecord_scc (r : Record) : (s.appendRecord r).scc = s.scc := rfl
@[simp] theorem State.appendRecord_reu_events (r : Record) : (s.appendRecord r).reu.events = s.reu.events := rfl
@[simp] theorem State.appendRecord_reu_dropped (r : Record) : (s.appendRecord r).reu.dropped = s.reu.dropped := rfl
@[simp] theorem State.appendRecord_reu_levels (r : Record) : (s.appendRecord r).reu.levels = s.reu.levels := rfl
@[simp] theorem State.appendRecord_reu_mask (r : Record) : (s.appendRecord r).reu.mask = s.reu.mask := rfl
@[simp] theorem State.appendRecord_til (r : Record) : (s.appendRecord r).til = s.til := rfl
@[simp] theorem State.appendRecord_power (r : Record) : (s.appendRecord r).power = s.power := rfl
@[simp] theorem State.appendRecord_pending (r : Record) : (s.appendRecord r).pending = s.pending := rfl

/-! ### markRecord -/

@[simp] theorem State.markRecord_rd_contexts (n : Nat) : (s.markRecord n).rd.contexts = s.rd.contexts := rfl
@[simp] theorem State.markRecord_rd_freeList (n : Nat) : (s.markRecord n).rd.freeList = s.rd.freeList := rfl
@[simp] theorem State.markRecord_rd_counter (n : Nat) : (s.markRecord n).rd.counter = s.rd.counter := rfl
@[simp] theorem State.markRecord_rd_standIn (n : Nat) : (s.markRecord n).rd.standIn = s.rd.standIn := rfl
@[simp] theorem State.markRecord_rd_latch (n : Nat) : (s.markRecord n).rd.latch = s.rd.latch := rfl
@[simp] theorem State.markRecord_rd_sourceHost (n : Nat) : (s.markRecord n).rd.sourceHost = s.rd.sourceHost := rfl
@[simp] theorem State.markRecord_rd_sourceEstop (n : Nat) : (s.markRecord n).rd.sourceEstop = s.rd.sourceEstop := rfl
@[simp] theorem State.markRecord_rd_locks (n : Nat) : (s.markRecord n).rd.locks = s.rd.locks := rfl
@[simp] theorem State.markRecord_rd_clock (n : Nat) : (s.markRecord n).rd.clock = s.rd.clock := rfl
@[simp] theorem State.markRecord_rd_clockTenths (n : Nat) : (s.markRecord n).rd.clockTenths = s.rd.clockTenths := rfl
@[simp] theorem State.markRecord_rd_clockValid (n : Nat) : (s.markRecord n).rd.clockValid = s.rd.clockValid := rfl
@[simp] theorem State.markRecord_rd_intact (n : Nat) : (s.markRecord n).rd.intact = s.rd.intact := rfl
@[simp] theorem State.markRecord_rd_check (n : Nat) : (s.markRecord n).rd.check = s.rd.check := rfl
@[simp] theorem State.markRecord_hlu (n : Nat) : (s.markRecord n).hlu = s.hlu := rfl
@[simp] theorem State.markRecord_tlu (n : Nat) : (s.markRecord n).tlu = s.tlu := rfl
@[simp] theorem State.markRecord_csu (n : Nat) : (s.markRecord n).csu = s.csu := rfl
@[simp] theorem State.markRecord_ae (n : Nat) : (s.markRecord n).ae = s.ae := rfl
@[simp] theorem State.markRecord_dcu (n : Nat) : (s.markRecord n).dcu = s.dcu := rfl
@[simp] theorem State.markRecord_lau (n : Nat) : (s.markRecord n).lau = s.lau := rfl
@[simp] theorem State.markRecord_dlu (n : Nat) : (s.markRecord n).dlu = s.dlu := rfl
@[simp] theorem State.markRecord_scc (n : Nat) : (s.markRecord n).scc = s.scc := rfl
@[simp] theorem State.markRecord_reu (n : Nat) : (s.markRecord n).reu = s.reu := rfl
@[simp] theorem State.markRecord_til (n : Nat) : (s.markRecord n).til = s.til := rfl
@[simp] theorem State.markRecord_power (n : Nat) : (s.markRecord n).power = s.power := rfl
@[simp] theorem State.markRecord_pending (n : Nat) : (s.markRecord n).pending = s.pending := rfl

/-! ### sweepStandIn -/

@[simp] theorem State.sweepStandIn_rd_contexts : (s.sweepStandIn).rd.contexts = s.rd.contexts := rfl
@[simp] theorem State.sweepStandIn_rd_freeList : (s.sweepStandIn).rd.freeList = s.rd.freeList := rfl
@[simp] theorem State.sweepStandIn_rd_counter : (s.sweepStandIn).rd.counter = s.rd.counter := rfl
@[simp] theorem State.sweepStandIn_rd_records : (s.sweepStandIn).rd.records = s.rd.records := rfl
@[simp] theorem State.sweepStandIn_rd_latch : (s.sweepStandIn).rd.latch = s.rd.latch := rfl
@[simp] theorem State.sweepStandIn_rd_sourceHost : (s.sweepStandIn).rd.sourceHost = s.rd.sourceHost := rfl
@[simp] theorem State.sweepStandIn_rd_sourceEstop : (s.sweepStandIn).rd.sourceEstop = s.rd.sourceEstop := rfl
@[simp] theorem State.sweepStandIn_rd_locks : (s.sweepStandIn).rd.locks = s.rd.locks := rfl
@[simp] theorem State.sweepStandIn_rd_clock : (s.sweepStandIn).rd.clock = s.rd.clock := rfl
@[simp] theorem State.sweepStandIn_rd_clockTenths : (s.sweepStandIn).rd.clockTenths = s.rd.clockTenths := rfl
@[simp] theorem State.sweepStandIn_rd_clockValid : (s.sweepStandIn).rd.clockValid = s.rd.clockValid := rfl
@[simp] theorem State.sweepStandIn_rd_intact : (s.sweepStandIn).rd.intact = s.rd.intact := rfl
@[simp] theorem State.sweepStandIn_rd_check : (s.sweepStandIn).rd.check = s.rd.check := rfl
@[simp] theorem State.sweepStandIn_hlu : (s.sweepStandIn).hlu = s.hlu := rfl
@[simp] theorem State.sweepStandIn_tlu : (s.sweepStandIn).tlu = s.tlu := rfl
@[simp] theorem State.sweepStandIn_csu : (s.sweepStandIn).csu = s.csu := rfl
@[simp] theorem State.sweepStandIn_ae : (s.sweepStandIn).ae = s.ae := rfl
@[simp] theorem State.sweepStandIn_dcu : (s.sweepStandIn).dcu = s.dcu := rfl
@[simp] theorem State.sweepStandIn_lau : (s.sweepStandIn).lau = s.lau := rfl
@[simp] theorem State.sweepStandIn_dlu : (s.sweepStandIn).dlu = s.dlu := rfl
@[simp] theorem State.sweepStandIn_scc : (s.sweepStandIn).scc = s.scc := rfl
@[simp] theorem State.sweepStandIn_reu : (s.sweepStandIn).reu = s.reu := rfl
@[simp] theorem State.sweepStandIn_til : (s.sweepStandIn).til = s.til := rfl
@[simp] theorem State.sweepStandIn_power : (s.sweepStandIn).power = s.power := rfl
@[simp] theorem State.sweepStandIn_pending : (s.sweepStandIn).pending = s.pending := rfl

/-! ### freeContext -/

@[simp] theorem State.freeContext_rd_counter (i : ContextId) : (s.freeContext i).rd.counter = s.rd.counter := rfl
@[simp] theorem State.freeContext_rd_records (i : ContextId) : (s.freeContext i).rd.records = s.rd.records := rfl
@[simp] theorem State.freeContext_rd_standIn (i : ContextId) : (s.freeContext i).rd.standIn = s.rd.standIn := rfl
@[simp] theorem State.freeContext_rd_latch (i : ContextId) : (s.freeContext i).rd.latch = s.rd.latch := rfl
@[simp] theorem State.freeContext_rd_sourceHost (i : ContextId) : (s.freeContext i).rd.sourceHost = s.rd.sourceHost := rfl
@[simp] theorem State.freeContext_rd_sourceEstop (i : ContextId) : (s.freeContext i).rd.sourceEstop = s.rd.sourceEstop := rfl
@[simp] theorem State.freeContext_rd_locks (i : ContextId) : (s.freeContext i).rd.locks = s.rd.locks := rfl
@[simp] theorem State.freeContext_rd_clock (i : ContextId) : (s.freeContext i).rd.clock = s.rd.clock := rfl
@[simp] theorem State.freeContext_rd_clockTenths (i : ContextId) : (s.freeContext i).rd.clockTenths = s.rd.clockTenths := rfl
@[simp] theorem State.freeContext_rd_clockValid (i : ContextId) : (s.freeContext i).rd.clockValid = s.rd.clockValid := rfl
@[simp] theorem State.freeContext_rd_intact (i : ContextId) : (s.freeContext i).rd.intact = s.rd.intact := rfl
@[simp] theorem State.freeContext_rd_check (i : ContextId) : (s.freeContext i).rd.check = s.rd.check := rfl
@[simp] theorem State.freeContext_hlu (i : ContextId) : (s.freeContext i).hlu = s.hlu := rfl
@[simp] theorem State.freeContext_tlu (i : ContextId) : (s.freeContext i).tlu = s.tlu := rfl
@[simp] theorem State.freeContext_csu (i : ContextId) : (s.freeContext i).csu = s.csu := rfl
@[simp] theorem State.freeContext_ae_online (i : ContextId) : (s.freeContext i).ae.online = s.ae.online := rfl
@[simp] theorem State.freeContext_ae_silence (i : ContextId) : (s.freeContext i).ae.silence = s.ae.silence := rfl
@[simp] theorem State.freeContext_dcu (i : ContextId) : (s.freeContext i).dcu = s.dcu := rfl
@[simp] theorem State.freeContext_lau (i : ContextId) : (s.freeContext i).lau = s.lau := rfl
@[simp] theorem State.freeContext_dlu (i : ContextId) : (s.freeContext i).dlu = s.dlu := rfl
@[simp] theorem State.freeContext_scc (i : ContextId) : (s.freeContext i).scc = s.scc := rfl
@[simp] theorem State.freeContext_reu (i : ContextId) : (s.freeContext i).reu = s.reu := rfl
@[simp] theorem State.freeContext_til (i : ContextId) : (s.freeContext i).til = s.til := rfl
@[simp] theorem State.freeContext_power (i : ContextId) : (s.freeContext i).power = s.power := rfl
@[simp] theorem State.freeContext_pending (i : ContextId) : (s.freeContext i).pending = s.pending := rfl

/-! ### lockLane -/

@[simp] theorem State.lockLane_rd_contexts (l : LaneId) : (s.lockLane l).rd.contexts = s.rd.contexts := rfl
@[simp] theorem State.lockLane_rd_freeList (l : LaneId) : (s.lockLane l).rd.freeList = s.rd.freeList := rfl
@[simp] theorem State.lockLane_rd_counter (l : LaneId) : (s.lockLane l).rd.counter = s.rd.counter := rfl
@[simp] theorem State.lockLane_rd_records (l : LaneId) : (s.lockLane l).rd.records = s.rd.records := rfl
@[simp] theorem State.lockLane_rd_standIn (l : LaneId) : (s.lockLane l).rd.standIn = s.rd.standIn := rfl
@[simp] theorem State.lockLane_rd_latch (l : LaneId) : (s.lockLane l).rd.latch = s.rd.latch := rfl
@[simp] theorem State.lockLane_rd_sourceHost (l : LaneId) : (s.lockLane l).rd.sourceHost = s.rd.sourceHost := rfl
@[simp] theorem State.lockLane_rd_sourceEstop (l : LaneId) : (s.lockLane l).rd.sourceEstop = s.rd.sourceEstop := rfl
@[simp] theorem State.lockLane_rd_clock (l : LaneId) : (s.lockLane l).rd.clock = s.rd.clock := rfl
@[simp] theorem State.lockLane_rd_clockTenths (l : LaneId) : (s.lockLane l).rd.clockTenths = s.rd.clockTenths := rfl
@[simp] theorem State.lockLane_rd_clockValid (l : LaneId) : (s.lockLane l).rd.clockValid = s.rd.clockValid := rfl
@[simp] theorem State.lockLane_rd_intact (l : LaneId) : (s.lockLane l).rd.intact = s.rd.intact := rfl
@[simp] theorem State.lockLane_rd_check (l : LaneId) : (s.lockLane l).rd.check = s.rd.check := rfl
@[simp] theorem State.lockLane_hlu (l : LaneId) : (s.lockLane l).hlu = s.hlu := rfl
@[simp] theorem State.lockLane_tlu (l : LaneId) : (s.lockLane l).tlu = s.tlu := rfl
@[simp] theorem State.lockLane_csu (l : LaneId) : (s.lockLane l).csu = s.csu := rfl
@[simp] theorem State.lockLane_ae (l : LaneId) : (s.lockLane l).ae = s.ae := rfl
@[simp] theorem State.lockLane_lau (l : LaneId) : (s.lockLane l).lau = s.lau := rfl
@[simp] theorem State.lockLane_dlu (l : LaneId) : (s.lockLane l).dlu = s.dlu := rfl
@[simp] theorem State.lockLane_scc_halt (l : LaneId) : (s.lockLane l).scc.halt = s.scc.halt := rfl
@[simp] theorem State.lockLane_scc_estopHeld (l : LaneId) : (s.lockLane l).scc.estopHeld = s.scc.estopHeld := rfl
@[simp] theorem State.lockLane_reu (l : LaneId) : (s.lockLane l).reu = s.reu := rfl
@[simp] theorem State.lockLane_til (l : LaneId) : (s.lockLane l).til = s.til := rfl
@[simp] theorem State.lockLane_power (l : LaneId) : (s.lockLane l).power = s.power := rfl
@[simp] theorem State.lockLane_pending (l : LaneId) : (s.lockLane l).pending = s.pending := rfl

/-! ### adopt -/

@[simp] theorem State.adopt_rd (l : LaneId) : (s.adopt l).rd = s.rd := rfl
@[simp] theorem State.adopt_hlu (l : LaneId) : (s.adopt l).hlu = s.hlu := rfl
@[simp] theorem State.adopt_tlu (l : LaneId) : (s.adopt l).tlu = s.tlu := rfl
@[simp] theorem State.adopt_csu (l : LaneId) : (s.adopt l).csu = s.csu := rfl
@[simp] theorem State.adopt_ae (l : LaneId) : (s.adopt l).ae = s.ae := rfl
@[simp] theorem State.adopt_lau_products (l : LaneId) : (s.adopt l).lau.products = s.lau.products := rfl
@[simp] theorem State.adopt_dlu (l : LaneId) : (s.adopt l).dlu = s.dlu := rfl
@[simp] theorem State.adopt_scc (l : LaneId) : (s.adopt l).scc = s.scc := rfl
@[simp] theorem State.adopt_til (l : LaneId) : (s.adopt l).til = s.til := rfl
@[simp] theorem State.adopt_power (l : LaneId) : (s.adopt l).power = s.power := rfl
@[simp] theorem State.adopt_pending (l : LaneId) : (s.adopt l).pending = s.pending := rfl

/-! ### showOn -/

@[simp] theorem State.showOn_rd (t : TerminalId) (m : Message) : (s.showOn t m).rd = s.rd := rfl
@[simp] theorem State.showOn_hlu (t : TerminalId) (m : Message) : (s.showOn t m).hlu = s.hlu := rfl
@[simp] theorem State.showOn_tlu_line (t : TerminalId) (m : Message) : (s.showOn t m).tlu.line = s.tlu.line := rfl
@[simp] theorem State.showOn_tlu_lastOffline (t : TerminalId) (m : Message) : (s.showOn t m).tlu.lastOffline = s.tlu.lastOffline := rfl
@[simp] theorem State.showOn_tlu_lastOnline (t : TerminalId) (m : Message) : (s.showOn t m).tlu.lastOnline = s.tlu.lastOnline := rfl
@[simp] theorem State.showOn_csu (t : TerminalId) (m : Message) : (s.showOn t m).csu = s.csu := rfl
@[simp] theorem State.showOn_ae (t : TerminalId) (m : Message) : (s.showOn t m).ae = s.ae := rfl
@[simp] theorem State.showOn_dcu (t : TerminalId) (m : Message) : (s.showOn t m).dcu = s.dcu := rfl
@[simp] theorem State.showOn_lau (t : TerminalId) (m : Message) : (s.showOn t m).lau = s.lau := rfl
@[simp] theorem State.showOn_dlu (t : TerminalId) (m : Message) : (s.showOn t m).dlu = s.dlu := rfl
@[simp] theorem State.showOn_scc (t : TerminalId) (m : Message) : (s.showOn t m).scc = s.scc := rfl
@[simp] theorem State.showOn_reu (t : TerminalId) (m : Message) : (s.showOn t m).reu = s.reu := rfl
@[simp] theorem State.showOn_til (t : TerminalId) (m : Message) : (s.showOn t m).til = s.til := rfl
@[simp] theorem State.showOn_power (t : TerminalId) (m : Message) : (s.showOn t m).power = s.power := rfl
@[simp] theorem State.showOn_pending (t : TerminalId) (m : Message) : (s.showOn t m).pending = s.pending := rfl

/-! ### interjectOn -/

@[simp] theorem State.interjectOn_rd (t : TerminalId) (m : Message) : (s.interjectOn t m).rd = s.rd := rfl
@[simp] theorem State.interjectOn_hlu (t : TerminalId) (m : Message) : (s.interjectOn t m).hlu = s.hlu := rfl
@[simp] theorem State.interjectOn_tlu_line (t : TerminalId) (m : Message) : (s.interjectOn t m).tlu.line = s.tlu.line := rfl
@[simp] theorem State.interjectOn_tlu_lastOffline (t : TerminalId) (m : Message) : (s.interjectOn t m).tlu.lastOffline = s.tlu.lastOffline := rfl
@[simp] theorem State.interjectOn_tlu_lastOnline (t : TerminalId) (m : Message) : (s.interjectOn t m).tlu.lastOnline = s.tlu.lastOnline := rfl
@[simp] theorem State.interjectOn_csu (t : TerminalId) (m : Message) : (s.interjectOn t m).csu = s.csu := rfl
@[simp] theorem State.interjectOn_ae (t : TerminalId) (m : Message) : (s.interjectOn t m).ae = s.ae := rfl
@[simp] theorem State.interjectOn_dcu (t : TerminalId) (m : Message) : (s.interjectOn t m).dcu = s.dcu := rfl
@[simp] theorem State.interjectOn_lau (t : TerminalId) (m : Message) : (s.interjectOn t m).lau = s.lau := rfl
@[simp] theorem State.interjectOn_dlu (t : TerminalId) (m : Message) : (s.interjectOn t m).dlu = s.dlu := rfl
@[simp] theorem State.interjectOn_scc (t : TerminalId) (m : Message) : (s.interjectOn t m).scc = s.scc := rfl
@[simp] theorem State.interjectOn_reu (t : TerminalId) (m : Message) : (s.interjectOn t m).reu = s.reu := rfl
@[simp] theorem State.interjectOn_til (t : TerminalId) (m : Message) : (s.interjectOn t m).til = s.til := rfl
@[simp] theorem State.interjectOn_power (t : TerminalId) (m : Message) : (s.interjectOn t m).power = s.power := rfl
@[simp] theorem State.interjectOn_pending (t : TerminalId) (m : Message) : (s.interjectOn t m).pending = s.pending := rfl

/-! ### assertHalt -/

@[simp] theorem State.assertHalt_rd : (s.assertHalt).rd = s.rd := rfl
@[simp] theorem State.assertHalt_hlu : (s.assertHalt).hlu = s.hlu := rfl
@[simp] theorem State.assertHalt_tlu : (s.assertHalt).tlu = s.tlu := rfl
@[simp] theorem State.assertHalt_csu : (s.assertHalt).csu = s.csu := rfl
@[simp] theorem State.assertHalt_ae : (s.assertHalt).ae = s.ae := rfl
@[simp] theorem State.assertHalt_dcu : (s.assertHalt).dcu = s.dcu := rfl
@[simp] theorem State.assertHalt_lau : (s.assertHalt).lau = s.lau := rfl
@[simp] theorem State.assertHalt_dlu_heads : (s.assertHalt).dlu.heads = s.dlu.heads := rfl
@[simp] theorem State.assertHalt_dlu_line : (s.assertHalt).dlu.line = s.dlu.line := rfl
@[simp] theorem State.assertHalt_dlu_commandPos : (s.assertHalt).dlu.commandPos = s.dlu.commandPos := rfl
@[simp] theorem State.assertHalt_dlu_activePos : (s.assertHalt).dlu.activePos = s.dlu.activePos := rfl
@[simp] theorem State.assertHalt_dlu_inactivePos : (s.assertHalt).dlu.inactivePos = s.dlu.inactivePos := rfl
@[simp] theorem State.assertHalt_dlu_runCount : (s.assertHalt).dlu.runCount = s.dlu.runCount := rfl
@[simp] theorem State.assertHalt_dlu_pollCount : (s.assertHalt).dlu.pollCount = s.dlu.pollCount := rfl
@[simp] theorem State.assertHalt_dlu_capture : (s.assertHalt).dlu.capture = s.dlu.capture := rfl
@[simp] theorem State.assertHalt_dlu_further : (s.assertHalt).dlu.further = s.dlu.further := rfl
@[simp] theorem State.assertHalt_scc_cut : (s.assertHalt).scc.cut = s.scc.cut := rfl
@[simp] theorem State.assertHalt_scc_estopHeld : (s.assertHalt).scc.estopHeld = s.scc.estopHeld := rfl
@[simp] theorem State.assertHalt_reu : (s.assertHalt).reu = s.reu := rfl
@[simp] theorem State.assertHalt_til : (s.assertHalt).til = s.til := rfl
@[simp] theorem State.assertHalt_power : (s.assertHalt).power = s.power := rfl
@[simp] theorem State.assertHalt_pending : (s.assertHalt).pending = s.pending := rfl

/-! ### clearLatch -/

@[simp] theorem State.clearLatch_rd_contexts : (s.clearLatch).rd.contexts = s.rd.contexts := rfl
@[simp] theorem State.clearLatch_rd_freeList : (s.clearLatch).rd.freeList = s.rd.freeList := rfl
@[simp] theorem State.clearLatch_rd_counter : (s.clearLatch).rd.counter = s.rd.counter := rfl
@[simp] theorem State.clearLatch_rd_records : (s.clearLatch).rd.records = s.rd.records := rfl
@[simp] theorem State.clearLatch_rd_standIn : (s.clearLatch).rd.standIn = s.rd.standIn := rfl
@[simp] theorem State.clearLatch_rd_locks : (s.clearLatch).rd.locks = s.rd.locks := rfl
@[simp] theorem State.clearLatch_rd_clock : (s.clearLatch).rd.clock = s.rd.clock := rfl
@[simp] theorem State.clearLatch_rd_clockTenths : (s.clearLatch).rd.clockTenths = s.rd.clockTenths := rfl
@[simp] theorem State.clearLatch_rd_clockValid : (s.clearLatch).rd.clockValid = s.rd.clockValid := rfl
@[simp] theorem State.clearLatch_rd_intact : (s.clearLatch).rd.intact = s.rd.intact := rfl
@[simp] theorem State.clearLatch_rd_check : (s.clearLatch).rd.check = s.rd.check := rfl
@[simp] theorem State.clearLatch_hlu : (s.clearLatch).hlu = s.hlu := rfl
@[simp] theorem State.clearLatch_tlu : (s.clearLatch).tlu = s.tlu := rfl
@[simp] theorem State.clearLatch_csu : (s.clearLatch).csu = s.csu := rfl
@[simp] theorem State.clearLatch_ae : (s.clearLatch).ae = s.ae := rfl
@[simp] theorem State.clearLatch_dcu : (s.clearLatch).dcu = s.dcu := rfl
@[simp] theorem State.clearLatch_lau : (s.clearLatch).lau = s.lau := rfl
@[simp] theorem State.clearLatch_dlu : (s.clearLatch).dlu = s.dlu := rfl
@[simp] theorem State.clearLatch_scc_cut : (s.clearLatch).scc.cut = s.scc.cut := rfl
@[simp] theorem State.clearLatch_scc_estopHeld : (s.clearLatch).scc.estopHeld = s.scc.estopHeld := rfl
@[simp] theorem State.clearLatch_reu : (s.clearLatch).reu = s.reu := rfl
@[simp] theorem State.clearLatch_til : (s.clearLatch).til = s.til := rfl
@[simp] theorem State.clearLatch_power : (s.clearLatch).power = s.power := rfl
@[simp] theorem State.clearLatch_pending : (s.clearLatch).pending = s.pending := rfl

/-! ### haltSent -/

@[simp] theorem State.haltSent_rd : (s.haltSent).rd = s.rd := rfl
@[simp] theorem State.haltSent_hlu : (s.haltSent).hlu = s.hlu := rfl
@[simp] theorem State.haltSent_tlu : (s.haltSent).tlu = s.tlu := rfl
@[simp] theorem State.haltSent_csu : (s.haltSent).csu = s.csu := rfl
@[simp] theorem State.haltSent_ae : (s.haltSent).ae = s.ae := rfl
@[simp] theorem State.haltSent_dcu : (s.haltSent).dcu = s.dcu := rfl
@[simp] theorem State.haltSent_lau : (s.haltSent).lau = s.lau := rfl
@[simp] theorem State.haltSent_dlu_heads : (s.haltSent).dlu.heads = s.dlu.heads := rfl
@[simp] theorem State.haltSent_dlu_commandPos : (s.haltSent).dlu.commandPos = s.dlu.commandPos := rfl
@[simp] theorem State.haltSent_dlu_activePos : (s.haltSent).dlu.activePos = s.dlu.activePos := rfl
@[simp] theorem State.haltSent_dlu_inactivePos : (s.haltSent).dlu.inactivePos = s.dlu.inactivePos := rfl
@[simp] theorem State.haltSent_dlu_runCount : (s.haltSent).dlu.runCount = s.dlu.runCount := rfl
@[simp] theorem State.haltSent_dlu_pollCount : (s.haltSent).dlu.pollCount = s.dlu.pollCount := rfl
@[simp] theorem State.haltSent_dlu_capture : (s.haltSent).dlu.capture = s.dlu.capture := rfl
@[simp] theorem State.haltSent_dlu_further : (s.haltSent).dlu.further = s.dlu.further := rfl
@[simp] theorem State.haltSent_scc : (s.haltSent).scc = s.scc := rfl
@[simp] theorem State.haltSent_reu : (s.haltSent).reu = s.reu := rfl
@[simp] theorem State.haltSent_til : (s.haltSent).til = s.til := rfl
@[simp] theorem State.haltSent_power : (s.haltSent).power = s.power := rfl
@[simp] theorem State.haltSent_pending : (s.haltSent).pending = s.pending := rfl

/-! ### writeCheck -/

@[simp] theorem State.writeCheck_rd_contexts : (s.writeCheck).rd.contexts = s.rd.contexts := rfl
@[simp] theorem State.writeCheck_rd_freeList : (s.writeCheck).rd.freeList = s.rd.freeList := rfl
@[simp] theorem State.writeCheck_rd_counter : (s.writeCheck).rd.counter = s.rd.counter := rfl
@[simp] theorem State.writeCheck_rd_records : (s.writeCheck).rd.records = s.rd.records := rfl
@[simp] theorem State.writeCheck_rd_standIn : (s.writeCheck).rd.standIn = s.rd.standIn := rfl
@[simp] theorem State.writeCheck_rd_latch : (s.writeCheck).rd.latch = s.rd.latch := rfl
@[simp] theorem State.writeCheck_rd_sourceHost : (s.writeCheck).rd.sourceHost = s.rd.sourceHost := rfl
@[simp] theorem State.writeCheck_rd_sourceEstop : (s.writeCheck).rd.sourceEstop = s.rd.sourceEstop := rfl
@[simp] theorem State.writeCheck_rd_locks : (s.writeCheck).rd.locks = s.rd.locks := rfl
@[simp] theorem State.writeCheck_rd_clock : (s.writeCheck).rd.clock = s.rd.clock := rfl
@[simp] theorem State.writeCheck_rd_clockTenths : (s.writeCheck).rd.clockTenths = s.rd.clockTenths := rfl
@[simp] theorem State.writeCheck_rd_clockValid : (s.writeCheck).rd.clockValid = s.rd.clockValid := rfl
@[simp] theorem State.writeCheck_rd_intact : (s.writeCheck).rd.intact = s.rd.intact := rfl
@[simp] theorem State.writeCheck_hlu : (s.writeCheck).hlu = s.hlu := rfl
@[simp] theorem State.writeCheck_tlu : (s.writeCheck).tlu = s.tlu := rfl
@[simp] theorem State.writeCheck_csu : (s.writeCheck).csu = s.csu := rfl
@[simp] theorem State.writeCheck_ae : (s.writeCheck).ae = s.ae := rfl
@[simp] theorem State.writeCheck_dcu : (s.writeCheck).dcu = s.dcu := rfl
@[simp] theorem State.writeCheck_lau : (s.writeCheck).lau = s.lau := rfl
@[simp] theorem State.writeCheck_dlu : (s.writeCheck).dlu = s.dlu := rfl
@[simp] theorem State.writeCheck_scc : (s.writeCheck).scc = s.scc := rfl
@[simp] theorem State.writeCheck_reu : (s.writeCheck).reu = s.reu := rfl
@[simp] theorem State.writeCheck_til : (s.writeCheck).til = s.til := rfl
@[simp] theorem State.writeCheck_power : (s.writeCheck).power = s.power := rfl
@[simp] theorem State.writeCheck_pending : (s.writeCheck).pending = s.pending := rfl

/-! ### setPointer -/

@[simp] theorem State.setPointer_rd (t : TableName) (n : Nat) : (s.setPointer t n).rd = s.rd := rfl
@[simp] theorem State.setPointer_hlu (t : TableName) (n : Nat) : (s.setPointer t n).hlu = s.hlu := rfl
@[simp] theorem State.setPointer_tlu (t : TableName) (n : Nat) : (s.setPointer t n).tlu = s.tlu := rfl
@[simp] theorem State.setPointer_csu_ranges (t : TableName) (n : Nat) : (s.setPointer t n).csu.ranges = s.csu.ranges := rfl
@[simp] theorem State.setPointer_csu_programs (t : TableName) (n : Nat) : (s.setPointer t n).csu.programs = s.csu.programs := rfl
@[simp] theorem State.setPointer_csu_deny (t : TableName) (n : Nat) : (s.setPointer t n).csu.deny = s.csu.deny := rfl
@[simp] theorem State.setPointer_ae (t : TableName) (n : Nat) : (s.setPointer t n).ae = s.ae := rfl
@[simp] theorem State.setPointer_dcu (t : TableName) (n : Nat) : (s.setPointer t n).dcu = s.dcu := rfl
@[simp] theorem State.setPointer_lau (t : TableName) (n : Nat) : (s.setPointer t n).lau = s.lau := rfl
@[simp] theorem State.setPointer_dlu (t : TableName) (n : Nat) : (s.setPointer t n).dlu = s.dlu := rfl
@[simp] theorem State.setPointer_scc (t : TableName) (n : Nat) : (s.setPointer t n).scc = s.scc := rfl
@[simp] theorem State.setPointer_reu (t : TableName) (n : Nat) : (s.setPointer t n).reu = s.reu := rfl
@[simp] theorem State.setPointer_til (t : TableName) (n : Nat) : (s.setPointer t n).til = s.til := rfl
@[simp] theorem State.setPointer_power (t : TableName) (n : Nat) : (s.setPointer t n).power = s.power := rfl
@[simp] theorem State.setPointer_pending (t : TableName) (n : Nat) : (s.setPointer t n).pending = s.pending := rfl

/-! ### setEstopPin -/

@[simp] theorem State.setEstopPin_rd (low : Bool) : (s.setEstopPin low).rd = s.rd := rfl
@[simp] theorem State.setEstopPin_hlu (low : Bool) : (s.setEstopPin low).hlu = s.hlu := rfl
@[simp] theorem State.setEstopPin_tlu (low : Bool) : (s.setEstopPin low).tlu = s.tlu := rfl
@[simp] theorem State.setEstopPin_csu (low : Bool) : (s.setEstopPin low).csu = s.csu := rfl
@[simp] theorem State.setEstopPin_ae (low : Bool) : (s.setEstopPin low).ae = s.ae := rfl
@[simp] theorem State.setEstopPin_dcu (low : Bool) : (s.setEstopPin low).dcu = s.dcu := rfl
@[simp] theorem State.setEstopPin_lau (low : Bool) : (s.setEstopPin low).lau = s.lau := rfl
@[simp] theorem State.setEstopPin_dlu (low : Bool) : (s.setEstopPin low).dlu = s.dlu := rfl
@[simp] theorem State.setEstopPin_scc (low : Bool) : (s.setEstopPin low).scc = s.scc := rfl
@[simp] theorem State.setEstopPin_reu (low : Bool) : (s.setEstopPin low).reu = s.reu := rfl
@[simp] theorem State.setEstopPin_til (low : Bool) : (s.setEstopPin low).til = s.til := rfl
@[simp] theorem State.setEstopPin_power_phase (low : Bool) : (s.setEstopPin low).power.phase = s.power.phase := rfl
@[simp] theorem State.setEstopPin_power_rstLow (low : Bool) : (s.setEstopPin low).power.rstLow = s.power.rstLow := rfl
@[simp] theorem State.setEstopPin_power_pfailLow (low : Bool) : (s.setEstopPin low).power.pfailLow = s.power.pfailLow := rfl
@[simp] theorem State.setEstopPin_pending (low : Bool) : (s.setEstopPin low).pending = s.pending := rfl

end Sys2Proof.Machine
end

