-- ==== Sys2Proof/Tests/Slice0.lean ====
section
/-! SUPPORT. Tests: ill-formed commands refused, values of the handbook's examples, small steps, and a witness for the hypotheses of each statement. -/

namespace Sys2Proof.Tests

open Sys2Proof Sys2Proof.Machine

set_option maxRecDepth 40000

/-! ### States to test on -/

/-- The state after reset with its tables loaded (empty), both island links quiet. -/
def up : State :=
  { State.reset with
    til := { State.reset.til with load := .run }
    tlu := { State.reset.tlu with line := .quiet }
    dlu := { State.reset.dlu with line := .quiet } }

/-- Channel A of the test lane: head 1, head channel 1, product 1, K = 1,000. -/
def hose : ChannelSetup := ⟨0, .one, 0, 1000⟩

/-- Lane 1, open, at terminal 1. -/
def lane1 : Lane :=
  { Lane.starting .idle with config := ⟨true, some 0, ⟨some hose, none, none⟩⟩, prices := .fill 8 1500 }

/-- A program with prompt DRIVER and stand-in. -/
def fleet : Program := ⟨.fleet, [.driver], 0xFF, 10000, some 30000, none, true, 5000, 2⟩

/-- Terminal 1, ONLINE and IDLE. -/
def terminal1 : Terminal := { Terminal.starting with online := true, mode := .idle, offlinePoll := .stopped }

/-- Head 1, ONLINE, with a last report on its channel 1. -/
def head1 : Head :=
  { Head.starting with online := true, offlinePoll := .stopped, last := ⟨some ⟨.hung, .closed, .none, false, 5⟩, none⟩ }

/-- `up` with lane 1, terminal 1 and head 1 at work, and card range 7089 on program 1. -/
def site : State :=
  { up with
    dcu := ⟨up.dcu.lanes.set 0 lane1⟩
    tlu := { up.tlu with terminals := up.tlu.terminals.set 0 terminal1 }
    dlu := { up.dlu with heads := up.dlu.heads.set 0 head1 }
    csu := { up.csu with
      ranges := up.csu.ranges.set 0 ⟨4, [0x37, 0x30, 0x38, 0x39], .program 1⟩
      programs := up.csu.programs.set 0 fleet } }

/-- The card number of section 2.2's example. -/
def goodNumber : Digits := [7, 0, 8, 9, 3, 4, 1, 2, 0, 0, 5, 6, 1, 2, 3, 8]

/-- The same card as an item. -/
def goodCard : CardItem := ⟨goodNumber.map asciiOf, [0x33, 0x30], [0x31, 0x32], true⟩

/-- A channel record of the test lane in a state. -/
def chan (st : ChannelState) : ChannelRecord := { ChannelRecord.atBinding (some hose) with state := st }

/-- A context of transaction 7 bound to lane 1. -/
def boundTo (st : ContextState) (r : ChannelRecord) : Context :=
  { Context.cleared with
    state := st, transaction := 7, terminal := some 0, lane := some 0, card := ⟨goodNumber, 30, 12⟩, program := some 0,
    copy := some fleet, requestedAmount := some 10000, requestedSet := some 1, prices := some (.fill 8 1500),
    channels := some ⟨r, .atBinding none, .atBinding none⟩, deadline := some ⟨30, 300⟩ }

/-- `site` with a context in use at the head of the pool. -/
def busy (c : Context) : State :=
  { site with
    rd := { site.rd with contexts := site.rd.contexts.set 0 c, freeList := site.rd.freeList.tail }
    dcu := ⟨site.dcu.lanes.set 0 { lane1 with state := .inUse }⟩ }

/-- A command for the test lane's channel A, of context 1. -/
def cmd (p : Payload) : Command := ⟨0, .one, 0, .a, some (0, 7), p⟩

/-- A state with the dispenser link set. -/
def online (s : State) (x : DispenserLine) : State := s.setLine x

/-- The reply window of a poll of terminal 1 open. -/
def polling (s : State) : State := s.setTermLine (.window ⟨0, none, .welcome⟩)

/-- Terminal 1 changed. -/
def atTerm (s : State) (f : Terminal → Terminal) : State := s.modTerm 0 f

/-- Channel B of the test lane, where it has one: head 2, head channel 1, product 1. -/
def hoseB : ChannelSetup := ⟨1, .one, 0, 1000⟩

/-- A channel record of channel B in a state. -/
def chanB (st : ChannelState) : ChannelRecord := { ChannelRecord.atBinding (some hoseB) with state := st }

/-- A context of transaction 7 on channels A and B, approved for 100.00. -/
def pair (st : ContextState) (a b : ChannelRecord) : Context :=
  { boundTo st a with
    source := some .host, approval := some ⟨10000, 1, none, none, none⟩, channels := some ⟨a, b, .atBinding none⟩ }

/-- `busy` with head 2 ONLINE too. -/
def busyPair (c : Context) : State := { busy c with dlu := { site.dlu with heads := site.dlu.heads.set 1 head1 } }

/-! ### WellFormed -/

theorem test_wf_status_too_long : (Instr.status 0 511).wellFormed = false := by decide
theorem test_wf_status : (Instr.status 0 510).wellFormed = true := by decide
theorem test_wf_too_many_pairs : (Instr.setPrices 0 0 (List.replicate 256 (1, 0))).wellFormed = false := by decide
theorem test_wf_range_digits : (Instr.loadTable 0 16 ⟨1, 0⟩ (.range [⟨4, List.replicate 11 0x30, .excluded⟩])).wellFormed = false := by decide
theorem test_wf_range_length : (Instr.loadTable 0 16 ⟨1, 0⟩ (.range [⟨256, [], .excluded⟩])).wellFormed = false := by decide
theorem test_wf_table_code : (Instr.loadTable 0 4 ⟨1, 0⟩ (.unknown 4)).wellFormed = false := by decide
theorem test_wf_deny_count : (Instr.loadTable 0 4 ⟨1, 0⟩ (.deny (List.replicate 256 []))).wellFormed = false := by decide
theorem test_wf_program_prompts :
    (Instr.loadTable 0 33 ⟨1, 0⟩ (.program [⟨1, List.replicate 256 2, 0, 0, 0, 0, 0, false, 0, 0⟩])).wellFormed = false := by decide
theorem test_wf_product_count :
    (Instr.loadTable 0 4 ⟨1, 0⟩ (.product (List.replicate 256 ⟨1, 0⟩))).wellFormed = false := by decide
theorem test_wf_auth_code : (Instr.authResult 0 28 ⟨1, 1, 1, 1, 0, 0, 0, 0, [0x41]⟩).wellFormed = false := by decide
theorem test_wf_auth : (Instr.authResult 0 28 ⟨1, 1, 1, 1, 0, 0, 0, 1, [0x41, 0, 0, 0, 0, 0, 0, 0]⟩).wellFormed = true := by decide
theorem test_wf_known_code : (Instr.unknownRequest 0 0 24).wellFormed = false := by decide
theorem test_wf_unknown_code : (Instr.unknownRequest 0 0 25).wellFormed = true := by decide
theorem test_wf_raw_body : (Instr.hostFrameComplete ⟨1, 0, List.replicate 511 0, 0⟩).wellFormed = false := by decide
theorem test_wf_good_length : (Instr.hostBadLength 512).wellFormed = false := by decide
theorem test_wf_bad_length : (Instr.hostBadLength 513).wellFormed = true := by decide
theorem test_wf_card_number : (Instr.terminalCard 0 true ⟨List.replicate 25 0x30, [], [], true⟩).wellFormed = false := by decide
theorem test_wf_card_expiry : (Instr.terminalCard 0 true ⟨[], [0x30, 0x30, 0x30], [], true⟩).wellFormed = false := by decide
theorem test_wf_entry : (Instr.terminalEntry 0 true (List.replicate 13 0x30)).wellFormed = false := by decide
theorem test_wf_no_report : (Instr.pollReply 0 false []).wellFormed = false := by decide
theorem test_wf_two_reports_of_one_channel :
    (Instr.pollReply 0 false [⟨.one, .hung, .closed, .none, false, 0⟩, ⟨.one, .hung, .closed, .none, false, 1⟩]).wellFormed = false := by
  decide

/-! ### Values of the handbook's examples and rules -/

/-- Section 11.1: the check of the nine characters 123456789. -/
theorem test_crc_check_value :
    crc16 [0x31, 0x32, 0x33, 0x34, 0x35, 0x36, 0x37, 0x38, 0x39] = 0x29B1 := by decide

/-- R28: the example number passes, and fails with its last digit changed. -/
theorem test_check_digit_example : checkDigitGood goodNumber = true := by decide
theorem test_check_digit_changed : checkDigitGood [7, 0, 8, 9, 3, 4, 1, 2, 0, 0, 5, 6, 1, 2, 3, 9] = false := by decide

/-- R140: with K = 1,000, S = 300 cl and an allowed volume of 500 cl, stop 5,009 and slow 2,009. -/
theorem test_points_example : pointsFor 500 300 1000 = ⟨5009, 2009⟩ := by decide

/-- R140: with K = 30, S = 300 cl and an allowed volume of 1,001 cl, stop 300 and slow 210. -/
theorem test_points_example_small_k : pointsFor 1001 300 30 = ⟨300, 210⟩ := by decide

/-- R145: an exact half cent is rounded up. -/
theorem test_half_cent_rounds_up : lineAmount 1 500 = 1 ∧ lineAmount 1 499 = 0 := by decide

/-- Section 2.3.1: the range table of the example. -/
def exampleRanges : List RangeEntry :=
  [⟨4, [0x37, 0x30, 0x38, 0x39], .program 7⟩, ⟨6, [0x37, 0x30, 0x38, 0x39, 0x33, 0x34], .excluded⟩,
   ⟨7, [0x37, 0x30, 0x38, 0x39, 0x33, 0x34, 0x31], .program 12⟩, ⟨7, [0x37, 0x30, 0x38, 0x39, 0x33, 0x34, 0x31], .program 3⟩]

theorem test_range_lookup_lower_index :
    (bestRange goodNumber exampleRanges).map (·.target) = some (.program 12) := by decide
theorem test_range_lookup_excluded :
    (bestRange [7, 0, 8, 9, 3, 4, 9, 9, 0, 0, 0, 0] exampleRanges).map (·.target) = some .excluded := by decide
theorem test_range_lookup_short :
    (bestRange [7, 0, 8, 9, 5, 0, 2, 1, 0, 0, 0, 0] exampleRanges).map (·.target) = some (.program 7) := by decide
theorem test_range_lookup_none : bestRange [4, 4, 0, 0, 1, 2, 1, 2, 0, 0, 0, 0] exampleRanges = none := by decide

/-- R188: 29 February of a year divisible by 4; the end of 2099. -/
theorem test_clock_leap : (DateTime.nextMinute ⟨2024, 2, 28, 23, 59, 30⟩) = ⟨2024, 2, 29, 0, 0, 0⟩ := by decide
theorem test_clock_end : (DateTime.nextMinute ⟨2099, 12, 31, 23, 59, 59⟩) = ⟨2000, 1, 1, 0, 0, 0⟩ := by decide

/-- R166, section 11.5: the flag word's bits in the order of the flags. -/
theorem test_flag_word : (ContextFlags.word ⟨true, false, false, true, false, false, false, true⟩) = 137 := by decide

/-! ### The worked delivery of section 7.8 -/

/-- The classes of its products: 1 diesel, 2 DEF. -/
def workedClass (p : Product) : ProductClass := if p.val = 0 then .diesel else .exhaustFluid

/-- A channel of its lane. -/
def workedChannel (p : Product) (k : Nat) (st : ChannelState) (ext : Nat) (pts : Option Points) : ChannelRecord :=
  { ChannelRecord.atBinding (some ⟨0, .one, p, k⟩) with state := st, extended := ext, points := pts }

/-- Its context, with three channel records and an allocation. -/
def worked (a b c : ChannelRecord) (alloc : Allocation) : Context :=
  { Context.cleared with
    state := .delivering, source := some .host, approval := some ⟨60000, 3, some 40000, some 4000, none⟩,
    prices := some ⟨[1799, 989, 0, 0, 0, 0, 0, 0], by decide⟩, channels := some ⟨a, b, c⟩, allocation := alloc }

/-- Steps 2 and 3: A and B flowing, C where given. -/
def workedA (ext : Nat) (p : Points) : ChannelRecord := workedChannel 0 100 .flowing ext (some p)

theorem test_worked_step1 :
    (worked (workedChannel 0 100 .allocating 0 none) (workedChannel 0 100 .idle 0 none) (workedChannel 1 50 .idle 0 none)
      ⟨.lowering, ⟨true, false, false⟩, .fill none, false⟩).phaseTwo workedClass 200 =
      ⟨some ⟨33351, ⟨33351, 33151⟩⟩, none, none⟩ := by decide

theorem test_worked_step2_phase1 :
    (worked (workedA 12000 ⟨33351, 33151⟩) (workedChannel 0 100 .allocating 0 none) (workedChannel 1 50 .idle 0 none)
      .clear).phaseOne workedClass 200 =
      ⟨some ⟨10675, ⟨22675, 22475⟩⟩, some ⟨10675, ⟨10675, 10475⟩⟩, none⟩ := by decide

theorem test_worked_step2_phase2 :
    (worked (workedA 12000 ⟨22675, 22475⟩) (workedChannel 0 100 .allocating 0 none) (workedChannel 1 50 .idle 0 none)
      ⟨.lowering, ⟨false, true, false⟩, ⟨some ⟨⟨22675, 22475⟩, some 22675⟩, none, none⟩, false⟩).phaseTwo workedClass 200 =
      ⟨none, some ⟨10676, ⟨10676, 10476⟩⟩, none⟩ := by decide

theorem test_worked_step3_phase1 :
    (worked (workedA 20000 ⟨22675, 22475⟩) (workedA 6000 ⟨10676, 10476⟩) (workedChannel 1 50 .allocating 0 none)
      .clear).phaseOne workedClass 200 =
      ⟨some ⟨2576, ⟨22576, 22376⟩⟩, some ⟨2576, ⟨8576, 8376⟩⟩, some ⟨4000, ⟨2000, 1900⟩⟩⟩ := by decide

theorem test_worked_step3_phase2 :
    (worked (workedA 20010 ⟨22576, 22376⟩) (workedA 6020 ⟨8576, 8376⟩) (workedChannel 1 50 .allocating 0 none)
      ⟨.lowering, ⟨false, false, true⟩, ⟨some ⟨⟨22576, 22376⟩, some 22576⟩, some ⟨⟨8576, 8376⟩, some 8576⟩, none⟩,
        false⟩).phaseTwo workedClass 200 =
      ⟨none, none, some ⟨4000, ⟨2000, 1900⟩⟩⟩ := by decide

/-- Step 4: the record's lines and total, and what is left of the budget. -/
theorem test_worked_record :
    let c := worked (workedChannel 0 100 .done 22580 none) (workedChannel 0 100 .done 8576 none)
      (workedChannel 1 50 .done 1650 none) .clear
    c.saleLines = [⟨0, 31156, 1799, 56050⟩, ⟨1, 3300, 989, 3264⟩] ∧ saleTotal c.saleLines = 59314 ∧ c.remaining = 685656 := by
  decide

/-! ### The other worked examples -/

/-- Section 5.11: a count carried over the low 16 bits, and a jump. -/
theorem test_count_extended :
    (({ chan .flowing with extended := 130536, low16 := 65000 } : ChannelRecord).extend false 1204).extended = 132276 := by
  decide
theorem test_count_jump :
    let r := { chan .flowing with extended := 132276, low16 := 1204 }
    jumps r false 40000 = true ∧ (r.extend false 40000).extended = 132276 ∧ (r.extend false 40000).low16 = 40000 := by decide

/-- Section 5.11: the final-count check. -/
theorem test_final_check : finalGood 132376 171180 = true ∧ finalGood 132376 131000 = false := by decide

/-- Section 5.10: a RELEASE refused as unsupported becomes LIMIT and OPEN; a CLOSE that joins then withdraws both. -/
theorem test_split_and_close :
    joinList (splitBack [] (cmd (.release ⟨2000, 1900⟩)) ⟨2000, 1900⟩) (cmd (.close .stopped false)) =
      [cmd (.close .stopped false)] ∧
    joinWithdrawn (splitBack [] (cmd (.release ⟨2000, 1900⟩)) ⟨2000, 1900⟩) (cmd (.close .stopped false)) =
      [cmd (.limit ⟨2000, 1900⟩ false), cmd .openValve] := by decide

/-- Section 9.6: the full queue of the example. -/
def fullQueue : EventUnit :=
  { EventUnit.starting with events :=
      ⟨.coldStart, 7, .nothing, 1, 1, .cleared⟩ ::
        (((List.finRange 8).map fun t => ⟨.terminalOnline, 2, .terminal t, 0, 1, .cleared⟩) ++
         (((List.finRange 20).map fun h => ⟨.headOnline, 2, .head ⟨h.val, by omega⟩, 0, 1, .cleared⟩) ++
          [⟨.priceAdopted, 1, .lane 1, 0, 1, .cleared⟩, ⟨.priceAdopted, 1, .lane 4, 0, 1, .cleared⟩,
           ⟨.priceAdopted, 1, .lane 8, 0, 1, .cleared⟩])) }

theorem test_full_queue_drops : (fullQueue.occur .laneFault (.lane 8) 3 .cleared).events = fullQueue.events ∧
    (fullQueue.occur .laneFault (.lane 8) 3 .cleared).dropped = 1 := by decide

theorem test_full_queue_lockout :
    let u := (fullQueue.occur .laneLockout (.lane 8) 2 .cleared).occur .priceAdopted (.lane 8) 0 .cleared
    u.events.length = 32 ∧ u.dropped = 1 ∧ u.events.getLast? = some ⟨.laneLockout, 7, .lane 8, 2, 1, .cleared⟩ ∧
      u.events.any (fun e => decide (e.subject = .lane 1)) = false ∧
      (u.events.drop 30).head? = some ⟨.priceAdopted, 1, .lane 8, 0, 2, .cleared⟩ := by decide

/-! ### Small steps -/

/-- The state a command leaves. -/
def after (i : Instr) (s : State) : Option State :=
  match exec i s with
  | .next t => some t
  | _ => none

/-- Section 11.7: the first four frames of the burst, the fourth overrun. -/
theorem test_burst :
    ((((after (.status 1 0) up).bind (after (.nextEvent 2 0))).bind (after (.nextRecord 3 0))).bind
      (after (.uplinkState 4 1 1))).map (fun s => (s.hlu.holding.map (·.tag), s.hlu.errors.overrun, s.ae.online)) =
      some ([2, 3], 1, false) := by decide

/-- Reset with its indicator cleared and main power away comes up as the state after reset (R182, R183). -/
theorem test_cold_start_event :
    ((after .powerUp { up with power := { up.power with phase := .off }, rd := { up.rd with intact := false } }).map
      fun s => (s.reu.events.map (·.detail), s.reu.attn, s.scc.halt)) = some ([1], true, false) := by decide

/-- R152, R154: a press of ESTOP sets the latch and HALT. -/
theorem test_estop_press : (after .estopPress up).map (fun s => (s.rd.latch, s.scc.halt, s.dlu.line)) =
    some (true, true, .haltAll none) := by decide

/-- R3, R4: a card on the single-lane terminal of `site` is taken and the driver is asked for DRIVER. -/
theorem test_card_taken :
    (after (.terminalCard 0 true goodCard) (polling site)).map
      (fun s => ((s.ctx 0).state, (s.ctx 0).transaction, (s.term 0).display, (s.lane 0).state)) =
      some (.prompting, 1, .enter .driver, .inUse) := by decide

/-- R117, R119: an accepted RELEASE opens the channel and its context is DELIVERING. -/
theorem test_release_accepted :
    (after (.dispenserAccepted 0 0 .fast 0) (online (busy (boundTo .armed { chan .opening with points := some ⟨10, 5⟩ }))
      (.window ⟨0, some (cmd (.release ⟨10, 5⟩)), 2⟩))).map
      (fun s => ((s.ctx 0).state, ((s.ctx 0).records.a).state, ((s.ctx 0).records.a).used)) =
      some (.delivering, .flowing, true) := by decide

/-- R127: a CLOSE that fails is a first lane fault. -/
theorem test_close_refused_faults :
    (after (.refusedBusy 0) (online (busy (boundTo .stopping (chan .closing))) (.window ⟨0, some (cmd (.close .stopped false)), 2⟩))).map
      (fun s => ((s.lane 0).state, (s.lane 0).fault, s.rd.records.map (·.flags.fault))) =
      some (.faultStop, some .commandFailed, [true]) := by decide

/-- R84, R156: an OPEN in whose course a stop fell makes no further attempt, though the latch is clear again. -/
theorem test_cut_attempt_is_the_last :
    (let s := online (busy (boundTo .armed (chan .opening))) (.window ⟨0, some (cmd .openValve), 2⟩)
     (after .dispenserReplyWindowExpiry { s with dlu := { s.dlu with cutByStop := true } }).map
      (fun s => ((s.lane 0).fault, ((s.ctx 0).records.a).state))) = some (some .commandFailed, .closing) := by decide

/-- R94: what the list of a head that serves a LOCKED lane holds is not sent; the head is polled. -/
theorem test_locked_head_is_polled_only :
    (let lane := { lane1 with state := .locked }
     let s := { online site (.window ⟨3, none, 0⟩) with dcu := ⟨site.dcu.lanes.set 0 lane⟩ }
     (after .dispenserReplyWindowExpiry (s.modHead 0 fun x => { x with commands := [cmd .final] })).map
      fun s => (s.dlu.line, (s.head 0).commands)) = some (.sending ⟨0, none, 2⟩, [cmd .final]) := by decide

/-- R90, R118: a stop's CLOSE has been sent, the split LIMIT and OPEN wait in the list; the hang-up queues a CLOSE that withdraws both, and with its channel IDLE the STOPPING context closes. -/
theorem test_hang_up_withdraws_the_split_open :
    (let c := busy { boundTo .stopping { chan .opening with closeQueued := some .stopped } with reason := some .hostStop }
     let lifted := c.modLaneChannel 0 .a fun y => { y with nozzle := .lifted }
     let s := (online lifted (.window ⟨0, none, 2⟩)).modHead 0 fun x => { x with commands := [cmd (.limit ⟨20, 10⟩ false), cmd .openValve] }
     (after (.pollReply 0 false [⟨.one, .hung, .closed, .none, true, 5⟩]) s).map fun s =>
      (s.dlu.line, (s.head 0).commands, s.ctx 0)) =
     some (.sending ⟨0, some (cmd (.close .stopped false)), 2⟩, [], .cleared) := by decide

/-- R38: a digit beyond the prefix length is checked too, and an empty entry is checked for its length only. -/
theorem test_range_digits :
    rangeGood ⟨4, [0x37, 0x30, 0x38, 0x39, 0x41], .program 1⟩ = false ∧ rangeGood ⟨4, [0x37, 0x30, 0x38, 0x39, 0x31], .program 1⟩ = true ∧
    rangeGood ⟨0, [0x41], .program 99⟩ = true := by decide

/-! ### Witnesses: states and operands that meet the hypotheses of the statements, clause by clause -/

/-- The part answering a request. -/
def answering (s : State) : State := s.setAnswering (some ⟨0x81, 1, ⟨.done, .none, .nothing⟩⟩)

/-- A raw UPLINK STATE ONLINE with its check. -/
def rawUplink (check : BitVec 16) : RawFrame := ⟨6, 3, [1], check⟩

theorem test_witness_StepRunsTheFrontCommand :
    ({ up with pending := [.hostByteError, .estopPress] } : State).pending = .hostByteError :: [.estopPress] := rfl

theorem test_witness_IdleStepPassesATenth :
    ({ up with ae := { up.ae with silence := some ⟨0, 5⟩ } } : State).pending = [] ∧
    ({ up with ae := { up.ae with silence := some ⟨0, 5⟩ } } : State).dueExpiry = some .hostSilenceTimerExpiry ∧
    up.pending = [] ∧ up.dueExpiry = none ∧ up.power.phase = .running := by decide

theorem test_witness_ReceiverChecksFrames :
    up.power.phase = .running ∧ up.hlu.restarting = false ∧ up.hlu.receiver = .hunting ∧
    (up.setReceiver .inFrame).power.phase = .running ∧ (up.setReceiver .inFrame).hlu.restarting = false ∧
    (up.setReceiver .inFrame).hlu.receiver = .inFrame ∧ (BitVec.ofNat 16 1).toNat < 2 ∧ 512 < (BitVec.ofNat 16 513).toNat ∧
    crc16 (coveredBytes (rawUplink 0)) ≠ (rawUplink 0).check ∧
    (let f := rawUplink (crc16 (coveredBytes (rawUplink 0)))
     crc16 (coveredBytes f) = f.check ∧ f.code = 6 ∧ f.body = [1]) ∧
    (up.setReceiver .inFrame).hlu.answering = none ∧ (up.setReceiver .inFrame).til.load ≠ .loading := by decide

theorem test_witness_FramesWaitWhileARequestIsAnswered :
    let s := answering up
    let full := { s with hlu := { s.hlu with holding := [⟨2, 0, .nextEvent⟩, ⟨3, 0, .nextRecord⟩] } }
    s.power.phase = .running ∧ s.hlu.restarting = false ∧ s.hlu.answering.isSome = true ∧ s.hlu.holding.length < 2 ∧
    full.power.phase = .running ∧ full.hlu.restarting = false ∧ full.hlu.answering.isSome = true ∧ 2 ≤ full.hlu.holding.length := by
  decide

theorem test_witness_FramesWaitWhileARequestIsAnswered_code :
    ∀ code, (⟨1, 0, .unknown 25⟩ : HostFrame).request = .unknown code → code.toNat < 1 ∨ 24 < code.toNat := by
  intro code h
  cases h
  decide

theorem test_witness_RequestsAreRefusedBeforeTheirBlocks :
    up.takes ∧ (BitVec.ofNat 8 0).toNat < 1 ∧ 24 < (BitVec.ofNat 8 25).toNat ∧ 24 < (BitVec.ofNat 8 255).toNat ∧
    requiredLength (⟨1, 1, .status⟩ : HostFrame).request = some 0 ∧ 0 ≠ (⟨1, 1, .status⟩ : HostFrame).length ∧
    State.reset.takes ∧ State.reset.til.load = .loading ∧ takenInLoading .nextAuth = false ∧
    requiredLength .nextAuth = some (⟨1, 0, .nextAuth⟩ : HostFrame).length := by decide

theorem test_witness_ReportsDescribeThePart :
    up.takes ∧ (BitVec.ofNat 8 0).toNat < 1 ∧ 12 < (BitVec.ofNat 8 13).toNat := by decide

theorem test_witness_CaptureIsReadAndCleared :
    up.takes ∧ up.til.load ≠ .loading ∧ State.reset.takes ∧ State.reset.til.load = .loading := by decide

/-- A record of a cancelled context. -/
def aRecord : Record := (boundTo .prompting (chan .idle)).toRecord .cancel .cleared

/-- `up` with one record queued. -/
def recorded : State := { up with rd := { up.rd with records := [aRecord] } }

theorem test_witness_QueuesGiveTheirHeads :
    recorded.takes ∧ recorded.rd.records = aRecord :: [] ∧ up.takes ∧ up.rd.records = [] ∧
    up.reu.events = ⟨.coldStart, 7, .nothing, 1, 1, .cleared⟩ :: [] ∧
    ({ up with reu := .starting } : State).takes ∧ ({ up with reu := .starting } : State).reu.events = [] := by decide

theorem test_witness_SetEventLevelsIsCheckedWhole :
    up.takes ∧ up.til.load ≠ .loading ∧ (BitVec.ofNat 8 7).toNat ≤ 7 ∧
    (([(0, 6), (16, 0)] : List (Fin 17 × Fin 7)).map (·.1)).Nodup ∧
    7 < (BitVec.ofNat 8 8).toNat ∧
    (∃ p ∈ ([(3, 0)] : List (Byte × Byte)), p.1.toNat < 4 ∨ 20 < p.1.toNat ∨ 6 < p.2.toNat) ∧
    ¬(([(4, 0), (4, 1)] : List (Byte × Byte)).map (·.1)).Nodup := by decide

/-- Context 1 offered, behind a closed number in the request list. -/
def offered : State :=
  { busy (boundTo .offered (chan .idle)) with ae := { up.ae with online := true, silence := some ⟨5, 200⟩, requests := [3, 0] } }

theorem test_witness_NextAuthTakesTheOldestOffered :
    offered.takes ∧ offered.til.load ≠ .loading ∧ offered.ae.requests = [3] ++ 0 :: [] ∧
    (∀ j ∈ [(3 : ContextId)], (offered.ctx j).state ≠ .offered) ∧ (offered.ctx 0).state = .offered ∧
    (offered.ctx 0).deadline = some ⟨30, 300⟩ ∧ up.takes ∧ up.til.load ≠ .loading ∧
    (∀ j ∈ up.ae.requests, (up.ctx j).state ≠ .offered) := by decide

theorem test_witness_UplinkFollowsTheHostAndItsSilence :
    offered.takes ∧ offered.til.load ≠ .loading ∧ offered.power.phase = .running ∧ offered.ae.online = true ∧
    offered.ae.silence.isSome = true ∧ up.takes ∧ up.til.load ≠ .loading ∧ up.ae.online = false ∧
    ({ up with ae := { up.ae with silence := some ⟨0, 5⟩ } } : State).ae.silence.isSome = true ∧ (2 : ContextId) ∉ offered.ae.requests ∧
    offered.ae.requests.Nodup ∧ (offered.ctx 3).state ≠ .offered := by decide

/-- An APPROVE for transaction 7. -/
def approve7 (amount : BitVec 32) : AuthResultBody := ⟨7, 1, amount, 0xFF, 1, 40000, 0, 2, [0x41, 0x42, 0, 0, 0, 0, 0, 0]⟩

theorem test_witness_ApproveIsBroughtWithinTheRequest :
    offered.takes ∧ offered.til.load ≠ .loading ∧ offered.findTransaction (approve7 20000).transaction.toNat = some 0 ∧
    (offered.ctx 0).state = .offered ∧ (approve7 20000).transaction ≠ 0 ∧ (approve7 20000).result = 1 ∧
    (approve7 20000).amount.toNat ≤ 999999 ∧ (approve7 20000).codeLength.toNat ≤ 8 ∧
    (∀ x ∈ (approve7 20000).codeChars.take (approve7 20000).codeLength.toNat, 0x20 ≤ x.toNat ∧ x.toNat ≤ 0x7E) ∧
    min (approve7 20000).amount.toNat ((offered.ctx 0).requestedAmount.getD 0) ≠ 0 ∧
    (approve7 20000).products &&& (offered.ctx 0).requestedSet.getD 0 ≠ 0 ∧
    min (approve7 0).amount.toNat ((offered.ctx 0).requestedAmount.getD 0) = 0 ∧ (approve7 0).amount.toNat ≤ 999999 := by decide

/-- A DECLINE for transaction 7. -/
def decline7 : AuthResultBody := ⟨7, 2, 0, 0, 0, 0, 0, 0, [0, 0, 0, 0, 0, 0, 0, 0]⟩

theorem test_witness_DeclineByWhereTheTransactionStands :
    decline7.transaction ≠ 0 ∧ decline7.result = 2 ∧
    (∀ st ∈ [ContextState.taken, .prompting, .armed, .delivering, .recovering],
      (busy (boundTo st (chan .idle))).takes ∧ (busy (boundTo st (chan .idle))).til.load ≠ .loading ∧
      (busy (boundTo st (chan .idle))).findTransaction 7 = some 0 ∧ ((busy (boundTo st (chan .idle))).ctx 0).state = st ∧
      ((busy (boundTo st (chan .idle))).ctx 0).source ≠ some .standIn) ∧
    ((busy { boundTo .armed (chan .idle) with source := some .standIn }).ctx 0).source = some .standIn ∧
    recorded.takes ∧ recorded.findTransaction 7 = none ∧ recorded.findRecord 7 = some aRecord ∧
    up.findTransaction 7 = none ∧ up.findRecord 7 = none := by decide

/-- An image as SAVE TABLES copies it. -/
def image : SiteImage :=
  ⟨site.csu.ranges, site.csu.programs, site.csu.deny, site.lau.products, site.dcu.lanes.map (·.config), site.til.params⟩

theorem test_witness_LoadTableWritesFromItsStart :
    up.takes ∧ up.til.load ≠ .loading ∧ up.til.save = none ∧ exampleRanges.length ≤ 8 ∧ 1 ≤ exampleRanges.length ∧
    exampleRanges.all rangeGood = true ∧ ((1 : Byte) = 1 ∧ (BitVec.ofNat 8 127).toNat < 128) ∧ (2 : Byte) = 2 ∧
    (BitVec.ofNat 8 255).toNat < 256 ∧ (∀ d ∈ [[], goodNumber], d = [] ∨ 12 ≤ d.length ∧ d.length ≤ 19) ∧
    fleet.loadable ∧ (BitVec.ofNat 8 31).toNat < 32 ∧ emptyProgram.fields.kind = 0 := by decide

/-- A save in progress. -/
def saving : State := { site with til := { site.til with save := some image } }

theorem test_witness_LoadTableWritesFromItsStart_refused :
    saving.takes ∧ saving.til.load ≠ .loading ∧ saving.til.save.isSome = true ∧
    requiredLength (.loadTable ⟨1, 0⟩ (.deny [])) = some 4 ∧ requiredLength (.loadTable ⟨1, 0⟩ (.unknown 5)) = none ∧
    128 ≤ (BitVec.ofNat 8 128).toNat := by decide

/-- One entry for each ground of R38's table that a statement names. -/
theorem test_witness_LoadTableWritesFromItsStart_badRange :
    ∀ e ∈ [⟨3, [0x37, 0x30, 0x38], .excluded⟩, ⟨4, [0x37, 0x30, 0x38, 0x39, 0x41], .excluded⟩,
      ⟨4, [0x37, 0x30, 0x38, 0x39], .program 33⟩], rangeRefused e := by decide
theorem test_witness_LoadTableWritesFromItsStart_badProgram :
    ∀ f ∈ [{ fleet.fields with prompts := [2, 1] }, { fleet.fields with kind := 2 }, { fleet.fields with kind := 4 },
      { fleet.fields with dieselLimit := 99 }], programRefused f := by decide
theorem test_witness_LoadTableWritesFromItsStart_badDenyAndProduct :
    denyRefused (List.replicate 11 0x30) ∧ productRefused ⟨3, 0⟩ ∧ productRefused ⟨1, 100000⟩ := by decide

theorem test_witness_LoadedProductsArePricedAtOnce :
    let es : List ProductEntry := [⟨.diesel, 99999, none⟩, ⟨.exhaustFluid, 0, none⟩]
    let at7 : State := { site with csu := { site.csu with pointer := some (.product, 7) } }
    at7.takes ∧ at7.til.load ≠ .loading ∧ at7.til.save = none ∧ 1 ≤ es.length ∧ es.length ≤ 8 ∧
    (∀ e ∈ es, e.price ≤ 99999 ∧ e.pending = none) ∧ (∀ l : LaneId, at7.bound l = none) ∧
    (∀ start ∈ [(⟨1, 0⟩ : StartField), ⟨1, 7⟩, ⟨2, 300⟩], start.mode = 1 ∧ start.index.toNat < 8 ∨ start.mode = 2) ∧
    (busy (boundTo .armed (chan .idle))).takes ∧ (busy (boundTo .armed (chan .idle))).bound 0 ≠ none := by decide

theorem test_witness_ReadTableReturnsEntries :
    up.takes ∧ up.til.load ≠ .loading ∧ (BitVec.ofNat 8 0).toNat < 1 ∧ 4 < (BitVec.ofNat 8 5).toNat := by decide

theorem test_witness_SetPricesIsAdoptedLaneByLane :
    let qs : List (Product × Fin 100000) := [(0, 99999), (7, 0)]
    site.takes ∧ site.til.load = .run ∧ site.til.save = none ∧ 1 ≤ qs.length ∧ (qs.map (·.1)).Nodup ∧
    (∀ l : LaneId, site.bound l = none) ∧
    (busy (boundTo .armed (chan .idle))).takes ∧ (busy (boundTo .armed (chan .idle))).til.load = .run ∧
    (busy (boundTo .armed (chan .idle))).til.save = none ∧ (busy (boundTo .armed (chan .idle))).bound 0 ≠ none ∧
    (let bare := { site with til := { site.til with load := .noTables } }
     bare.takes ∧ bare.til.load = .noTables) ∧
    saving.takes ∧ saving.til.load = .run ∧ saving.til.save.isSome = true ∧
    ([] : List (Byte × BitVec 32)).length < 1 ∧ 8 < (List.replicate 9 ((1, 5) : Byte × BitVec 32)).length ∧
    (BitVec.ofNat 8 9).toNat > 8 ∧ 99999 < (BitVec.ofNat 32 100000).toNat ∧ ¬([1, 1] : List Byte).Nodup := by decide

/-- A SET LANE of lane 2 with one channel on head 2. -/
def lane2Body : SetLaneBody := ⟨2, true, 1, ⟨⟨true, 2, 1, 1, 1000⟩, ⟨false, 0, 0, 0, 0⟩, ⟨false, 0, 0, 0, 0⟩⟩⟩

theorem test_witness_SetLaneWritesTheConfiguration :
    ∃ c, site.takes ∧ site.til.load ≠ .loading ∧ site.til.save = none ∧ laneConfigOf lane2Body = some (1, c) ∧
      channelsDistinct (site.configsWith 1 c) = true ∧ terminalFits (site.configsWith 1 c) c.terminal = true ∧
      (site.lane 1).state = .closed :=
  ⟨⟨true, some 0, ⟨some ⟨1, .one, 0, 1000⟩, none, none⟩⟩, by decide⟩

theorem test_witness_SetLaneWritesTheConfiguration_refused :
    saving.takes ∧ saving.til.load ≠ .loading ∧ saving.til.save.isSome = true ∧ site.takes ∧ site.til.save = none ∧
    (let b := { lane2Body with channels := ⟨⟨true, 25, 1, 1, 1000⟩, ⟨false, 0, 0, 0, 0⟩, ⟨false, 0, 0, 0, 0⟩⟩ }
     (b.channels.get .a).present = true ∧ 24 < (b.channels.get .a).head.toNat) ∧
    (let same := { lane2Body with channels := ⟨⟨true, 1, 1, 1, 1000⟩, ⟨false, 0, 0, 0, 0⟩, ⟨false, 0, 0, 0, 0⟩⟩ }
     laneConfigOf same = some (1, ⟨true, some 0, ⟨some hose, none, none⟩⟩) ∧
      channelsDistinct (site.configsWith 1 ⟨true, some 0, ⟨some hose, none, none⟩⟩) = false) ∧
    (let s := busy (boundTo .armed (chan .idle))
     let c : LaneConfig := ⟨true, none, ⟨some hose, none, none⟩⟩
     s.takes ∧ s.til.save = none ∧ laneConfigOf ⟨1, true, 0, ⟨⟨true, 1, 1, 1, 1000⟩, ⟨false, 0, 0, 0, 0⟩, ⟨false, 0, 0, 0, 0⟩⟩⟩ = some (0, c) ∧
      channelsDistinct (s.configsWith 0 c) = true ∧ terminalFits (s.configsWith 0 c) c.terminal = true ∧
      (s.lane 0).state = .inUse ∧ (s.lane 0).config.terminal ≠ c.terminal) := by decide

theorem test_witness_SiteParametersAreClamped :
    up.takes ∧ up.til.load ≠ .loading ∧
    (([(0, 9), (13, 65535)] : List (Fin 14 × BitVec 16)).map (·.1)).Nodup ∧ 14 < (BitVec.ofNat 8 15).toNat ∧
    (BitVec.ofNat 8 0).toNat < 1 ∧ ¬([14, 14] : List Byte).Nodup := by decide

/-- 29 February 2096, one second before midnight. -/
def leapDay : SetClockBody := ⟨2096, 2, 29, 23, 59, 59⟩

theorem test_witness_SetClockIsChecked :
    up.takes ∧ leapDay.month.toNat = 2 ∧ leapDay.year.toNat % 4 = 0 ∧ 2000 ≤ leapDay.year.toNat ∧ leapDay.year.toNat ≤ 2099 ∧
    1 ≤ leapDay.day.toNat ∧ leapDay.day.toNat ≤ 29 ∧ leapDay.hour.toNat ≤ 23 ∧ leapDay.minute.toNat ≤ 59 ∧
    leapDay.second.toNat ≤ 59 ∧ ¬((⟨2100, 1, 1, 0, 0, 0⟩ : SetClockBody).year.toNat ≤ 2099) := by decide

theorem test_witness_SaveCopiesAndEnds :
    site.takes ∧ site.til.load ≠ .loading ∧ site.til.save = none ∧ saving.power.phase = .running ∧
    saving.til.save = some image ∧ saving.takes ∧ saving.til.load ≠ .loading := by decide

/-- The state after reset with an image in the flash. -/
def flashed (f : FlashImage) : State := { State.reset with til := { State.reset.til with flash := some f } }

theorem test_witness_TableLoadEnds :
    (flashed ⟨7892, crc16 image.bytes, image⟩).power.phase = .running ∧ (flashed ⟨7892, crc16 image.bytes, image⟩).til.load = .loading ∧
    (flashed ⟨7892, crc16 image.bytes, image⟩).til.flash = some ⟨7892, crc16 image.bytes, image⟩ ∧
    (flashed ⟨7891, 0, image⟩).til.flash = some ⟨7891, 0, image⟩ ∧ (7891 : BitVec 16) ≠ 7892 ∧
    (flashed ⟨7892, ~~~crc16 image.bytes, image⟩).til.flash = some ⟨7892, ~~~crc16 image.bytes, image⟩ ∧
    State.reset.til.flash = none :=
  ⟨rfl, rfl, rfl, rfl, by decide, rfl, rfl⟩

/-- A value differs from its complement. -/
theorem complement_ne (x : BitVec 16) : x ≠ ~~~x := fun h => by
  have := congrArg (·.getLsbD 0) h
  simp at this

theorem test_witness_TableLoadEnds_check : crc16 image.bytes ≠ ~~~crc16 image.bytes := complement_ne _

theorem test_witness_StopsCancelBeforeDelivery :
    (∀ st ∈ [ContextState.prompting, .offered, .taken, .armed],
      (busy (boundTo st (chan .idle))).takes ∧ (busy (boundTo st (chan .idle))).til.load ≠ .loading ∧
      (busy (boundTo st (chan .idle))).LatchClean ∧ (busy (boundTo st (chan .idle))).bound 0 = some 0 ∧ (busy (boundTo st (chan .idle))).findTransaction 7 = some 0 ∧
      ((busy (boundTo st (chan .idle))).ctx 0).beforeDelivery) ∧
    (∀ st ∈ [ContextState.stopping, .recovering],
      (busy (boundTo st (chan .closing))).takes ∧ (busy (boundTo st (chan .closing))).LatchClean ∧
      (busy (boundTo st (chan .closing))).bound 0 = some 0 ∧
      (busy (boundTo st (chan .closing))).findTransaction 7 = some 0 ∧ ((busy (boundTo st (chan .closing))).ctx 0).state = st) ∧
    (BitVec.ofNat 32 7) ≠ 0 ∧ (BitVec.ofNat 32 7).toNat = 7 ∧ (BitVec.ofNat 8 13).toNat > 12 ∧ site.bound 0 = none ∧ site.bound 11 = none ∧
    (∀ i : ContextId, (recorded.ctx i).state = .free ∨ (recorded.ctx i).transaction ≠ (BitVec.ofNat 32 7).toNat) := by decide

theorem test_witness_StoppingActsOnEveryChannel :
    (∀ c ∈ [pair .delivering (chan .flowing) (chanB .opening), pair .ending (chan .done) (chanB .idle),
        pair .armed (chan .zeroing) (chanB .idle), pair .delivering (chan .allocating) (chanB .settling)],
      let s := online (busyPair c) (.window ⟨2, none, 0⟩)
      s.takes ∧ s.til.load ≠ .loading ∧ s.bound 0 = some 0 ∧ (s.ctx 0).channels = c.channels ∧ s.dlu.line ≠ .quiet ∧
        ((s.ctx 0).state = .delivering ∨ (s.ctx 0).state = .ending ∨ (s.ctx 0).state = .armed ∧ (s.ctx 0).anyPastIdle = true) ∧
        s.findTransaction (BitVec.ofNat 32 7).toNat = some 0 ∧ (∀ h : HeadId, (s.head h).commands = []) ∧
        (s.head 0).online = true ∧ (s.head 1).online = true ∧ (∀ q ∈ s.servedBy 0, (s.lane q.1).state ≠ .locked) ∧
        ∀ q ∈ s.servedBy 1, (s.lane q.1).state ≠ .locked) ∧
    (BitVec.ofNat 32 7) ≠ 0 := by decide

/-- Lane 1 LOCKED, with a quiet count for its channel A. -/
def lockedLane (quiet : Nat) : State :=
  { site with
    dcu := ⟨site.dcu.lanes.set 0 { lane1 with
      state := .locked, fault := some .meterJump, channels := ⟨{ LaneChannel.starting with quiet := quiet }, .starting, .starting⟩ }⟩
    rd := { site.rd with locks := site.rd.locks.set 0 true }
    scc := { site.scc with cut := site.scc.cut.set 0 true } }

theorem test_witness_ResetLaneEndsASafeLock :
    (lockedLane 2).takes ∧ (lockedLane 2).til.load ≠ .loading ∧ ((lockedLane 2).lane 0).state = .locked ∧
    (lockedLane 2).setup 0 .a = some hose ∧ (lockedLane 2).setup 0 .b = none ∧ (lockedLane 2).setup 0 .c = none ∧
    ((lockedLane 2).head 0).online = true ∧ (((lockedLane 2).lane 0).channels.get .a).quiet = 2 ∧
    ((lockedLane 1).lane 0).state = .locked ∧ (lockedLane 1).setup 0 .a = some hose ∧
    (((lockedLane 1).lane 0).channels.get .a).quiet ≠ 2 ∧ (site.lane 0).state ≠ .locked ∧ site.takes ∧ site.til.load ≠ .loading ∧
    (0#8).toNat < 1 ∧ 12 < (13#8).toNat := by decide

/-- The all-stop latch set. -/
def latched (s : State) : State := { s with rd := { s.rd with latch := true, sourceHost := true }, scc := { s.scc with halt := true } }

/-- `busy` with a list of commands for head 1. -/
def listing (c : Context) (ds : List Command) : State := (busyPair c).modHead 0 fun x => { x with commands := ds }

theorem test_witness_AllStopSetsTheLatch :
    let s := listing (boundTo .armed (chan .idle)) [cmd (.zero 1500 1)]
    s.takes ∧ s.til.load ≠ .loading ∧ s.rd.latch = false ∧ s.ListsSound ∧ s.scc.estopHeld = false ∧
    (∀ i : ContextId, (s.ctx i).state = .free ∨ (s.ctx i).beforeDelivery ∨ (s.ctx i).state = .stopping ∨
      (s.ctx i).state = .recovering) ∧
    (∀ h : HeadId, ∀ c ∈ (s.head h).commands, c.opening = false) ∧ (∀ l, s.lau.adoption.get l = false) ∧
    (latched site).takes ∧ (latched site).til.load ≠ .loading ∧ (latched site).rd.latch = true ∧
    (latched site).scc.estopHeld = false ∧
    ({ latched site with scc := { site.scc with estopHeld := true } } : State).rd.latch = true := by decide

theorem test_witness_AllStopSetsTheLatch_withdrawn :
    let rs : Triple ChannelRecord := ⟨chan .opening, chanB .idle, .atBinding none⟩
    let permitted := pair .armed (chan .opening) (chanB .idle)
    let s := listing permitted [cmd (.release ⟨10, 5⟩)]
    let barred := listing { permitted with approval := none } [cmd (.release ⟨10, 5⟩)]
    (∀ x ∈ [s, barred], x.takes ∧ x.til.load ≠ .loading ∧ x.rd.latch = false ∧ x.ListsSound ∧ x.scc.estopHeld = false ∧
      (x.ctx 0).state = .armed ∧ (x.ctx 0).channels = some rs ∧ (∀ j, j ≠ 0 → (x.ctx j).state = .free) ∧
      (x.head 0).commands = [cmd (.release ⟨10, 5⟩)] ∧ (∀ h, h ≠ 0 → (x.head h).commands = []) ∧
      (cmd (.release ⟨10, 5⟩)).owner = some (0, (x.ctx 0).transaction)) ∧
    (rs.get .a).state = .opening ∧ (∀ e ∈ [Channel.b, .c], (rs.get e).state = .idle) ∧
    (s.ctx 0).mayRelease (rs.get .a) = true ∧ ∀ e ∈ [Channel.a, .b, .c], (barred.ctx 0).permits (rs.get e) = false := by decide

theorem test_witness_AllStopSetsTheLatch_delivering :
    let other : Command := ⟨0, .two, 5, .b, none, .zero 1500 1⟩
    (∀ c ∈ [pair .delivering (chan .flowing) (chanB .opening), pair .ending (chan .done) (chanB .idle)],
      let s := listing c [other]
      s.takes ∧ s.til.load ≠ .loading ∧ s.rd.latch = false ∧ s.ListsSound ∧ s.scc.estopHeld = false ∧
      ((s.ctx 0).state = .delivering ∨ (s.ctx 0).state = .ending) ∧ s.bound 0 = some 0 ∧ (s.ctx 0).channels = c.channels ∧
      (∀ j, j ≠ 0 → (s.ctx j).state = .free) ∧ (s.head 0).online = true ∧ (s.head 1).online = true ∧
      (∀ q ∈ s.servedBy 0, (s.lane q.1).state ≠ .locked) ∧ (∀ q ∈ s.servedBy 1, (s.lane q.1).state ≠ .locked) ∧
      (s.head 0).commands = [other] ∧ ∀ h, h ≠ 0 → (s.head h).commands = []) ∧
    other.lane ≠ 0 ∧ other.opening = false := by decide

theorem test_witness_AllResumeClearsTheLatch :
    State.reset.takes ∧ State.reset.til.load = .loading ∧
    ({ latched site with scc := { site.scc with estopHeld := true } } : State).takes ∧ site.takes ∧ site.til.load ≠ .loading ∧
    site.scc.estopHeld = false ∧ site.rd.latch = false ∧ (latched site).takes ∧ (latched site).rd.latch = true := by decide

theorem test_witness_RestartFollowsItsReply :
    site.takes ∧ site.til.load ≠ .loading ∧ site.til.save = none ∧ saving.takes ∧ saving.til.save.isSome = true ∧
    (answering site).hlu.answering.isSome = true ∧ (answering site).hlu.restarting = false ∧ (answering site).hlu.holding = [] ∧
    (({ answering site with hlu := { (answering site).hlu with restarting := true } } : State).power.phase = .running ∧
      ({ answering site with hlu := { (answering site).hlu with restarting := true } } : State).hlu.restarting = true) ∧
    (let held : State := { answering site with hlu := { (answering site).hlu with holding := [⟨4, 0, .nextRecord⟩] } }
     held.power.phase = .running ∧ held.hlu.answering.isSome = true ∧ held.hlu.restarting = false ∧
      held.hlu.holding = ⟨4, 0, .nextRecord⟩ :: [] ∧
      (({ held with hlu := { held.hlu with answering := none, holding := [] } } : State).serveFrame ⟨4, 0, .nextRecord⟩).works = []) := by
  decide

theorem test_witness_RestartFollowsItsReply_held :
    let stop : HostFrame := ⟨4, 1, .stopLane 1⟩
    let x := (busyPair (pair .delivering (chan .flowing) (chanB .idle))).heard
    let held : State := { x with hlu := { x.hlu with answering := some ⟨0x81, 1, ⟨.done, .none, .nothing⟩⟩, holding := [stop] } }
    held.power.phase = .running ∧ held.hlu.answering.isSome = true ∧ held.hlu.restarting = false ∧ held.hlu.holding = stop :: [] ∧
    held.heard = held ∧ stop.request ≠ .unknown 1 ∧
    (({ held with hlu := { held.hlu with answering := none, holding := [] } } : State).serveFrame stop).works ≠ [] := by decide

theorem test_witness_TerminalPollsAndReplies :
    (site.setTermLine (.sending ⟨0, none, .welcome⟩)).tlu.line = .sending ⟨0, none, .welcome⟩ ∧
    (polling site).tlu.line = .window ⟨0, none, .welcome⟩ ∧ (polling site).power.phase = .running ∧
    ((polling site).term 0).online = true ∧ (polling up).tlu.line = .window ⟨0, none, .welcome⟩ ∧ ((polling up).term 0).online = false := by
  decide

theorem test_witness_TerminalPollsAndReplies_other : ∀ m k, (polling site).tlu.line ≠ .window ⟨1, k, m⟩ := by
  intro m k h
  cases h

/-- An item of an OFFLINE terminal: the one of `up`, polled. -/
theorem test_witness_TerminalPollsAndReplies_item :
    (polling up).tlu.line = .window ⟨0, none, .welcome⟩ ∧ (polling up).power.phase = .running ∧
    ((polling up).term 0).online = false ∧ (after (.terminalCard 0 true goodCard) (polling up)).isSome = true ∧
    (after (.terminalCancel 0 true) (polling up)).isSome = true := by decide

theorem test_witness_awaitsTerminal : (polling site).awaitsTerminal 0 := ⟨by decide, ⟨_, _, rfl⟩, by decide⟩

theorem test_witness_TerminalFailuresAreCounted :
    (polling site).power.phase = .running ∧ (polling site).tlu.line = .window ⟨0, none, .welcome⟩ ∧
    ((polling site).term 0).online = true ∧ ((polling site).term 0).failures < 2 ∧
    ((polling up).term 0).online = false ∧ (polling up).tlu.line = .window ⟨0, none, .welcome⟩ ∧
    2 ≤ ((atTerm (polling site) fun x => { x with failures := 2 }).term 0).failures ∧
    ((atTerm (polling site) fun x => { x with failures := 2 }).term 0).online = true := by decide

/-- A terminal that is OFFLINE with its timer running. -/
def waitingTerminal : Terminal := { Terminal.starting with offlinePoll := .running ⟨3, 20⟩ }

/-- No terminal due, terminal 8 ONLINE, and the link quiet. -/
def quietLink : State :=
  { site with tlu := { site.tlu with terminals := (Tab.fill 8 waitingTerminal).set 7 terminal1 } }

theorem test_witness_TerminalLinkChoosesInRotation :
    up.tlu.line = .quiet ∧ (rotateFrom up.tlu.lastOffline).find? (fun u => (up.term u).due) = some 1 ∧
    quietLink.tlu.line = .quiet ∧ (∀ u, (quietLink.term u).due = false) ∧
    (rotateFrom quietLink.tlu.lastOnline).find? (fun u => (quietLink.term u).online) = some 7 ∧
    (quietLink.term 0).offlinePoll = .running ⟨3, 20⟩ ∧ quietLink.power.phase = .running ∧
    (let none := { quietLink with tlu := { quietLink.tlu with terminals := .fill 8 waitingTerminal } }
     none.tlu.line = .quiet ∧ (∀ u, (none.term u).due = false) ∧ ∀ u, (none.term u).online = false) ∧
    (polling site).tlu.line ≠ .quiet := by decide

theorem test_witness_RepeatedItemsAreNotTaken :
    (atTerm (polling site) fun x => { x with lastTaken := some true }).awaitsTerminal 0 ∧
    ((atTerm (polling site) fun x => { x with lastTaken := some true }).term 0).lastTaken = some true :=
  ⟨⟨by decide, ⟨_, _, rfl⟩, by decide⟩, by decide⟩

theorem test_witness_CardReadsAreRefusedInOrder :
    ∃ data, (polling (latched site)).awaitsTerminal 0 ∧ ((polling (latched site)).term 0).lastTaken ≠ some true ∧
      ((polling (latched site)).term 0).mode = .idle ∧ readCard goodCard = some data ∧ (latched site).rd.latch = true ∧
      ((polling up).lane 0).config.isOpen = false ∧
      ((polling (busy (boundTo .armed (chan .idle)))).lane 0).state ≠ .idle ∧
      (polling (busy (boundTo .armed (chan .idle)))).awaitsTerminal 0 :=
  ⟨⟨goodNumber, 30, 12⟩, ⟨by decide, ⟨_, _, rfl⟩, by decide⟩, by decide, by decide, by decide, by decide, by decide, by decide,
    ⟨by decide, ⟨_, _, rfl⟩, by decide⟩⟩

theorem test_witness_CardReadBindsAndPrompts :
    (polling site).awaitsTerminal 0 ∧ ((polling site).term 0).lastTaken ≠ some true ∧ ((polling site).term 0).mode = .idle ∧
    readCard goodCard = some ⟨goodNumber, 30, 12⟩ ∧ (polling site).cardRefusal 0 = none ∧ (polling site).terminalLanes 0 = [0] ∧
    (polling site).rd.freeList = 0 :: (List.finRange 16).tail ∧
    (polling site).csu.screen ⟨goodNumber, 30, 12⟩ (polling site).stamp = .accepted 0 ∧
    ((polling site).csu.programs.get 0).prompts = .driver :: [] ∧
    (((Context.allocated 0 ⟨goodNumber, 30, 12⟩ (polling site).rd.counter (polling site).stamp).bindTo 0
      ((polling site).lane 0)).screenedTo 0 ((polling site).csu.programs.get 0)).requestable ≠ 0 :=
  ⟨⟨by decide, ⟨_, _, rfl⟩, by decide⟩, by decide⟩

/-- `site` with terminal 1 polled and program 1 changed, lane 4 at terminal 1 too where asked. -/
def offering (two : Bool) (g : Program) : State :=
  let s := polling { site with csu := { site.csu with programs := site.csu.programs.set 0 g } }
  if two then s.setLane 3 { lane1 with config := ⟨true, some 0, .fill none⟩ } else s

theorem test_witness_CardReadBindsAndPrompts_declined :
    let s := polling { site with csu := { site.csu with deny := site.csu.deny.set 3 goodNumber } }
    s.power.phase = .running ∧ s.tlu.line = .window ⟨0, none, .welcome⟩ ∧ (s.term 0).online = true ∧ (s.term 0).lastTaken ≠ some true ∧
    (s.term 0).mode = .idle ∧ s.cardRefusal 0 = none ∧ s.rd.freeList = 0 :: (List.finRange 16).tail ∧
    s.csu.screen ⟨goodNumber, 30, 12⟩ s.stamp = .declined .denyList := by decide

theorem test_witness_CardReadBindsAndPrompts_two :
    let s := offering true fleet
    s.power.phase = .running ∧ s.tlu.line = .window ⟨0, none, .welcome⟩ ∧ (s.term 0).online = true ∧ (s.term 0).lastTaken ≠ some true ∧
    (s.term 0).mode = .idle ∧ s.cardRefusal 0 = none ∧ s.rd.freeList = 0 :: (List.finRange 16).tail ∧
    s.csu.screen ⟨goodNumber, 30, 12⟩ s.stamp = .accepted 0 ∧ s.terminalLanes 0 = [0, 3] := by decide

theorem test_witness_CardReadBindsAndPrompts_prompts :
    ∀ kind ∈ [ProgramKind.site, .fleet],
      let g : Program := { fleet with kind := kind, prompts := [], standIn := false }
      let s := offering false g
      s.csu.programs.get 0 = g ∧ s.cardRefusal 0 = none ∧ s.terminalLanes 0 = [0] ∧
      s.csu.screen ⟨goodNumber, 30, 12⟩ s.stamp = .accepted 0 ∧ s.ae.online = false ∧
      ({ s with ae := { s.ae with online := true } } : State).cardRefusal 0 = none ∧
      (((Context.allocated 0 ⟨goodNumber, 30, 12⟩ s.rd.counter s.stamp).bindTo 0 (s.lane 0)).screenedTo 0 g).requestable ≠ 0 := by decide

/-- Terminal 1 in PROMPT for a kind, its held context 1 PROMPTING. -/
def prompting (k : PromptKind) (attempts : Nat) (lane : Option LaneId) : State :=
  polling (atTerm { busy { boundTo .prompting (chan .idle) with held := true, lane := lane, channels := none } with dcu := site.dcu }
    fun x => { x with mode := .prompt, current := some k, attempts := attempts, display := .enter k })

theorem test_witness_CardErrorsAreShown :
    (polling site).awaitsTerminal 0 ∧ ((polling site).term 0).lastTaken ≠ some true ∧ ((polling site).term 0).mode = .idle ∧
    ({ goodCard with readGood := false } : CardItem).readGood = false ∧ (prompting .driver 0 none).awaitsTerminal 0 ∧
    ((prompting .driver 0 none).term 0).lastTaken ≠ some true ∧ ((prompting .driver 0 none).term 0).mode ≠ .idle :=
  ⟨⟨by decide, ⟨_, _, rfl⟩, by decide⟩, by decide, by decide, by decide, ⟨by decide, ⟨_, _, rfl⟩, by decide⟩, by decide⟩

/-- R73: a read-good card whose number holds a character that is no digit, or whose month has one digit, cannot be read. -/
theorem test_witness_CardErrorsAreShown_unread :
    readCard { goodCard with number := [0x41] } = none ∧ readCard { goodCard with month := [0x31] } = none := by decide

theorem test_witness_EntriesAreCheckedAndCounted :
    (prompting .driver 1 none).awaitsTerminal 0 ∧ ((prompting .driver 1 none).term 0).lastTaken ≠ some true ∧
    ((prompting .driver 1 none).term 0).mode = .prompt ∧ ((prompting .driver 1 none).term 0).current = some .driver ∧
    (prompting .driver 1 none).heldContext 0 = some 0 ∧ ((prompting .driver 1 none).term 0).attempts < 2 ∧
    digitsOf [0x39] = some [9] ∧ acceptsEntry .driver [] [9] = true ∧
    digitsOf (List.replicate 9 0x39) = some (List.replicate 9 9) ∧ acceptsEntry .driver [] (List.replicate 9 9) = false ∧
    2 ≤ ((prompting .driver 2 none).term 0).attempts ∧ (prompting .driver 2 none).heldContext 0 = some 0 ∧
    ((polling site).term 0).mode ≠ .prompt :=
  ⟨⟨by decide, ⟨_, _, rfl⟩, by decide⟩, by decide⟩

theorem test_witness_LaneEntriesBindOrCount :
    (prompting .lane 0 none).awaitsTerminal 0 ∧ ((prompting .lane 0 none).term 0).lastTaken ≠ some true ∧
    ((prompting .lane 0 none).term 0).mode = .prompt ∧ ((prompting .lane 0 none).term 0).current = some .lane ∧
    (prompting .lane 0 none).heldContext 0 = some 0 ∧ digitsOf [0x30, 0x31] = some [0, 1] ∧
    ((prompting .lane 0 none).lane 0).config.terminal = some 0 ∧ valueOf [0, 1] = (0 : LaneId).val + 1 ∧
    ((prompting .lane 0 none).lane 0).state = .idle ∧ ((prompting .lane 0 none).lane 0).config.isOpen = true ∧
    (let s := (prompting .lane 2 none).modLane 0 fun x => { x with state := .faultStop }
     (s.lane 0).state ≠ .idle ∧ 2 ≤ (s.term 0).attempts ∧ (s.lane 0).config.terminal = some 0 ∧ s.heldContext 0 = some 0) ∧
    ((prompting .lane 0 none).term 0).attempts < 2 ∧ 2 ≤ ((prompting .lane 2 none).term 0).attempts ∧
    (prompting .lane 2 none).heldContext 0 = some 0 :=
  ⟨⟨by decide, ⟨_, _, rfl⟩, by decide⟩, by decide⟩

/-- The entry 2 names no lane of terminal 1, which serves lane 1 alone; nor does a letter. -/
theorem test_witness_LaneEntriesBindOrCount_none :
    (∀ ds, digitsOf [0x32] = some ds → ∀ l : LaneId, ((prompting .lane 0 none).lane l).config.terminal = some 0 → valueOf ds ≠ l.val + 1) ∧
    digitsOf [0x41] = none := by
  refine ⟨fun ds h => ?_, by decide⟩
  cases h
  decide

/-- Terminal 1 in SHOW, with or without a held context. -/
def shown (held : Bool) : State :=
  polling (atTerm (busy { boundTo .armed (chan .flowing) with held := held }) fun x =>
    { x with mode := .shown, display := .liftNozzle 0, displayTimer := some ⟨5, 60⟩, interjection := some (.pleaseWait, ⟨5, 60⟩) })

theorem test_witness_CancelKeyAndDisplayTimes :
    (polling site).awaitsTerminal 0 ∧ ((polling site).term 0).mode = .idle ∧ (prompting .driver 0 none).awaitsTerminal 0 ∧
    ((prompting .driver 0 none).term 0).mode = .prompt ∧ (prompting .driver 0 none).heldContext 0 = some 0 ∧
    ((prompting .driver 0 none).ctx 0).beforeDelivery ∧ (shown true).awaitsTerminal 0 ∧ ((shown true).term 0).mode = .shown ∧
    (shown true).heldContext 0 = some 0 ∧ ¬((shown true).ctx 0).beforeDelivery ∧ (shown false).awaitsTerminal 0 ∧
    ((shown false).term 0).mode = .shown ∧ (shown false).heldContext 0 = none ∧
    ((shown true).term 0).displayTimer.isSome = true ∧ (shown true).power.phase = .running ∧
    ((shown true).term 0).lastTaken ≠ some true ∧ ((shown false).term 0).lastTaken ≠ some true :=
  ⟨⟨by decide, ⟨_, _, rfl⟩, by decide⟩, by decide, ⟨by decide, ⟨_, _, rfl⟩, by decide⟩, by decide, by decide, by decide,
    ⟨by decide, ⟨_, _, rfl⟩, by decide⟩, by decide, by decide, by decide, ⟨by decide, ⟨_, _, rfl⟩, by decide⟩, by decide⟩

theorem test_witness_ClosingWritesOneRecord :
    let s := busy (boundTo .ending (chan .done))
    (s.ctx 0).lane = some 0 ∧ (s.lane 0).state = .inUse ∧ s.lau.adoption.get 0 = false ∧ (s.ctx 0).lane ≠ some 1 := by decide

/-- A context STOPPING on lane 1 in a state, its channel A at a quiet count, lanes 1 and 4 in the adoption list where told. -/
def adopting (st : LaneState) (quiet : Nat) (listed other : Bool) : State :=
  let s := (busy (boundTo .stopping (chan .done))).modLane 0 fun x => { x with
    state := st, channels := x.channels.set .a { x.channels.get .a with quiet := quiet } }
  { s with lau := ⟨s.lau.products.set 0 ⟨.diesel, 1500, some 1600⟩, (s.lau.adoption.set 0 listed).set 3 other⟩ }

theorem test_witness_ClosingWritesOneRecord_lanes :
    (∀ quiet ∈ [1, 2],
      let s := adopting .faultStop quiet true false
      (s.ctx 0).lane = some 0 ∧ (s.lane 0).state = .faultStop ∧ (∀ j, j ≠ 0 → (s.ctx j).lane ≠ some 0) ∧
        (s.lane 0).config.channels = ⟨some hose, none, none⟩ ∧ ((s.lane 0).channels.get .a).quiet = quiet) ∧
    (let s := adopting .locked 0 true true
     (s.lane 0).state ≠ .inUse ∧ (s.lane 0).state ≠ .faultStop ∧ s.lau.adoption.get 0 = true ∧ s.lau.adoption.get 3 = true) ∧
    (let s := adopting .inUse 0 true false
     s.lau.adoption.get 0 = true ∧ ∀ m, m ≠ 0 → s.lau.adoption.get m = false) ∧
    ((busy { boundTo .prompting (chan .idle) with lane := none }).ctx 0).lane = none := by decide

/-- R148, R149: the lane unbound last adopts the newest price, and the price is no longer pending. -/
theorem test_unbinding_adopts :
    let t := (adopting .inUse 0 true false).closeContext 0 .byVolume false
    (t.lane 0).prices.get 0 = 1600 ∧ t.lau.products.get 0 = ⟨.diesel, 1600, none⟩ ∧ (t.lane 0).state = .idle := by decide

theorem test_witness_ContextTimersExpire :
    (∀ st ∈ [ContextState.prompting, .armed, .ending, .recovering, .offered, .taken],
      (busy (boundTo st (chan .idle))).power.phase = .running ∧ ((busy (boundTo st (chan .idle))).ctx 0).deadline.isSome = true ∧
      ((busy (boundTo st (chan .idle))).ctx 0).state = st ∧ (∀ h, ((busy (boundTo st (chan .idle))).head h).commands = []) ∧
      (busy (boundTo st (chan .idle))).dlu.line.exchange = none) ∧
    (up.ctx 0).deadline = none ∧ (offered.ctx 0).copy = some fleet ∧ fleet.standIn = true ∧ offered.rd.clockValid = false ∧
    (let clocked := { offered with rd := { offered.rd with clockValid := true } }
     let used := { clocked with rd := { clocked.rd with standIn := [⟨goodNumber, 2, .first⟩] } }
     clocked.rd.clockValid = true ∧ clocked.rd.standIn = [] ∧ used.rd.clockValid = true ∧
      ((used.rd.standIn.filter fun e =>
        !decide (e.firstUse.seconds + 3600 * used.til.params.get 13 ≤ used.rd.clock.seconds)).find?
          fun e => decide (e.card = (used.ctx 0).card.number)) = some ⟨goodNumber, 2, .first⟩ ∧
      fleet.standInUses ≤ 2) := by decide

/-- The states in which a channel's change does something to its context. -/
theorem test_witness_ContextTimersExpire_changed :
    (((busy (boundTo .armed (chan .zeroing))).ctx 0).anyPastIdle = true ∧
      ((busy (boundTo .armed (chan .refused))).ctx 0).anyPastIdle = false ∧
      (let c := (busy (boundTo .armed (chan .refused))).ctx 0
       c.anyChannel c.mayRelease = false) ∧
      let c := (busyPair (pair .armed (chan .idle) (chanB .idle))).ctx 0
      c.anyPastIdle = false ∧ c.anyChannel c.mayRelease = true) ∧
    (let c := (busyPair (pair .delivering { chan .done with used := true } (chanB .idle))).ctx 0
     c.anyInProgress = false ∧ c.anyChannel (fun r => r.used && decide (r.state = .done)) = true ∧
      c.anyChannel c.mayRelease = true ∧ c.spent = false ∧ site.til.params.get 3 ≠ 0) ∧
    ((busy (boundTo .ending (chan .zeroing))).ctx 0).anyInProgress = true := by decide

theorem test_witness_RangeLookupTakesTheLongestPrefix :
    (bestRange goodNumber exampleRanges).isSome = true ∧ bestRange [4, 4] exampleRanges = none := by decide

theorem test_witness_AttemptsAreRepeated :
    let c := cmd .openValve
    (online site (.sending ⟨0, none, 2⟩)).dlu.line = .sending ⟨0, none, 2⟩ ∧
    (online site (.window ⟨0, some c, 1⟩)).dlu.line = .window ⟨0, some c, 1⟩ ∧ (online site (.window ⟨0, some c, 1⟩)).rd.latch = false ∧
    (online (latched site) (.window ⟨0, none, 1⟩)).rd.latch = true ∧
    (⟨0, none, 1⟩ : Exchange).command.any Command.opening = false ∧
    (online site (.window ⟨0, none, 0⟩)).LatchClean ∧ (online site (.window ⟨0, none, 0⟩)).power.phase = .running ∧
    (site.head 0).online = true ∧ (site.head 0).failures + 1 < site.til.params.get 9 ∧ (site.head 1).online = false ∧
    (online site (.window ⟨0, some c, 1⟩)).dlu.cutByStop = false ∧ (online site (.window ⟨0, some c, 1⟩)).dlu.cutByLock = false ∧
    ∀ q ∈ (online site (.window ⟨0, some c, 1⟩)).servedBy 0, ((online site (.window ⟨0, some c, 1⟩)).lane q.1).state ≠ .locked := by
  decide

/-- Head 1 at its last failure, its last poll unanswered. -/
def lastPoll (s : State) : State := online (s.modHead 0 fun x => { x with failures := 2 }) (.window ⟨0, none, 0⟩)

theorem test_witness_AttemptsAreRepeated_lost :
    (let bare := lastPoll { up with dlu := { up.dlu with heads := up.dlu.heads.set 0 { head1 with commands := [cmd .final] } } }
     bare.dlu.line = .window ⟨0, none, 0⟩ ∧ bare.LatchClean ∧ bare.ListsSound ∧ (bare.head 0).online = true ∧
      bare.til.params.get 9 ≤ (bare.head 0).failures + 1 ∧ (∀ d ∈ (bare.head 0).commands, d.payload.kind ≠ .zero) ∧ bare.servedBy 0 = []) ∧
    (let s := lastPoll (site.modLane 0 fun x => { x with state := .faultStop })
     s.LatchClean ∧ s.ListsSound ∧ (s.head 0).online = true ∧ s.til.params.get 9 ≤ (s.head 0).failures + 1 ∧ (s.head 0).commands = [] ∧
      s.servedBy 0 = [(0, .a)] ∧ (∀ h, h ≠ 0 → ∀ q ∈ s.servedBy h, q.1 ≠ 0) ∧ (s.lane 0).state = .faultStop ∧ s.bound 0 = none) := by decide

theorem test_witness_AttemptsAreRepeated_faults :
    ∀ st ∈ [ContextState.armed, .delivering],
      let c := cmd (.release ⟨10, 5⟩)
      let s := online (busy (boundTo st (chan .opening))) (.window ⟨0, some c, 0⟩)
      s.power.phase = .running ∧ c.opening = true ∧ (s.head 0).online = true ∧ (s.head 0).failures + 1 < s.til.params.get 9 ∧
        s.LatchClean ∧ s.bound 0 = some 0 ∧ c.owner = some (0, (s.ctx 0).transaction) ∧ (s.ctx 0).state = st ∧
        (s.ctx 0).channels = some ⟨chan .opening, .atBinding none, .atBinding none⟩ ∧ (chan .opening).setup = some hose ∧
        (ChannelRecord.atBinding none).state = .idle ∧ (s.lane 0).state ≠ .faultStop ∧
        (∀ q ∈ s.servedBy 0, (s.lane q.1).state ≠ .locked) ∧ (s.head 0).commands = [] := by decide

theorem test_witness_AcceptancesRunTheirChannel :
    let zero := online (busy (boundTo .armed { chan .zeroing with zeroEntry := 1 })) (.window ⟨0, some (cmd (.zero 1500 1)), 2⟩)
    let close := online (busy (boundTo .stopping (chan .closing))) (.window ⟨0, some (cmd (.close .stopped false)), 0⟩)
    let final := online (busy (boundTo .stopping (chan .settling))) (.window ⟨0, some (cmd .final), 0⟩)
    (zero.awaitsHead ⟨0, some (cmd (.zero 1500 1)), 2⟩ ∧ zero.LatchClean ∧ (zero.ctx 0).transaction = 7 ∧ (zero.ctx 0).state ≠ .free ∧
      (zero.ctx 0).channels = some ⟨{ chan .zeroing with zeroEntry := 1 }, .atBinding none, .atBinding none⟩) ∧
    (close.awaitsHead ⟨0, some (cmd (.close .stopped false)), 0⟩ ∧ close.LatchClean ∧ (close.ctx 0).transaction = 7 ∧
      (close.ctx 0).state ≠ .free ∧ (close.ctx 0).allocation = .clear ∧
      (close.ctx 0).channels = some ⟨chan .closing, .atBinding none, .atBinding none⟩) ∧
    final.awaitsHead ⟨0, some (cmd .final), 0⟩ ∧ final.LatchClean ∧ (final.ctx 0).transaction = 7 ∧ (final.ctx 0).state = .stopping ∧
    (final.ctx 0).channels = some ⟨chan .settling, .atBinding none, .atBinding none⟩ ∧
    (chan .settling).extended ≤ (65535#32).toNat ∧ (65535#32).toNat < (chan .settling).extended + 65536 := by decide

/-- Channel A lowering from its point 2,000, channel B where given, in an allocation. -/
def lowering (b : ChannelRecord) (w : Option Lowering) : State :=
  online (busyPair { pair .delivering { chan .flowing with extended := 100, points := some ⟨2000, 1700⟩ } b with
    allocation := ⟨.lowering, ⟨false, true, false⟩, ⟨some ⟨⟨1000, 700⟩, none⟩, w, none⟩, false⟩ })
    (.window ⟨0, some (cmd (.limit ⟨1000, 700⟩ true)), 2⟩)

theorem test_witness_AcceptancesRunTheirChannel_open :
    (∀ st ∈ [ContextState.armed, .delivering, .stopping],
      let s := online (busy (boundTo st (chan .opening))) (.window ⟨0, some (cmd .openValve), 2⟩)
      s.awaitsHead ⟨0, some (cmd .openValve), 2⟩ ∧ s.LatchClean ∧ (cmd .openValve).opening = true ∧
        (s.ctx 0).transaction = 7 ∧ (s.ctx 0).state = st ∧
        (s.ctx 0).channels = some ⟨chan .opening, .atBinding none, .atBinding none⟩) ∧
    (let s := lowering (chanB .flowing) (some ⟨⟨900, 600⟩, none⟩)
     s.awaitsHead ⟨0, some (cmd (.limit ⟨1000, 700⟩ true)), 2⟩ ∧ s.LatchClean ∧ (s.ctx 0).transaction = 7 ∧
      (s.ctx 0).allocation.phase = .lowering ∧ (s.ctx 0).allocation.lowering.get .a = some ⟨⟨1000, 700⟩, none⟩ ∧
      (s.ctx 0).allocation.lowering.get .b = some ⟨⟨900, 600⟩, none⟩) ∧
    let s := lowering (chanB .allocating) none
    let fixed := { s.ctx 0 with
      channels := some ⟨{ chan .flowing with extended := 100, points := some ⟨1000, 700⟩ }, chanB .allocating, .atBinding none⟩
      allocation := { (s.ctx 0).allocation with lowering := ⟨some ⟨⟨1000, 700⟩, some 1000⟩, none, none⟩ } }
    s.awaitsHead ⟨0, some (cmd (.limit ⟨1000, 700⟩ true)), 2⟩ ∧ s.rd.latch = false ∧ (s.ctx 0).lane = some 0 ∧
      (∃ sh, (fixed.phaseTwo s.productClass s.slowVolume).get .b = some sh ∧ 0 < sh.volume) ∧
      (∀ d, d ≠ .b → (fixed.phaseTwo s.productClass s.slowVolume).get d = none) ∧ (s.head 1).online = true ∧
      (∀ q ∈ s.servedBy 1, (s.lane q.1).state ≠ .locked) ∧ (s.head 1).commands = [] := by
  refine ⟨by decide, by decide, by decide, by decide, by decide, ⟨_, rfl, by decide⟩, fun d h => ?_, by decide⟩
  cases d
  · decide
  · exact absurd rfl h
  · decide

theorem test_witness_RefusalsRunTheirChannel :
    let zero := online (busy (boundTo .armed { chan .zeroing with zeroEntry := 1 })) (.window ⟨0, some (cmd (.zero 1500 1)), 2⟩)
    let release := online (busy (boundTo .armed (chan .opening))) (.window ⟨0, some (cmd (.release ⟨10, 5⟩)), 2⟩)
    (zero.awaitsHead ⟨0, some (cmd (.zero 1500 1)), 2⟩ ∧ zero.LatchClean ∧ (zero.ctx 0).transaction = 7 ∧ (zero.ctx 0).state ≠ .free ∧
      (zero.ctx 0).channels = some ⟨{ chan .zeroing with zeroEntry := 1 }, .atBinding none, .atBinding none⟩) ∧
    (release.awaitsHead ⟨0, some (cmd (.release ⟨10, 5⟩)), 2⟩ ∧ release.LatchClean ∧ release.rd.latch = false ∧
      release.dlu.cutByStop = false ∧ release.dlu.cutByLock = false ∧
      (∀ q ∈ release.servedBy 0, (release.lane q.1).state ≠ .locked) ∧ (release.head 0).commands = []) ∧
    (latched release).awaitsHead ⟨0, some (cmd (.release ⟨10, 5⟩)), 2⟩ ∧ (latched release).LatchClean ∧
    (latched release).rd.latch = true ∧ ((latched release).ctx 0).transaction = 7 ∧ ((latched release).ctx 0).state ≠ .free ∧
    ((latched release).ctx 0).channels = some ⟨chan .opening, .atBinding none, .atBinding none⟩ := by decide

/-- A FINAL of channel A awaited. -/
def finalAwaited (s : State) : State := online s (.window ⟨0, some (cmd .final), 2⟩)

/-- Channel A SETTLING at 100 pulses. -/
def settled : ChannelRecord := { chan .settling with extended := 100, low16 := 100, used := true, points := some ⟨100, 90⟩ }

/-- Channel B FLOWING with its points. -/
def flowingB (stop : Nat) : ChannelRecord := { chanB .flowing with extended := 50, low16 := 50, points := some ⟨stop, 100⟩, used := true }

/-- The FINAL of a DELIVERING context with channel B IDLE, or FLOWING and to be lowered, raised or left. -/
theorem test_witness_AcceptancesRunTheirChannel_trigger :
    (let s := finalAwaited (busyPair (pair .delivering settled (chanB .idle)))
     s.awaitsHead ⟨0, some (cmd .final), 2⟩ ∧ s.LatchClean ∧ (s.ctx 0).state = .delivering ∧ settled.extended ≤ (150#32).toNat ∧
      (s.ctx 0).channels = some ⟨settled, chanB .idle, .atBinding none⟩) ∧
    ∀ stop ∈ [80000, 1000, 66519],
      let s := finalAwaited (busyPair (pair .delivering settled (flowingB stop)))
      let ctx := { s.ctx 0 with channels := some ⟨{ settled with state := .done, extended := 150, low16 := 150 }, flowingB stop, .atBinding none⟩ }
      s.awaitsHead ⟨0, some (cmd .final), 2⟩ ∧ s.LatchClean ∧ (s.ctx 0).allocation = .clear ∧ (s.ctx 0).lane = some 0 ∧
        (s.ctx 0).transaction = 7 ∧ (s.ctx 0).channels = some ⟨settled, flowingB stop, .atBinding none⟩ ∧
        (s.head 1).online = true ∧ (s.head 1).commands = [] ∧ (∀ q ∈ s.servedBy 1, (s.lane q.1).state ≠ .locked) ∧
        (ctx.phaseOne s.productClass s.slowVolume).get .b = some ⟨6646, ⟨66519, 63519⟩⟩ ∧
        (stop ≠ 80000 → (({ ctx with allocation := ⟨.lowering, .fill false, .fill none, false⟩ } : Context).phaseTwo
          s.productClass s.slowVolume).get .b = some ⟨6646, ⟨66519, 63519⟩⟩) := by decide

theorem test_witness_AcceptancesRunTheirChannel_mismatch :
    ∀ st ∈ [ContextState.stopping, .delivering],
      let s := finalAwaited (busy (boundTo st settled))
      s.awaitsHead ⟨0, some (cmd .final), 2⟩ ∧ s.LatchClean ∧ (s.ctx 0).state = st ∧ s.bound 0 = some 0 ∧
        (s.ctx 0).channels = some ⟨settled, .atBinding none, .atBinding none⟩ ∧ (s.ctx 0).transaction = 7 ∧
        ¬(settled.extended ≤ (99#32).toNat) ∧ (s.lane 0).state = .inUse ∧ (∀ j, j ≠ 0 → (s.ctx j).lane ≠ some 0) ∧
        (s.lane 0).config.channels = ⟨some hose, none, none⟩ ∧ settled.setup = some hose ∧ (s.head 0).online = true ∧
        (∀ q ∈ s.servedBy 0, (s.lane q.1).state ≠ .locked) ∧ (s.head 0).commands = [] := by decide

/-- R99, R127: the count below the extended count closes a DELIVERING context, and its channel is sent a CLOSE all the same. -/
theorem test_mismatch_closes :
    ((after (.dispenserAccepted 0 99 .closed 7) (finalAwaited (busy (boundTo .delivering settled)))).map fun t =>
      ((t.rd.records.map fun r => (r.flags.meterMismatch, r.flags.fault)), t.lineCommand.map fun c => (c.payload, c.owner))) =
      some ([(true, true)], some (.close (.fault .meterMismatch) true, none)) := by decide

/-- Head 1's command sent at its last attempt in a transaction on channel A, another list at the head. -/
def lastAttempt (p : Payload) (st : ContextState) (q : ChannelRecord) (cs : List Command) : State :=
  online ((busy (boundTo st q)).modHead 0 fun x => { x with commands := cs }) (.window ⟨0, some (cmd p), 0⟩)

/-- The three ends of a command that fails. -/
theorem test_witness_RefusalsRunTheirChannel_failsAs (p : Payload) (st : ContextState) (q : ChannelRecord) (cs : List Command) :
    let s := lastAttempt p st q cs
    (∃ t, s.failsAs (cmd p) 0 (.refusedBusy 0) .refused t) ∧ (∃ t, s.failsAs (cmd p) 0 (.refusedBad 0) .refused t) ∧
      ∃ t, s.failsAs (cmd p) 0 .dispenserReplyWindowExpiry .noAnswer t :=
  ⟨⟨_, rfl, .inl ⟨.inl rfl, rfl, rfl⟩⟩, ⟨_, rfl, .inl ⟨.inr rfl, rfl, rfl⟩⟩,
    ⟨_, rfl, .inr ⟨rfl, rfl, rfl, (by decide : 1 < 3), rfl⟩⟩⟩

/-- What the clauses of O44 on a failed LIMIT, CLOSE or FINAL have in common. -/
abbrev Failing (s : State) (p : Payload) (st : ContextState) (q : ChannelRecord) (cs : List Command) : Prop :=
  s.awaitsHead ⟨0, some (cmd p), 0⟩ ∧ s.LatchClean ∧ s.bound 0 = some 0 ∧ (s.ctx 0).state = st ∧ (s.ctx 0).transaction = 7 ∧
    (s.ctx 0).channels = some ⟨q, .atBinding none, .atBinding none⟩ ∧ q.setup = some hose ∧ (s.lane 0).state = .inUse ∧
    (∀ d ∈ s.servedBy 0, (s.lane d.1).state ≠ .locked) ∧ (s.head 0).commands = cs ∧ (∀ j, j ≠ 0 → (s.ctx j).lane ≠ some 0) ∧
    (s.lane 0).config.channels = ⟨some hose, none, none⟩ ∧ s.ListsSound

theorem test_witness_RefusalsRunTheirChannel_limit :
    ∀ st ∈ [ContextState.armed, .delivering],
      Failing (lastAttempt (.limit ⟨20, 10⟩ true) st (chan .flowing) []) (.limit ⟨20, 10⟩ true) st (chan .flowing) [] := by decide

theorem test_witness_RefusalsRunTheirChannel_split :
    ∀ st ∈ [ContextState.armed, .delivering],
      Failing (lastAttempt (.limit ⟨20, 10⟩ false) st (chan .opening) [cmd .openValve]) (.limit ⟨20, 10⟩ false) st (chan .opening)
        [cmd .openValve] := by decide

theorem test_witness_RefusalsRunTheirChannel_ends :
    ∀ st ∈ [ContextState.stopping, .delivering],
      ∀ x ∈ [(Payload.close .noFlow false, ChannelState.closing), (.close .noFlow false, .settling), (.final, .settling)],
        Failing (lastAttempt x.1 st (chan x.2) []) x.1 st (chan x.2) [] := by decide

/-- R92, R127: the failure of a split LIMIT withdraws the OPEN behind it, and the context closes without a sale. -/
theorem test_failed_split_limit :
    ((after (.refusedBusy 0) (lastAttempt (.limit ⟨20, 10⟩ false) .armed (chan .opening) [cmd .openValve])).map fun t =>
      ((t.rd.records.map fun r => (r.kind, r.flags.fault)), t.lineCommand.map fun c => c.payload)) =
      some ([(.noSale, true)], some (.close (.fault .commandFailed) true)) := by decide

/-- A report of head channel 1 that shows its count unchanged and its valve closed. -/
def still : ChannelReport := ⟨.one, .hung, .closed, .nozzle, false, 5⟩

theorem test_witness_PollReportsAreKeptAndHandedOn :
    let flowing := online (busy (boundTo .delivering { chan .flowing with low16 := 5 })) (.window ⟨0, none, 2⟩)
    let free := online site (.window ⟨0, none, 2⟩)
    let bare := online { up with dlu := { up.dlu with heads := up.dlu.heads.set 0 head1 } } (.window ⟨0, none, 2⟩)
    (bare.awaitsHead ⟨0, none, 2⟩ ∧ (bare.head 0).online = true ∧ bare.LatchClean ∧ bare.servedBy 0 = []) ∧
    (free.awaitsHead ⟨0, none, 2⟩ ∧ (free.head 0).online = true ∧ free.LatchClean ∧ free.servedBy 0 = [(0, .a)] ∧
      free.setup 0 .a = some hose ∧ [still].find? (fun r => decide (r.channel = hose.headChannel)) = some still ∧
      (free.head 0).last.get hose.headChannel = some ⟨.hung, .closed, .none, false, 5⟩ ∧ (free.lane 0).state ≠ .faultStop ∧
      free.bound 0 = none) ∧
    flowing.awaitsHead ⟨0, none, 2⟩ ∧ (flowing.head 0).online = true ∧ flowing.LatchClean ∧ flowing.servedBy 0 = [(0, .a)] ∧
    flowing.setup 0 .a = some hose ∧ flowing.bound 0 = some 0 ∧ (flowing.lane 0).state ≠ .faultStop ∧
    (flowing.ctx 0).channels = some ⟨{ chan .flowing with low16 := 5 }, .atBinding none, .atBinding none⟩ ∧
    still.valve = .closed ∧ still.nozzle = .hung := by decide

/-- A report that completes the zero handshake of head channel 1. -/
def zeroed : ChannelReport := ⟨.one, .lifted, .closed, .none, true, 0⟩

/-- A poll reply awaited of head `h` in a transaction of channels A and B. -/
def handshake (h : HeadId) (c : Context) : State := online (busyPair c) (.window ⟨h, none, 2⟩)

theorem test_witness_PollReportsAreKeptAndHandedOn_changed :
    let moved : ChannelReport := { still with low16 := 6 }
    let free := online site (.window ⟨0, none, 2⟩)
    let locked := online (lockedLane 1) (.window ⟨0, none, 2⟩)
    (free.awaitsHead ⟨0, none, 2⟩ ∧ (free.head 0).online = true ∧ free.LatchClean ∧ free.servedBy 0 = [(0, .a)] ∧
      free.setup 0 .a = some hose ∧ [moved].find? (fun r => decide (r.channel = hose.headChannel)) = some moved ∧
      (free.head 0).last.get hose.headChannel = some ⟨.hung, .closed, .none, false, 5⟩ ∧ (5 : BitVec 16) ≠ moved.low16 ∧
      free.bound 0 = none ∧ (free.lane 0).state ≠ .locked ∧ (free.lane 0).state ≠ .faultStop ∧
      free.setup 0 .b = none ∧ free.setup 0 .c = none ∧ (free.head 0).commands = []) ∧
    locked.awaitsHead ⟨0, none, 2⟩ ∧ (locked.head 0).online = true ∧ locked.LatchClean ∧ locked.servedBy 0 = [(0, .a)] ∧
    locked.setup 0 .a = some hose ∧ locked.bound 0 = none ∧ (locked.lane 0).state = .locked ∧
    (locked.head 0).last.get hose.headChannel = some ⟨.hung, .closed, .none, false, 5⟩ := by decide

theorem test_witness_PollReportsAreKeptAndHandedOn_joins :
    (let a := { chan .zeroing with zeroAccepted := true }
     let s := handshake 0 (pair .armed a (chanB .idle))
     let begun := { s.ctx 0 with
       channels := some ⟨{ a with state := .allocating }, chanB .idle, .atBinding none⟩
       allocation := ⟨.lowering, ⟨true, false, false⟩, .fill none, false⟩ }
     s.awaitsHead ⟨0, none, 2⟩ ∧ (s.head 0).online = true ∧ s.LatchClean ∧ s.servedBy 0 = [(0, .a)] ∧ s.setup 0 .a = some hose ∧
      [zeroed].find? (fun r => decide (r.channel = hose.headChannel)) = some zeroed ∧ s.bound 0 = some 0 ∧
      (s.ctx 0).channels = some ⟨a, chanB .idle, .atBinding none⟩ ∧ (s.ctx 0).allocation = .clear ∧
      (s.lane 0).state ≠ .faultStop ∧ (s.lane 0).state ≠ .locked ∧ a.zeroPolls < s.til.params.get 7 ∧ s.rd.latch = false ∧
      ((begun.phaseTwo s.productClass s.slowVolume).get .a).any (fun sh => decide (0 < sh.volume)) = true ∧ (s.head 0).commands = []) ∧
    let a := { chan .flowing with extended := 100, points := some ⟨60000, 59700⟩ }
    let b := { chanB .zeroing with zeroAccepted := true }
    let s := handshake 1 (pair .delivering a b)
    s.awaitsHead ⟨1, none, 2⟩ ∧ (s.head 1).online = true ∧ s.LatchClean ∧ s.servedBy 1 = [(0, .b)] ∧ s.setup 0 .b = some hoseB ∧
    s.bound 0 = some 0 ∧ (s.ctx 0).channels = some ⟨a, b, .atBinding none⟩ ∧ (s.ctx 0).allocation = .clear ∧
    ((({ s.ctx 0 with channels := some ⟨a, { b with state := .allocating }, .atBinding none⟩ } : Context).phaseOne s.productClass
      s.slowVolume).get .a).any (fun sh => decide (sh.points.stop < a.stopInForce)) = true ∧
    (s.head 0).online = true ∧ (∀ q ∈ s.servedBy 0, (s.lane q.1).state ≠ .locked) ∧ (s.head 0).commands = [] := by decide

/-- The test lane's transaction, its nozzle last seen as told, with a list at head 1 and a poll reply awaited. -/
def reported (st : ContextState) (q : ChannelRecord) (seen : NozzleSeen) (cs : List Command) : State :=
  online ((busy { boundTo st q with approval := some ⟨10000, 1, none, none, none⟩ }).modLaneChannel 0 .a (fun w => { w with nozzle := seen })
    |>.modHead 0 fun x => { x with commands := cs }) (.window ⟨0, none, 2⟩)

/-- What the clauses of O45 on a bound lane have in common. -/
abbrev Reported (s : State) (q : ChannelRecord) (r : ChannelReport) : Prop :=
  s.awaitsHead ⟨0, none, 2⟩ ∧ (s.head 0).online = true ∧ s.LatchClean ∧ s.servedBy 0 = [(0, .a)] ∧ s.setup 0 .a = some hose ∧
  [r].find? (fun r => decide (r.channel = hose.headChannel)) = some r ∧ s.bound 0 = some 0 ∧
  (s.ctx 0).channels = some ⟨q, .atBinding none, .atBinding none⟩ ∧ (s.lane 0).state ≠ .faultStop ∧ (s.lane 0).state ≠ .locked ∧
  (s.head 0).last.get hose.headChannel = some ⟨.hung, .closed, .none, false, 5⟩

/-- A lift whose count is unchanged. -/
def lifted : ChannelReport := { still with nozzle := .lifted }

theorem test_witness_PollReportsAreKeptAndHandedOn_lift :
    (∀ st ∈ [ContextState.armed, .delivering, .ending],
      Reported (reported st (chan .idle) .hung []) (chan .idle) lifted ∧
      ((reported st (chan .idle) .hung []).ctx 0).permits (chan .idle) = true) ∧ lifted.low16 = 5 := by decide

theorem test_witness_PollReportsAreKeptAndHandedOn_notPermitted :
    let q := { chan .idle with setup := some { hose with product := 1 } }
    let s := reported .armed q .hung []
    s.setup 0 .a = q.setup ∧ (s.ctx 0).permits q = false ∧ s.servedBy 0 = [(0, .a)] ∧ s.bound 0 = some 0 := by decide

/-- A ZEROING channel whose ZERO has been accepted, some reports counted. -/
def zeroing (n : Nat) : ChannelRecord := { chan .zeroing with zeroAccepted := true, zeroPolls := n }

theorem test_witness_PollReportsAreKeptAndHandedOn_zeroing :
    Reported (reported .armed (zeroing 0) .lifted []) (zeroing 0) still ∧
    Reported (reported .armed (zeroing 0) .lifted []) (zeroing 0) lifted ∧ 0 + 1 < site.til.params.get 7 ∧ lifted.low16 ≠ 0 := by decide

theorem test_witness_PollReportsAreKeptAndHandedOn_zeroFailed :
    Reported (reported .armed (zeroing (site.til.params.get 7 - 1)) .lifted []) (zeroing (site.til.params.get 7 - 1)) lifted ∧
    site.til.params.get 7 ≤ site.til.params.get 7 - 1 + 1 := by decide

theorem test_witness_PollReportsAreKeptAndHandedOn_hangUp :
    (let q := { chan .allocating with low16 := 5 }
     Reported (reported .armed q .lifted []) q still) ∧
    let q := { chan .opening with low16 := 5 }
    let s := reported .armed q .lifted [cmd (.limit ⟨20, 10⟩ false), cmd .openValve]
    Reported s q still ∧ s.ListsSound ∧ (∃ d ∈ (s.head 0).commands, d.lane = 0 ∧ d.channel = .a ∧ d.opening = true) ∧
    ∀ d ∈ (s.head 0).commands, d.releasing = true ∧ d.owner = some (0, (s.ctx 0).transaction) := by decide

theorem test_witness_PollReportsAreKeptAndHandedOn_counts :
    (∀ st ∈ [ChannelState.opening, .flowing, .closing, .settling],
      Reported (reported .delivering (chan st) .lifted []) (chan st) lifted ∧
      ((reported .delivering (chan st) .lifted []).ctx 0).permits (chan st) = true) ∧
    (lifted.low16 - (chan .flowing).low16).toNat = 5 := by decide

/-- A report whose count has gone back by 1. -/
def jumped : ChannelReport := { lifted with valve := .fast, low16 := 65535 }

theorem test_witness_PollReportsAreKeptAndHandedOn_jump :
    Reported (reported .delivering (chan .flowing) .lifted []) (chan .flowing) jumped ∧
    32768 ≤ (jumped.low16 - (chan .flowing).low16).toNat ∧ jumped.valve ≠ .closed ∧
    ((reported .delivering (chan .flowing) .lifted []).head 0).commands = [] := by decide

/-- Lane 1 in FAULT STOP, quiet, with a fault settle timer on channel A. -/
def settlingFault : State :=
  { site with dcu := ⟨site.dcu.lanes.set 0 { lane1 with
    state := .faultStop, fault := some .meterJump,
    channels := ⟨{ LaneChannel.starting with quiet := 2, faultClose := .settling, faultSettle := some ⟨3, 20⟩ }, .starting, .starting⟩ }⟩ }

/-- `settlingFault` with a quiet count and a fault close, a poll reply of head 1 awaited. -/
def faultReported (quiet : Nat) (close : FaultClose) : State :=
  online (settlingFault.modLaneChannel 0 .a fun w => { w with quiet := quiet, faultClose := close }) (.window ⟨0, none, 2⟩)

theorem test_witness_PollReportsAreKeptAndHandedOn_faultStop :
    ∀ quiet ∈ [0, 1],
      let s := faultReported quiet .settling
      s.awaitsHead ⟨0, none, 2⟩ ∧ (s.head 0).online = true ∧ s.LatchClean ∧ s.servedBy 0 = [(0, .a)] ∧ s.setup 0 .a = some hose ∧
        (s.head 0).last.get hose.headChannel = some ⟨.hung, .closed, .none, false, 5⟩ ∧ s.bound 0 = none ∧
        (s.lane 0).state = .faultStop ∧ s.lau.adoption.get 0 = false ∧ ((s.lane 0).channels.get .a).faultClose ≠ .complete ∧
        s.setup 0 .b = none ∧ s.setup 0 .c = none := by decide

/-- R128: the second quiet report in a row ends FAULT STOP, the first does not. -/
theorem test_fault_stop_ends :
    ((after (.pollReply 0 false [still]) (faultReported 1 .settling)).map fun t => (t.lane 0).state) = some .idle ∧
    ((after (.pollReply 0 false [still]) (faultReported 0 .settling)).map fun t => (t.lane 0).state) = some .faultStop := by decide

/-- The failed CLOSE of a lane in FAULT STOP. -/
theorem test_witness_RefusalsRunTheirChannel_second :
    let c := { cmd (.close .stopped true) with owner := none }
    let s := online settlingFault (.window ⟨0, some c, 2⟩)
    s.awaitsHead ⟨0, some c, 2⟩ ∧ s.LatchClean ∧ (s.head 0).online = true ∧ s.bound 0 = none ∧ (s.lane 0).state = .faultStop ∧
    (s.head 0).commands = [] ∧ ∀ h, h ≠ 0 → ∀ q ∈ s.servedBy h, q.1 ≠ 0 := by decide

theorem test_witness_LinkAndChannelTimersExpire :
    let pollTimer := site.modHead 0 fun x => { x with online := false, offlinePoll := .running ⟨3, 20⟩ }
    let noFlow := busy (boundTo .delivering { chan .flowing with noFlow := some ⟨3, 900⟩ })
    let settle := busy (boundTo .stopping { chan .settling with settle := some ⟨3, 20⟩ })
    let back := online site (.haltAll (some (⟨0, some (cmd .openValve), 1⟩, .noAnswer)))
    (pollTimer.power.phase = .running ∧ pollTimer.LatchClean ∧ (pollTimer.head 0).offlinePoll = .running ⟨3, 20⟩) ∧
    ((online site (.haltAll none)).dlu.line = .haltAll none ∧ (online site (.haltAll none)).LatchClean) ∧
    (back.dlu.line = .haltAll (some (⟨0, some (cmd .openValve), 1⟩, .noAnswer)) ∧ back.rd.latch = false ∧ back.LatchClean ∧
      back.dlu.cutByStop = false ∧ back.dlu.cutByLock = false ∧ ∀ q ∈ back.servedBy 0, (back.lane q.1).state ≠ .locked) ∧
    (noFlow.LatchClean ∧ noFlow.bound 0 = some 0 ∧
      (noFlow.ctx 0).channels = some ⟨{ chan .flowing with noFlow := some ⟨3, 900⟩ }, .atBinding none, .atBinding none⟩ ∧
      (noFlow.head 0).online = true ∧ (∀ q ∈ noFlow.servedBy 0, (noFlow.lane q.1).state ≠ .locked) ∧ (noFlow.head 0).commands = []) ∧
    (settle.LatchClean ∧ settle.bound 0 = some 0 ∧
      (settle.ctx 0).channels = some ⟨{ chan .settling with settle := some ⟨3, 20⟩ }, .atBinding none, .atBinding none⟩ ∧
      (∀ q ∈ settle.servedBy 0, (settle.lane q.1).state ≠ .locked) ∧ (settle.head 0).commands = []) ∧
    ((settlingFault.lane 0).channels.get .a).faultSettle.isSome = true := by decide

/-- A part whose arbiter has nothing to do: every head OFFLINE with its timer running. -/
def sleeping : State :=
  { up with dlu := { up.dlu with heads := .fill 24 { Head.starting with offlinePoll := .running ⟨3, 20⟩ } } }

/-- `sleeping` with head 3 ONLINE, serving lane 1 in a lane state, and a list at it. -/
def waking (st : LaneState) (cs : List Command) : State :=
  { sleeping with
    dcu := ⟨sleeping.dcu.lanes.set 0 { lane1 with state := st, config := ⟨true, some 0, ⟨some { hose with head := 2 }, none, none⟩⟩ }⟩
    dlu := { sleeping.dlu with heads := sleeping.dlu.heads.set 2 { head1 with commands := cs } } }

/-- The run count and the poll count set. -/
def counted (s : State) (run poll : Nat) : State := { s with dlu := { s.dlu with runCount := run, pollCount := poll } }

theorem test_witness_LinkAndChannelTimersExpire_serves :
    (let s : State := { up with dlu := { up.dlu with haltPending := true } }
     s.power.phase = .running ∧ s.dlu.line = .quiet ∧ s.dlu.haltPending = true) ∧
    (let s := waking .inUse [cmd (.close .stopped false), cmd .final]
     s.power.phase = .running ∧ s.dlu.line = .quiet ∧ s.dlu.haltPending = false ∧ s.ListsSound ∧
      (s.head 2).commands = [cmd (.close .stopped false), cmd .final] ∧
      firstAfter s.dlu.commandPos 2 fun h => ¬(∃ q ∈ s.servedBy h, (s.lane q.1).state = .locked) ∧
        ∃ d ∈ (s.head h).commands, d.payload.kind = .close) := by decide

theorem test_witness_LinkAndChannelTimersExpire_lists :
    let s := waking .inUse [cmd .openValve]
    (∀ h, ∀ d ∈ (s.head h).commands, d.payload.kind ≠ .close) ∧ s.dlu.runCount < 4 ∧ (s.head 2).commands = [cmd .openValve] ∧
    (firstAfter s.dlu.commandPos 2 fun h => ¬(∃ q ∈ s.servedBy h, (s.lane q.1).state = .locked) ∧ (s.head h).commands ≠ []) ∧
    (latched s).rd.latch = true ∧ ((latched s).head 2).commands = [cmd .openValve] := by decide

/-- The poll of an active head and of an inactive one, by the poll count and in the debt of four commands. -/
theorem test_witness_LinkAndChannelTimersExpire_polls :
    (∀ poll ∈ [0, 3],
      let s := counted (waking .faultStop [cmd .final]) 4 poll
      4 ≤ s.dlu.runCount ∧ s.dlu.pollCount = poll ∧ (s.head 2).online = true ∧ s.isActive 2 ∧
        (firstAfter s.dlu.activePos 2 fun h => ((s.head h).online = true ∨ (s.head h).offlinePoll = .expired) ∧ s.isActive h) ∧
        ∀ h, ¬(((s.head h).online = true ∨ (s.head h).offlinePoll = .expired) ∧ ¬s.isActive h)) ∧
    (∀ poll ∈ [0, 3],
      let s := counted (waking .idle []) 0 poll
      (∀ h, (s.head h).commands = []) ∧ s.dlu.pollCount = poll ∧
        (firstAfter s.dlu.inactivePos 2 fun h => ((s.head h).online = true ∨ (s.head h).offlinePoll = .expired) ∧ ¬s.isActive h) ∧
        ∀ h, ¬(((s.head h).online = true ∨ (s.head h).offlinePoll = .expired) ∧ s.isActive h)) := by decide

theorem test_witness_LinkAndChannelTimersExpire_quiet :
    (∀ h, ¬((sleeping.head h).online = true ∨ (sleeping.head h).offlinePoll = .expired)) ∧ (∀ h, (sleeping.head h).commands = []) ∧
    sleeping.dlu.haltPending = false ∧ sleeping.dlu.line = .quiet ∧ (online site (.window ⟨0, none, 0⟩)).dlu.line ≠ .quiet := by decide

/-- The run count stops at 4, where nothing is active: R96. -/
theorem test_run_count_stays_at_four : (counted (waking .idle [cmd .final]) 4 0).choose.1.dlu.runCount = 4 := by decide

/-- R96: in the debt of four commands with an active head the link polls, and its list waits. -/
theorem test_poll_debt : (counted (waking .faultStop [cmd .final]) 4 0).choose.1.dlu.line = .sending ⟨2, none, 2⟩ := by decide

/-- Head 1 OFFLINE, its poll reply awaited. -/
def silent (s : State) : State := (online s (.window ⟨0, none, 2⟩)).modHead 0 fun x => { x with online := false }

theorem test_witness_LinkAndChannelTimersExpire_offline :
    let free := silent site
    free.power.phase = .running ∧ free.LatchClean ∧ free.dlu.line = .window ⟨0, none, 2⟩ ∧ (free.head 0).online = false ∧
    free.servedBy 0 = [(0, .a)] ∧ free.setup 0 .a = some hose ∧ still.channel = hose.headChannel ∧ free.bound 0 = none ∧
    (free.lane 0).state ≠ .faultStop := by decide

theorem test_witness_LinkAndChannelTimersExpire_awaiting :
    let q := { chan .closing with awaiting := true, endCause := some .stopped }
    let s := silent (busy (boundTo .recovering q))
    s.servedBy 0 = [(0, .a)] ∧ s.setup 0 .a = some hose ∧ (s.head 0).commands = [] ∧ s.bound 0 = some 0 ∧ s.LatchClean ∧
    (s.ctx 0).channels = some ⟨q, .atBinding none, .atBinding none⟩ ∧ (s.lane 0).state ≠ .faultStop ∧ (s.lane 0).state ≠ .locked := by
  decide

theorem test_witness_LinkAndChannelTimersExpire_owed :
    let s := silent (settlingFault.modLaneChannel 0 .a fun w => { w with faultClose := .owed })
    s.servedBy 0 = [(0, .a)] ∧ s.setup 0 .a = some hose ∧ (s.head 0).commands = [] ∧ s.bound 0 = none ∧ s.LatchClean ∧
    (s.lane 0).state = .faultStop ∧ (s.lane 0).fault = some .meterJump ∧ ((s.lane 0).channels.get .a).faultClose = .owed := by decide

theorem test_witness_PowerFollowsItsPins :
    ∀ p ∈ [Phase.off, .waiting, .frozen, .running], ∀ low : Bool,
      ({ site with power := { site.power with phase := p, pfailLow := low } } : State).power.phase = p ∧
      ({ site with power := { site.power with phase := p, pfailLow := low } } : State).power.pfailLow = low := by decide

theorem test_witness_StartsAreWarmOrCold :
    (let s : State := { site with power := { site.power with phase := .off }, rd := { site.rd with intact := false } }
     s.power.phase = .off ∧ s.power.rstLow = false ∧ s.power.estopLow = false ∧ s.rd.intact = false) ∧
    (site.power.phase = .running ∧ site.power.rstLow = false ∧ site.power.estopLow = false ∧ site.rd.intact = true ∧
      ∀ i, (site.ctx i).state = .free) ∧
    (∀ st ∈ [ContextState.prompting, .offered, .taken, .armed], ((busy (boundTo st (chan .idle))).ctx 0).beforeDelivery) ∧
    (∀ st ∈ [ContextState.armed, .delivering, .ending, .stopping, .recovering],
      ((busy (boundTo st (chan .flowing))).ctx 0).state = st ∧ ((busy (boundTo st (chan .flowing))).ctx 0).anyPastIdle = true ∧
      ((busy (boundTo st (chan .flowing))).ctx 0).channels = some ⟨chan .flowing, .atBinding none, .atBinding none⟩) ∧
    ((busy (boundTo .armed (chan .zeroing))).ctx 0).anyPastIdle = true ∧
    (∀ ch, ((⟨chan .zeroing, .atBinding none, .atBinding none⟩ : Triple ChannelRecord).get ch).awaiting = false) := by
  refine ⟨by decide, by decide, by decide, by decide, by decide, fun ch => ?_⟩
  cases ch <;> rfl

/-- The part off, its retained check as `check` makes it from the CRC. -/
def offWith (check : BitVec 16 → BitVec 16) : State :=
  { site with power := { site.power with phase := .off }, rd := { site.rd with check := check site.rd.crc } }

theorem test_witness_StartsAreWarmOrCold_check :
    ((offWith (~~~·)).power.phase = .off ∧ (offWith (~~~·)).rd.check ≠ (offWith (~~~·)).rd.crc) ∧
    ((offWith id).power.phase = .off ∧ (offWith id).power.rstLow = false ∧ (offWith id).power.estopLow = false ∧
      (offWith id).rd.intact = true ∧ (offWith id).rd.latch = false ∧ (offWith id).rd.check = (offWith id).rd.crc) :=
  ⟨⟨rfl, fun h => complement_ne _ h.symm⟩, rfl, rfl, rfl, rfl, rfl, rfl⟩

theorem test_witness_MinuteChangesMoveTheClock :
    up.rd.clock.legal = true ∧ up.rd.clock.lastMinute = false ∧
    (⟨2099, 12, 31, 23, 59, 7⟩ : DateTime).legal = true ∧ (⟨2099, 12, 31, 23, 59, 7⟩ : DateTime).lastMinute = true := by decide

theorem test_witness_PointsAreTheLargestAllowed : 1 ≤ 1000 ∧ 300 < 500 ∧ 300 ≤ 300 ∧ 5009 ≤ 4294967295 := by decide

/-- A division of section 7.8's first step. -/
def firstStep : Context :=
  worked (workedChannel 0 100 .allocating 0 none) (workedChannel 0 100 .idle 0 none) (workedChannel 1 50 .idle 0 none) .clear

theorem test_witness_DivisionsStayWithinTheBudget :
    let d : Division := ⟨⟨true, false, false⟩, .fill 0⟩
    (firstStep.cost d.volumes : Int) ≤ firstStep.budget ∧ firstStep.part workedClass d .a = some 40000 ∧
    firstStep.budget < (firstStep.cost (⟨60000000, 0, 0⟩ : Triple Nat) : Int) := by decide

theorem test_witness_SalesWithinTheBudgetStayWithinTheApproval :
    let c := worked (workedChannel 0 100 .done 22580 none) (workedChannel 0 100 .done 8576 none)
      (workedChannel 1 50 .done 1650 none) .clear
    c.permits c.records.a = true ∧ c.permits c.records.b = true ∧ c.permits c.records.c = true ∧
    (c.cost (c.records.map ChannelRecord.soldVolume) : Int) ≤ c.budget ∧ c.saleLines ≠ [] := by decide

theorem test_witness_CountsAreExtended :
    let r := { chan .flowing with extended := 131000, low16 := BitVec.ofNat 16 131000 }
    r.low16 = BitVec.ofNat 16 r.extended ∧ r.state.extending = true ∧ 163767 < r.extended + 32768 ∧ r.extended + 32768 ≤ 163768 ∧
    196535 < r.extended + 65536 ∧ (chan .idle).state.extending = false ∧ (chan .idle).low16 = BitVec.ofNat 16 (chan .idle).extended := by
  decide

/-- A state in use that meets every invariant, with a step to a next state. -/
def running : State := { busy (boundTo .armed (chan .idle)) with pending := [.armTimerExpiry 0] }

theorem test_witness_OutputsAlwaysFollow : running.OutputsFollow ∧ (after (.armTimerExpiry 0) running).isSome = true := by decide
theorem test_witness_PoolStaysSound : running.PoolSound ∧ (after (.armTimerExpiry 0) running).isSome = true := by decide
theorem test_witness_EventQueueStaysSound : running.reu.Sound ∧ (after (.armTimerExpiry 0) running).isSome = true := by decide
theorem test_witness_CommandListsStaySound : running.ListsSound ∧ (after (.armTimerExpiry 0) running).isSome = true := by decide
theorem test_witness_NothingOpensUnderTheLatch :
    (latched running).LatchClean ∧ (latched running).rd.latch = true ∧ (after (.armTimerExpiry 0) (latched running)).isSome = true := by
  decide
theorem test_witness_RangesAreAlwaysKept : running.RangesKept ∧ (after (.armTimerExpiry 0) running).isSome = true := by decide
theorem test_witness_running_steps : ∃ t, step running = .next t := ⟨_, rfl⟩

end Sys2Proof.Tests
end

section
/-! The fault capture on the host link (R101, R102): READ CAPTURE and CLEAR CAPTURE in each load state, and the capture of a failure where none is held. -/

namespace Sys2Proof.Machine

open Sys2Proof

/-! ### The load state as the requests test it -/

theorem State.loading_eq_true {s : State} (hl : s.til.load = .loading) : s.loading = true := decide_eq_true hl

theorem State.loading_eq_false {s : State} (hl : s.til.load ≠ .loading) : s.loading = false := decide_eq_false hl

/-! ### A request taken at once whose service is known -/

/-- The command's outcome where the owning block's answer is known and leaves no work. -/
theorem State.arrive_served {s t : State} {f : HostFrame} {r : Reply} (h : s.takes) (hf : lengthGood f = true)
    (hs : s.heard.serveRequest f.request = ⟨t, [], r⟩) :
    s.arrive f = .next (t.replied (answerCode (requestCode f.request)) f.tag r) := by
  have hw : (s.heard.serveRequest f.request).works = [] := by rw [hs]
  rw [State.arrive_done h hf hw, hs]

/-! ### The services -/

theorem State.serveReadCapture_of_loading {s : State} (hl : s.til.load = .loading) :
    s.serveReadCapture = ⟨s, [], .refused .loading⟩ := if_pos (State.loading_eq_true hl)

theorem State.serveReadCapture_of_not_loading {s : State} (hl : s.til.load ≠ .loading) :
    s.serveReadCapture =
      ⟨s, [], .done (.capture s.dlu.capture (if s.dlu.capture.isSome then s.dlu.further else 0))⟩ := by
  simp [State.serveReadCapture, State.loading_eq_false hl]

theorem State.serveClearCapture_of_loading {s : State} (hl : s.til.load = .loading) :
    s.serveClearCapture = ⟨s, [], .refused .loading⟩ := if_pos (State.loading_eq_true hl)

theorem State.serveClearCapture_of_not_loading {s : State} (hl : s.til.load ≠ .loading) :
    s.serveClearCapture = ⟨{ s with dlu := { s.dlu with capture := none, further := 0 } }, [], .done .nothing⟩ := by
  simp [State.serveClearCapture, State.loading_eq_false hl]

/-! ### The capture (R101) -/

/-- With no capture held, a failure is captured and LINK CAPTURE queued. -/
theorem State.captureFailure_of_none {s : State} (hc : s.dlu.capture = none) (h : HeadId) (ch : Option HeadChannel)
    (k : ExchangeKind) (f : FailureKind) :
    s.captureFailure h ch k f =
      { s with dlu := { s.dlu with capture := some ⟨h, ch, k, f, s.stamp⟩ } }.queueEvent .linkCapture (.head h) f.code := by
  simp [State.captureFailure, hc]

/-! ### The two requests -/

section
variable {s : State} {tag : Byte}

theorem exec_readCapture_of_loading (h : s.takes) (hl : s.til.load = .loading) :
    exec (.readCapture tag 0) s = .next (s.heard.replied 0x8A tag ⟨.refused, .loading, .nothing⟩) :=
  State.arrive_served h (f := ⟨tag, 0, .readCapture⟩) rfl (State.serveReadCapture_of_loading (s := s.heard) hl)

/-- READ CAPTURE leaves the state as its frame left it. -/
theorem exec_readCapture_of_not_loading (h : s.takes) (hl : s.til.load ≠ .loading) :
    exec (.readCapture tag 0) s = .next (s.heard.replied 0x8A tag ⟨.done, .none,
      .capture s.dlu.capture (if s.dlu.capture.isSome then s.dlu.further else 0)⟩) :=
  State.arrive_served h (f := ⟨tag, 0, .readCapture⟩) rfl (State.serveReadCapture_of_not_loading (s := s.heard) hl)

theorem exec_clearCapture_of_loading (h : s.takes) (hl : s.til.load = .loading) :
    exec (.clearCapture tag 0) s = .next (s.heard.replied 0x8B tag ⟨.refused, .loading, .nothing⟩) :=
  State.arrive_served h (f := ⟨tag, 0, .clearCapture⟩) rfl (State.serveClearCapture_of_loading (s := s.heard) hl)

/-- CLEAR CAPTURE empties the record whether or not it held a capture. -/
theorem exec_clearCapture_of_not_loading (h : s.takes) (hl : s.til.load ≠ .loading) :
    exec (.clearCapture tag 0) s = .next { (s.heard.replied 0x8B tag ⟨.done, .none, .nothing⟩) with
      dlu := { s.dlu with capture := none, further := 0 } } :=
  State.arrive_served h (f := ⟨tag, 0, .clearCapture⟩) rfl (State.serveClearCapture_of_not_loading (s := s.heard) hl)

end

/-- Settles O7: each request in each load state by its own lemma; the state that CLEAR CAPTURE leaves holds no capture, so the next failure is captured. -/
theorem captureIsReadAndCleared : Obligations.CaptureIsReadAndCleared := by
  intro s tag h
  constructor
  · intro hl
    exact ⟨exec_readCapture_of_not_loading h hl, _, exec_clearCapture_of_not_loading h hl, rfl,
      State.captureFailure_of_none rfl⟩
  · intro hl
    exact ⟨exec_readCapture_of_loading h hl, exec_clearCapture_of_loading h hl⟩

end Sys2Proof.Machine
end

section
/-! ALL RESUME (R160): its service and its outcome, case by case: in LOADING, with ESTOP held as pressed, with the latch clear and with the latch set. -/

namespace Sys2Proof.Machine

open Sys2Proof

/-! ### The service -/

theorem State.serveAllResume_of_loading {s : State} (hl : s.til.load = .loading) :
    s.serveAllResume = ⟨s, [], .refused .loading⟩ := if_pos (State.loading_eq_true hl)

theorem State.serveAllResume_of_estopHeld {s : State} (hl : s.til.load ≠ .loading) (he : s.scc.estopHeld = true) :
    s.serveAllResume = ⟨s, [], .refused .estopHeld⟩ := by
  simp [State.serveAllResume, State.refuse, State.loading_eq_false hl, he]

theorem State.serveAllResume_of_estopReleased {s : State} (hl : s.til.load ≠ .loading) (he : s.scc.estopHeld = false) :
    s.serveAllResume = ⟨if s.rd.latch then s.clearLatch else s, [], .done .nothing⟩ := by
  simp [State.serveAllResume, State.loading_eq_false hl, he]

theorem State.serveAllResume_of_latch_clear {s : State} (hl : s.til.load ≠ .loading) (he : s.scc.estopHeld = false)
    (hc : s.rd.latch = false) : s.serveAllResume = ⟨s, [], .done .nothing⟩ := by
  rw [State.serveAllResume_of_estopReleased hl he, hc, if_neg Bool.false_ne_true]

theorem State.serveAllResume_of_latch_set {s : State} (hl : s.til.load ≠ .loading) (he : s.scc.estopHeld = false)
    (hc : s.rd.latch = true) : s.serveAllResume = ⟨s.clearLatch, [], .done .nothing⟩ := by
  rw [State.serveAllResume_of_estopReleased hl he, if_pos hc]

/-! ### The request -/

/-- ALL RESUME taken at once, given what its service answers: the service leaves no work, so the reply is all that follows. -/
theorem exec_allResume_served {s t : State} {tag : Byte} {r : Reply} (h : s.takes)
    (hs : s.heard.serveAllResume = ⟨t, [], r⟩) :
    exec (.allResume tag 0) s = .next (t.replied 0x97 tag r) :=
  State.arrive_served h (f := ⟨tag, 0, .allResume⟩) rfl hs

/-- Settles O27: the four cases of the service, each carried to the command by `exec_allResume_served`; a frame heard changes neither the load state, nor ESTOP, nor the latch. -/
theorem allResumeClearsTheLatch : Obligations.AllResumeClearsTheLatch := by
  intro s tag h
  refine ⟨fun hl => ?loading, fun hl he => ?estopHeld, fun hl he hc => ?latchClear, fun hl he hc => ?latchSet⟩
  case loading => exact exec_allResume_served h (State.serveAllResume_of_loading (s := s.heard) hl)
  case estopHeld => exact exec_allResume_served h (State.serveAllResume_of_estopHeld (s := s.heard) hl he)
  case latchClear => exact exec_allResume_served h (State.serveAllResume_of_latch_clear (s := s.heard) hl he hc)
  case latchSet => exact exec_allResume_served h (State.serveAllResume_of_latch_set (s := s.heard) hl he hc)

end Sys2Proof.Machine
end

section
/-! What the six invariants of Safety.lean look at, and the moves by which the working part changes it: each shared operation is shown once to be made of such moves. -/

namespace Sys2Proof

namespace Tab

variable {n : Nat} {α β : Type}

theorem map_set (t : Tab n α) (i : Fin n) (a : α) (f : α → β) : (t.set i a).map f = (t.map f).set i (f a) := by
  ext j
  simp only [get_map, get_set]
  split <;> rfl

/-- An entry written over by one that reads the same leaves the reading as it was. -/
theorem map_set_same (t : Tab n α) {i : Fin n} {a : α} {f : α → β} (h : f a = f (t.get i)) : (t.set i a).map f = t.map f := by
  rw [map_set, h, ← get_map f, set_get]

/-- A map that keeps a reading of every entry keeps the reading of the table. -/
theorem map_map_same {t : Tab n α} {g : α → α} {f : α → β} (h : ∀ a, f (g a) = f a) : (t.map g).map f = t.map f := by
  ext j
  simp [h]

end Tab

namespace Machine

/-! ### What the invariants look at -/

/-- The numbers that have ranges (R5, R67, R85, R96, R101, R188, R193, R197). -/
structure Numbers where
  params : Tab 14 Nat
  save : Option SiteImage
  flash : Option FlashImage
  clock : DateTime
  tenths : Nat
  counter : Nat
  errors : LinkErrors
  further : Nat
  runCount : Nat
  pollCount : Nat
  failed : Tab 24 Nat
  counters : Tab 8 (Nat × Nat × Nat)

/-- The numbers of a state. -/
def State.numbers (s : State) : Numbers :=
  { params := s.til.params, save := s.til.save, flash := s.til.flash, clock := s.rd.clock, tenths := s.rd.clockTenths,
    counter := s.rd.counter, errors := s.hlu.errors, further := s.dlu.further, runCount := s.dlu.runCount,
    pollCount := s.dlu.pollCount, failed := s.dlu.heads.map (·.failedTotal),
    counters := s.tlu.terminals.map fun x => (x.parity, x.framing, x.overrun) }

/-- Every number lies in its range. -/
structure Numbers.Kept (n : Numbers) : Prop where
  params : inRanges n.params
  save : ∀ x ∈ n.save, inRanges x.params
  flash : ∀ x ∈ n.flash, inRanges x.body.params
  clock : n.clock.legal = true
  tenths : n.tenths ≤ 9
  counter : 1 ≤ n.counter ∧ n.counter ≤ 4294967295
  errors : upTo16 n.errors.byteError ∧ upTo16 n.errors.gap ∧ upTo16 n.errors.length ∧ upTo16 n.errors.check ∧
    upTo16 n.errors.overrun
  further : upTo16 n.further
  runCount : n.runCount ≤ 4
  pollCount : n.pollCount ≤ 3
  failed : ∀ h, upTo16 (n.failed.get h)
  counters : ∀ t, upTo16 (n.counters.get t).1 ∧ upTo16 (n.counters.get t).2.1 ∧ upTo16 (n.counters.get t).2.2

/-- `RangesKept` is about the numbers alone. -/
theorem State.rangesKept_iff (s : State) : s.RangesKept ↔ s.numbers.Kept := by
  constructor
  · rintro ⟨h1, h2, h3, h4, h5, h6, h7, h8, h9, h10, h11, h12, h13⟩
    exact ⟨h1, h2, h3, h4, h5, ⟨h6, h7⟩, h8, h9, h10, h11, fun h => by simpa [State.numbers, State.head] using h12 h,
      fun t => by simpa [State.numbers, State.term] using h13 t⟩
  · rintro ⟨h1, h2, h3, h4, h5, ⟨h6, h7⟩, h8, h9, h10, h11, h12, h13⟩
    exact ⟨h1, h2, h3, h4, h5, h6, h7, h8, h9, h10, h11, fun h => by simpa [State.numbers, State.head] using h12 h,
      fun t => by simpa [State.numbers, State.term] using h13 t⟩

/-- What the invariants of Safety.lean look at. -/
structure Watched where
  states : Tab 16 ContextState
  freeList : List ContextId
  records : Nat
  latch : Bool
  locks : Tab 12 Bool
  halt : Bool
  cut : Tab 12 Bool
  locked : Tab 12 Bool
  reu : EventUnit
  lists : Tab 24 (List Command)
  line : DispenserLine
  phase : Phase
  numbers : Numbers

/-- What is watched of a state. -/
def State.watched (s : State) : Watched :=
  { states := s.rd.contexts.map (·.state), freeList := s.rd.freeList, records := s.rd.records.length, latch := s.rd.latch,
    locks := s.rd.locks, halt := s.scc.halt, cut := s.scc.cut, locked := s.dcu.lanes.map fun x => decide (x.state = .locked),
    reu := s.reu, lists := s.dlu.heads.map (·.commands), line := s.dlu.line, phase := s.power.phase, numbers := s.numbers }

/-- The number of contexts OFFERED. -/
def Watched.offered (w : Watched) : Nat := (w.states.items.filter fun x => decide (x = .offered)).length

/-- The number of contexts in use. -/
def Watched.inUse (w : Watched) : Nat := (w.states.items.filter fun x => decide (x ≠ .free)).length

/-- The condition of ATTN (R175). -/
def Watched.attnCondition (w : Watched) : Bool :=
  w.reu.events.any (fun e => decide (w.reu.mask < e.level) || decide (e.level = 7)) ||
    (decide (0 < w.offered) && decide (w.reu.mask < w.reu.authWaiting)) ||
    (!decide (w.records = 0) && decide (w.reu.mask < w.reu.recordWaiting))

/-- ATTN tested afresh (R175). -/
def Watched.tested (w : Watched) : Watched := { w with reu := { w.reu with attn := w.attnCondition } }

/-- An occurrence of an event, ATTN tested within it (R170, R175). -/
def Watched.occur (w : Watched) (k : EventKind) (sub : Subject) (d : Nat) (now : Stamp) : Watched :=
  { w with reu := w.reu.occur k sub d now }.tested

variable {s t u : State}

@[simp] theorem Watched.tested_tested (w : Watched) : w.tested.tested = w.tested := rfl

theorem State.offeredCount_watched (s : State) : s.offeredCount = s.watched.offered := by
  simp only [State.offeredCount, Watched.offered, State.watched, Tab.map, List.filter_map, List.length_map]
  rfl

theorem State.inUseCount_watched (s : State) : s.inUseCount = s.watched.inUse := by
  simp only [State.inUseCount, Watched.inUse, State.watched, Tab.map, List.filter_map, List.length_map]
  rfl

theorem State.attnCondition_watched (s : State) : s.attnCondition = s.watched.attnCondition := by
  have h : s.rd.records.isEmpty = decide (s.rd.records.length = 0) := by cases s.rd.records <;> simp
  simp only [State.attnCondition, Watched.attnCondition, State.offeredCount_watched, h]
  rfl

@[simp] theorem State.watched_states_get (s : State) (i : ContextId) : s.watched.states.get i = (s.ctx i).state := by
  simp [State.watched, State.ctx]

@[simp] theorem State.watched_locked_get (s : State) (l : LaneId) :
    s.watched.locked.get l = decide ((s.lane l).state = .locked) := by
  simp only [State.watched, State.lane, Tab.get_map]
  congr

@[simp] theorem State.watched_lists_get (s : State) (h : HeadId) : s.watched.lists.get h = (s.head h).commands := by
  simp [State.watched, State.head]

/-! ### Updates that nothing watched shows -/

theorem State.watched_setCtx (s : State) (i : ContextId) (c : Context) :
    (s.setCtx i c).watched = { s.watched with states := s.watched.states.set i c.state } := by
  simp only [State.watched, State.setCtx, Tab.map_set]; rfl

theorem State.watched_modCtx (s : State) (i : ContextId) {f : Context → Context} (h : (f (s.ctx i)).state = (s.ctx i).state) :
    (s.modCtx i f).watched = s.watched := by
  rw [State.modCtx, State.watched_setCtx, h, ← State.watched_states_get, Tab.set_get]

@[simp] theorem State.watched_modChannel (s : State) (i : ContextId) (ch : Channel) (f : ChannelRecord → ChannelRecord) :
    (s.modChannel i ch f).watched = s.watched := s.watched_modCtx i rfl

theorem State.watched_modLane (s : State) (l : LaneId) {f : Lane → Lane}
    (h : (f (s.lane l)).state = .locked ↔ (s.lane l).state = .locked) : (s.modLane l f).watched = s.watched := by
  have e := Tab.map_set_same s.dcu.lanes (f := fun x : Lane => decide (x.state = .locked)) (decide_eq_decide.mpr h)
  simp only [State.watched, State.modLane, State.setLane, e]
  rfl

@[simp] theorem State.watched_modLaneChannel (s : State) (l : LaneId) (ch : Channel) (f : LaneChannel → LaneChannel) :
    (s.modLaneChannel l ch f).watched = s.watched := s.watched_modLane l Iff.rfl

theorem State.watched_modTerm (s : State) (t : TerminalId) {f : Terminal → Terminal}
    (h : ∀ x, ((f x).parity, (f x).framing, (f x).overrun) = (x.parity, x.framing, x.overrun)) :
    (s.modTerm t f).watched = s.watched := by
  have e := Tab.map_set_same s.tlu.terminals (f := fun x : Terminal => (x.parity, x.framing, x.overrun)) (h (s.term t))
  simp only [State.watched, State.numbers, State.modTerm, State.setTerm, e]

@[simp] theorem State.watched_showOn (s : State) (t : TerminalId) (m : Message) : (s.showOn t m).watched = s.watched :=
  s.watched_modTerm t fun _ => rfl

@[simp] theorem State.watched_interjectOn (s : State) (t : TerminalId) (m : Message) : (s.interjectOn t m).watched = s.watched :=
  s.watched_modTerm t fun _ => rfl

@[simp] theorem State.watched_setTermLine (s : State) (x : TerminalLine) : (s.setTermLine x).watched = s.watched := rfl

@[simp] theorem State.watched_setAnswering (s : State) (a : Option Answer) : (s.setAnswering a).watched = s.watched := rfl

@[simp] theorem State.watched_frameDone (s : State) : s.frameDone.watched = s.watched := rfl

theorem State.watched_modHead (s : State) (h : HeadId) {f : Head → Head}
    (hc : (f (s.head h)).commands = (s.head h).commands) (hf : (f (s.head h)).failedTotal = (s.head h).failedTotal) :
    (s.modHead h f).watched = s.watched := by
  have e1 := Tab.map_set_same s.dlu.heads (f := fun x : Head => x.commands) hc
  have e2 := Tab.map_set_same s.dlu.heads (f := fun x : Head => x.failedTotal) hf
  simp only [State.watched, State.numbers, State.modHead, State.setHead, e1, e2]

theorem State.watched_setCommands (s : State) (h : HeadId) (cs : List Command) :
    (s.setCommands h cs).watched = { s.watched with lists := s.watched.lists.set h cs } := by
  have e := Tab.map_set_same s.dlu.heads (i := h) (a := { s.head h with commands := cs }) (f := fun x : Head => x.failedTotal) rfl
  simp only [State.watched, State.numbers, State.setCommands, State.modHead, State.setHead, Tab.map_set, e]

@[simp] theorem State.watched_setLine (s : State) (x : DispenserLine) :
    (s.setLine x).watched = { s.watched with line := x } := rfl

@[simp] theorem State.watched_testAttn (s : State) : s.testAttn.watched = s.watched.tested := by
  simp only [State.testAttn, State.attnCondition_watched]; rfl

@[simp] theorem State.watched_queueEvent (s : State) (k : EventKind) (sub : Subject) (d : Nat) :
    (s.queueEvent k sub d).watched = s.watched.occur k sub d s.stamp := by
  simp only [State.queueEvent, State.watched_testAttn]; rfl

/-- An occurrence carries ATTN along. -/
theorem EventUnit.occur_attn (x : EventUnit) (b : Bool) (k : EventKind) (sub : Subject) (d : Nat) (now : Stamp) :
    ({ x with attn := b } : EventUnit).occur k sub d now = { x.occur k sub d now with attn := b } := by
  simp only [EventUnit.occur, EventUnit.drop]
  split_ifs <;> rfl

/-- ATTN as it stood does not show once an event has been queued. -/
@[simp] theorem Watched.occur_tested (w : Watched) (k : EventKind) (sub : Subject) (d : Nat) (now : Stamp) :
    w.tested.occur k sub d now = w.occur k sub d now := by
  simp only [Watched.occur, Watched.tested, EventUnit.occur_attn]
  rfl

/-! ### The moves -/

/-- One change of what is watched that the working part may make. -/
inductive Move (s t : State) : Prop
  /-- Nothing watched changes. -/
  | still (h : t.watched = s.watched)
  /-- An event is queued, its subject one of its kind. -/
  | event (k : EventKind) (sub : Subject) (d : Nat) (now : Stamp) (hk : fixedSubject k sub = true)
      (h : t.watched = s.watched.occur k sub d now)
  /-- ATTN is tested afresh. -/
  | attn (h : t.watched = s.watched.tested)
  /-- A context in use takes another state in use, ATTN tested after it. -/
  | context (i : ContextId) (x : ContextState) (hs : (s.ctx i).state ≠ .free) (hx : x ≠ .free)
      (h : t.watched = { s.watched with states := s.watched.states.set i x }.tested)
  /-- A context in use and not OFFERED takes another such state. -/
  | quiet (i : ContextId) (x : ContextState) (hs : (s.ctx i).state ≠ .free ∧ (s.ctx i).state ≠ .offered)
      (hx : x ≠ .free ∧ x ≠ .offered) (h : t.watched = { s.watched with states := s.watched.states.set i x })
  /-- A context is closed (R24). -/
  | close (i : ContextId) (hs : (s.ctx i).state ≠ .free)
      (h : t.watched = { s.watched with
        states := s.watched.states.set i .free, freeList := s.watched.freeList ++ [i],
        records := s.watched.records + 1 }.tested)
  /-- The context at the head of the free list is taken, where there is room for its record (R1, R3). -/
  | allocate (i : ContextId) (rest : List ContextId) (hf : s.rd.freeList = i :: rest)
      (hr : s.rd.records.length + s.inUseCount < 48)
      (h : t.watched = { s.watched with states := s.watched.states.set i .prompting, freeList := rest }.tested)
  /-- The record at the queue's head is taken (R168). -/
  | record (n : Nat) (hn : s.rd.records.length = n + 1) (h : t.watched = { s.watched with records := n }.tested)
  /-- The event unit is changed so that its soundness is kept, ATTN tested after it. -/
  | events (x : EventUnit) (hx : s.reu.Sound → x.Sound) (h : t.watched = { s.watched with reu := x }.tested)
  /-- A lane is LOCKED (R129). -/
  | lock (l : LaneId) (h : t.watched = { s.watched with
      locks := s.watched.locks.set l true, cut := s.watched.cut.set l true, locked := s.watched.locked.set l true })
  /-- A lane's lock ends (R131). -/
  | unlock (l : LaneId) (h : t.watched = { s.watched with
      locks := s.watched.locks.set l false, cut := s.watched.cut.set l false, locked := s.watched.locked.set l false })
  /-- The latch is cleared and HALT released (R160). -/
  | clearLatch (h : t.watched = { s.watched with latch := false, halt := false })
  /-- A head's list keeps some of its entries in their order. -/
  | shrink (hd : HeadId) (cs : List Command) (hs : cs.Sublist (s.head hd).commands)
      (h : t.watched = { s.watched with lists := s.watched.lists.set hd cs })
  /-- A command joins a list; under the latch no OPEN and no RELEASE does (R91 to R94). -/
  | join (hd : HeadId) (c : Command) (hc : s.rd.latch = true → c.opening = false)
      (h : t.watched = { s.watched with lists := s.watched.lists.set hd (joinList (s.head hd).commands c) })
  /-- A RELEASE comes back as LIMIT and OPEN, the latch being clear (R90). -/
  | split (hd : HeadId) (c : Command) (p : Points) (hl : s.rd.latch = false)
      (h : t.watched = { s.watched with lists := s.watched.lists.set hd (splitBack (s.head hd).commands c p) })
  /-- The dispenser link changes; under the latch no OPEN and no RELEASE begins to be sent. -/
  | line (x : DispenserLine)
      (hx : s.rd.latch = true → ∀ y, x = .sending y → y.command.any Command.opening = false)
      (h : t.watched = { s.watched with line := x })
  /-- Numbers change within their ranges. -/
  | numbers (n : Numbers) (hn : s.numbers.Kept → n.Kept) (h : t.watched = { s.watched with numbers := n })

/-- Any number of moves. -/
def Moves (s t : State) : Prop := Relation.ReflTransGen Move s t

theorem Moves.refl : Moves s s := Relation.ReflTransGen.refl

theorem Moves.single (h : Move s t) : Moves s t := Relation.ReflTransGen.single h

theorem Moves.trans (h : Moves s t) (k : Moves t u) : Moves s u := Relation.ReflTransGen.trans h k

theorem Moves.still (h : t.watched = s.watched) : Moves s t := .single (.still h)

/-- Moves go on to any state that shows the same. -/
theorem Moves.trans_still (h : Moves s t) (e : u.watched = t.watched) : Moves s u := h.trans (.still e)

/-- Moves that do not depend on ATTN as it stood: the operation tests it before anything shows. -/
def Refreshes (s t : State) : Prop := ∀ v : State, v.watched.tested = s.watched.tested → Moves v t

theorem Refreshes.moves (h : Refreshes s t) : Moves s t := h s rfl

theorem Refreshes.then (h : Refreshes s t) (k : Moves t u) : Refreshes s u := fun v e => (h v e).trans k

/-- A change that nothing watched shows, made first. -/
theorem Refreshes.after (e : t.watched = s.watched) (h : Refreshes t u) : Refreshes s u := fun v k => h v (k.trans (by rw [e]))

/-- A state that differs in ATTN alone has its contexts in the same states. -/
theorem State.state_of_tested {v : State} (e : v.watched.tested = s.watched.tested) (i : ContextId) :
    (v.ctx i).state = (s.ctx i).state := by
  have h := congrArg (fun w => w.states.get i) e
  simpa [Watched.tested] using h

/-! ### Updates that are one move -/

/-- An event of the right subject may be queued. -/
theorem State.refreshes_queueEvent (s : State) {k : EventKind} {sub : Subject} (hk : fixedSubject k sub = true) (d : Nat) :
    Refreshes s (s.queueEvent k sub d) := fun v e =>
  .single (.event k sub d s.stamp hk (by rw [s.watched_queueEvent, ← Watched.occur_tested, ← e, Watched.occur_tested]))

theorem State.moves_queueEvent (s : State) {k : EventKind} {sub : Subject} (hk : fixedSubject k sub = true) (d : Nat) :
    Moves s (s.queueEvent k sub d) := (s.refreshes_queueEvent hk d).moves

theorem State.moves_shrink (s : State) (h : HeadId) {cs : List Command} (hs : cs.Sublist (s.head h).commands) :
    Moves s (s.setCommands h cs) := .single (.shrink h cs hs (s.watched_setCommands h cs))

theorem State.moves_lockLane (s : State) (l : LaneId) : Moves s (s.lockLane l) := by
  refine .single (.lock l ?_)
  simp only [State.lockLane, State.watched, State.modLane, State.setLane, Tab.map_set]
  rfl

/-- A lane that is not LOCKED stays so: nothing watched changes. -/
theorem State.moves_modLane (s : State) (l : LaneId) {f : Lane → Lane}
    (h : (f (s.lane l)).state = .locked ↔ (s.lane l).state = .locked) : Moves s (s.modLane l f) := .still (s.watched_modLane l h)

/-- A context in use takes another state in use, ATTN tested after it. -/
theorem Refreshes.context {i : ContextId} {x : ContextState} (hs : (s.ctx i).state ≠ .free) (hx : x ≠ .free)
    (h : t.watched = { s.watched with states := s.watched.states.set i x }.tested) : Refreshes s t := fun v e =>
  .single (.context i x (by rw [State.state_of_tested e]; exact hs) hx
    (h.trans (congrArg (fun w => ({ w with states := w.states.set i x } : Watched).tested) e.symm)))

theorem State.refreshes_context (s : State) (i : ContextId) {f : Context → Context} (hs : (s.ctx i).state ≠ .free)
    (hf : (f (s.ctx i)).state ≠ .free) : Refreshes s (s.modCtx i f).testAttn :=
  .context hs hf (by rw [State.watched_testAttn, State.modCtx, State.watched_setCtx])

theorem State.freeLaneState_ne_locked (s : State) (l : LaneId) : s.freeLaneState l ≠ .locked := by
  unfold State.freeLaneState; split <;> decide

end Machine
end Sys2Proof
end

section
/-! Closing, approving and the work of delivery control are made of moves. -/

namespace Sys2Proof.Machine

open Sys2Proof

variable (s : State)

/-! ### Prices and lanes -/

theorem State.moves_adopt (l : LaneId) : Moves s (s.adopt l) := by
  have h := s.moves_modLane l (f := fun x => { x with prices := s.lau.newestPrices }) Iff.rfl
  exact h.trans (.single (.event .priceAdopted (.lane l) 0 s.stamp rfl
    ((State.watched_queueEvent _ _ _ _).trans rfl)))

@[simp] theorem State.watched_settlePrices : s.settlePrices.watched = s.watched := by
  unfold State.settlePrices; split <;> rfl

theorem State.moves_adoptIfListed (l : LaneId) : Moves s (s.adoptIfListed l) := by
  unfold State.adoptIfListed
  split
  · exact (s.moves_adopt l).trans_still (State.watched_settlePrices _)
  · exact .refl

theorem State.moves_testFaultStop (l : LaneId) : Moves s (s.testFaultStop l) := by
  unfold State.testFaultStop
  split
  · rename_i h
    simp only [Bool.and_eq_true, decide_eq_true_eq] at h
    refine (s.moves_modLane l ?_).trans (State.moves_adoptIfListed _ l)
    simp [h.1.1, State.freeLaneState_ne_locked]
  · exact .refl

theorem State.moves_releaseLane (l : LaneId) : Moves s (s.releaseLane l) := by
  unfold State.releaseLane
  split
  · rename_i h
    exact s.moves_modLane l (by simp [h, State.freeLaneState_ne_locked])
  · exact .refl

theorem State.moves_unbind (x : Option LaneId) (lock : Bool) : Moves s (s.unbind x lock) := by
  cases x with
  | none => exact .refl
  | some l =>
    have first : Moves s (if lock then (s.lockLane l).queueEvent .laneLockout (.lane l) recoveryExpiredCode
        else s.releaseLane l) := by
      split
      · exact (s.moves_lockLane l).trans (State.moves_queueEvent _ rfl _)
      · exact s.moves_releaseLane l
    exact (first.trans (State.moves_adoptIfListed _ l)).trans (State.moves_testFaultStop _ l)

@[simp] theorem State.watched_sayClosing (t : Option TerminalId) (m : Option Message) :
    (s.sayClosing t m).watched = s.watched := by
  cases t <;> cases m <;> first | rfl | exact State.watched_showOn _ _ _

/-! ### Closing -/

theorem State.watched_freeContext (i : ContextId) :
    (s.freeContext i).watched =
      { s.watched with states := s.watched.states.set i .free, freeList := s.watched.freeList ++ [i] } := by
  simp only [State.watched, State.freeContext, Tab.map_set]; rfl

theorem State.watched_appendRecord (r : Record) :
    (s.appendRecord r).watched = { s.watched with records := s.watched.records + 1 }.tested := by
  simp only [State.appendRecord, State.watched_testAttn]
  simp only [State.watched, List.length_append]
  rfl

/-- Steps 1 to 4 and 7 of closing: the OVER LIMIT event where it is due, then the record and the freeing as one move. -/
theorem State.refreshes_writeRecord_free {i : ContextId} (hs : (s.ctx i).state ≠ .free) (p : ClosePath) :
    Refreshes s ((s.writeRecord i p).freeContext i).testAttn := by
  have closes : ∀ (u : State) (r : Record), (u.ctx i).state ≠ .free → Refreshes u ((u.appendRecord r).freeContext i).testAttn := by
    intro u r hu v e
    refine .single (.close i (by rw [State.state_of_tested e]; exact hu) ?_)
    rw [State.watched_testAttn, State.watched_freeContext, State.watched_appendRecord]
    exact congrArg (fun w => ({ w with
      states := w.states.set i .free, freeList := w.freeList ++ [i], records := w.records + 1 } : Watched).tested) e.symm
  simp only [State.writeRecord]
  split
  · refine (Refreshes.after (s.watched_modCtx i rfl) (State.refreshes_queueEvent _ rfl 0)).then (closes _ _ ?_).moves
    simpa [State.ctx, State.queueEvent, State.testAttn, State.modCtx, State.setCtx, Context.flagOverLimit] using hs
  · exact closes s _ hs

/-- A context in use may be closed. -/
theorem State.refreshes_closeContext {i : ContextId} (hs : (s.ctx i).state ≠ .free) (p : ClosePath) (lock : Bool) :
    Refreshes s (s.closeContext i p lock) := by
  simp only [State.closeContext]
  exact (s.refreshes_writeRecord_free hs p).then ((State.moves_unbind _ _ _).trans_still (State.watched_sayClosing _ _ _))

theorem State.moves_closeContext {i : ContextId} (hs : (s.ctx i).state ≠ .free) (p : ClosePath) (lock : Bool) :
    Moves s (s.closeContext i p lock) := (s.refreshes_closeContext hs p lock).moves

theorem State.modCtx_ctx_self (i : ContextId) (f : Context → Context) : (s.modCtx i f).ctx i = f (s.ctx i) := by
  rw [State.modCtx_ctx, if_pos rfl]

/-- A change within a context's state, then its closing. -/
theorem State.refreshes_modCtx_close {i : ContextId} {f : Context → Context} (hf : (f (s.ctx i)).state = (s.ctx i).state)
    (hs : (s.ctx i).state ≠ .free) (p : ClosePath) (lock : Bool) : Refreshes s ((s.modCtx i f).closeContext i p lock) :=
  .after (s.watched_modCtx i hf)
    (State.refreshes_closeContext _ (by rw [State.modCtx_ctx_self, hf]; exact hs) p lock)

theorem State.refreshes_decline {i : ContextId} (hs : (s.ctx i).state ≠ .free) (r : Reason) : Refreshes s (s.decline i r) :=
  s.refreshes_modCtx_close rfl hs _ _

theorem State.refreshes_declineBy {i : ContextId} (hs : (s.ctx i).state ≠ .free) (x : DecisionSource) (r : Reason) :
    Refreshes s (s.declineBy i x r) :=
  .after (s.watched_modCtx i rfl) (State.refreshes_decline _ (by rw [State.modCtx_ctx_self]; exact hs) r)

theorem State.moves_cancel {i : ContextId} (hs : (s.ctx i).state ≠ .free) (r : Reason) : Moves s (s.cancel i r) :=
  (s.refreshes_modCtx_close rfl hs _ _).moves

/-- A context in one of two states in use and not OFFERED goes to another such. -/
theorem State.moves_quiet (i : ContextId) {f : Context → Context} (hs : (s.ctx i).state ≠ .free ∧ (s.ctx i).state ≠ .offered)
    (hf : (f (s.ctx i)).state ≠ .free ∧ (f (s.ctx i)).state ≠ .offered) : Moves s (s.modCtx i f) :=
  .single (.quiet i _ hs hf (by rw [State.modCtx, State.watched_setCtx]))

/-! ### The Transaction Manager's tests -/

theorem State.moves_testEnding {i : ContextId} (hs : (s.ctx i).state ≠ .free) : Moves s (s.testEnding i) := by
  unfold State.testEnding
  split
  · exact s.moves_closeContext hs _ _
  · exact .refl

theorem State.moves_enterEnding {i : ContextId} (hs : (s.ctx i).state ≠ .free ∧ (s.ctx i).state ≠ .offered) :
    Moves s (s.enterEnding i) := by
  have enter := s.moves_quiet i (f := fun c => { c with state := .ending, deadline := some (.start s.continueTime) })
    hs ⟨nofun, nofun⟩
  have now := s.modCtx_ctx_self i fun c => { c with state := .ending, deadline := some (.start s.continueTime) }
  have used : ((s.modCtx i fun c => { c with state := .ending, deadline := some (.start s.continueTime) }).ctx i).state ≠ .free := by
    rw [now]; nofun
  simp only [State.enterEnding]
  split
  · exact enter.trans (State.moves_closeContext _ used _ _)
  · exact enter.trans (State.moves_testEnding _ used)

theorem State.moves_changedArmed {i : ContextId} (hs : (s.ctx i).state ≠ .free) : Moves s (s.changedArmed i) := by
  simp only [State.changedArmed]
  split
  · exact .still (s.watched_modCtx i rfl)
  · split
    · exact s.moves_closeContext hs _ _
    · split
      · exact .still (s.watched_modCtx i rfl)
      · exact .refl

theorem State.moves_contextChanged (i : ContextId) : Moves s (s.contextChanged i) := by
  simp only [State.contextChanged]
  split
  case h_1 h => exact s.moves_changedArmed (by rw [h]; nofun)
  case h_2 h =>
    split
    · exact s.moves_enterEnding (by rw [h]; exact ⟨nofun, nofun⟩)
    · exact .refl
  case h_3 h =>
    split
    · exact s.moves_quiet i (by rw [h]; exact ⟨nofun, nofun⟩) ⟨nofun, nofun⟩
    · exact s.moves_testEnding (by rw [h]; nofun)
  case h_4 h =>
    split
    · exact .refl
    · exact s.moves_closeContext (by rw [h]; nofun) _ _
  case h_5 h =>
    split
    · exact s.moves_closeContext (by rw [h]; nofun) _ _
    · exact .refl
  case h_6 => exact .refl

/-! ### Messages -/

@[simp] theorem State.watched_tellFreely (t : TerminalId) (m : Message) : (s.tellFreely t m).watched = s.watched := by
  simp only [State.tellFreely]; split <;> simp

@[simp] theorem State.watched_tell (i : ContextId) (m : Message) : (s.tell i m).watched = s.watched := by
  unfold State.tell
  repeat' split
  all_goals simp

@[simp] theorem State.watched_sayLift (i : ContextId) : (s.sayLift i).watched = s.watched := by
  unfold State.sayLift; split <;> simp

/-! ### Work: what a piece does -/

/-- The events that work may queue are of a kind's own subjects. -/
def Work.good : Work → Bool
  | .event k sub _ => fixedSubject k sub
  | _ => true

/-- A piece of work moves the state and leaves good work. -/
structure Does (s : State) (r : State × List Work) : Prop where
  moves : Moves s r.1
  works : ∀ w ∈ r.2, w.good = true

variable {s} {t u : State} {ws : List Work}

theorem Does.still (h : t.watched = s.watched) (hw : ∀ w ∈ ws, w.good = true) : Does s (t, ws) := ⟨.still h, hw⟩

theorem Does.none (h : Moves s t) : Does s (t, []) := ⟨h, List.forall_mem_nil _⟩

theorem Does.nothing (s : State) : Does s (s, []) := .none .refl

/-- Moves made before a piece of work. -/
theorem Does.after {r : State × List Work} (h : Moves s t) (d : Does t r) : Does s r := ⟨h.trans d.moves, d.works⟩

/-- Two pieces of work one after the other, their work gathered. -/
theorem Does.append {r v : State × List Work} (d : Does s r) (e : Does r.1 v) : Does s (v.1, r.2 ++ v.2) :=
  ⟨d.moves.trans e.moves, fun w hw => (List.mem_append.mp hw).elim (d.works w) (e.works w)⟩

theorem Does.gather {α : Type} {f : State → α → State × List Work} (h : ∀ s x, Does s (f s x)) :
    ∀ (xs : List α) (s : State), Does s (s.gather f xs)
  | [], s => .nothing s
  | x :: xs, s => (h s x).append (Does.gather h xs (f s x).1)

theorem goodOutcomes (cs : List Command) (o : CommandOutcome) : ∀ w ∈ cs.map fun c => Work.outcome c o, w.good = true := by
  intro w hw
  obtain ⟨c, -, rfl⟩ := List.mem_map.mp hw
  rfl

theorem State.queueFor_good (s : State) (i : ContextId) (ch : Channel) (p : Payload) : ∀ w ∈ s.queueFor i ch p, w.good = true := by
  intro w hw
  simp only [State.queueFor, Option.mem_toList, Option.map_eq_some_iff] at hw
  obtain ⟨c, -, rfl⟩ := hw
  rfl

/-- A channel's change with good work. -/
theorem State.does_withChannel (s : State) (i : ContextId) (ch : Channel) (f : ChannelRecord → ChannelRecord)
    (hw : ∀ w ∈ ws, w.good = true) : Does s (s.withChannel i ch f ws) := .still (s.watched_modChannel i ch f) hw

/-! ### Queuing and withdrawal -/

theorem State.does_join (s : State) {c : Command} (hc : s.rd.latch = true → c.opening = false) : Does s (s.join c) :=
  ⟨.single (.join c.head c hc (s.watched_setCommands _ _)), goodOutcomes _ _⟩

theorem State.does_queueCommand (s : State) (c : Command) : Does s (s.queueCommand c) := by
  have one : ∀ o, ∀ w ∈ [Work.outcome c o], w.good = true := fun o w hw => by rw [List.mem_singleton.mp hw]; rfl
  unfold State.queueCommand
  split
  · exact .still rfl (one _)
  · split
    · exact .still rfl (one _)
    · split
      · exact .still rfl (one _)
      · rename_i hl
        have clean : s.rd.latch = true → c.opening = false := by
          intro h; simpa [h] using hl
        split
        · rename_i p hp
          have open_latch : s.rd.latch = false := by
            cases h : s.rd.latch with
            | false => rfl
            | true => simpa [Command.opening, hp] using clean h
          split
          · exact ⟨(s.does_join (c := c.splitLimit p) fun h => by simp [open_latch] at h).moves.trans
              (State.does_join _ (c := c.splitOpen) fun h => by rw [← open_latch]; exact h.symm).moves, goodOutcomes _ _⟩
          · exact s.does_join clean
        · exact s.does_join clean

theorem State.does_dropOpen (s : State) (c : Command) : Does s (s.dropOpen c) :=
  ⟨s.moves_shrink _ List.filter_sublist, goodOutcomes _ _⟩

/-! ### Outcomes -/

theorem State.does_zeroFailed (s : State) (i : ContextId) (n : Nat) (l : LaneId) (ch : Channel) : Does s (s.zeroFailed i n l ch) :=
  s.does_withChannel i ch _ (by simp [Work.good, fixedSubject])

theorem State.does_zeroOutcome (s : State) (c : Command) (entry : Nat) (o : CommandOutcome) : Does s (s.zeroOutcome c entry o) := by
  unfold State.zeroOutcome
  split
  · exact .nothing s
  · split
    · exact .nothing s
    · split
      · exact s.does_withChannel _ _ _ (List.forall_mem_nil _)
      · exact .nothing s
      · exact s.does_zeroFailed _ _ _ _

theorem State.does_limitAccepted (s : State) (i : ContextId) (n : Nat) (ch : Channel) (p : Points) (lowers : Bool) (count : Nat) :
    Does s (s.limitAccepted i n ch p lowers count) := by
  unfold State.limitAccepted
  split
  · exact .still ((State.watched_modCtx _ i rfl).trans (s.watched_modChannel i ch _)) (by simp [Work.good])
  · exact .nothing s

theorem State.does_limitOutcome (s : State) (c : Command) (p : Points) (lowers : Bool) (o : CommandOutcome) :
    Does s (s.limitOutcome c p lowers o) := by
  unfold State.limitOutcome
  split
  · split
    · exact s.does_limitAccepted _ _ _ _ _ _
    · exact .nothing s
  · exact .still rfl (by simp [Work.good])
  · exact .still rfl (by simp [Work.good])
  · exact .nothing s

theorem State.does_valveOpened (s : State) (i : ContextId) (n : Nat) (ch : Channel) : Does s (s.valveOpened i n ch) := by
  have opened := s.watched_modChannel i ch fun r => r.opened s.noFlowTime
  refine ⟨(Moves.still opened).trans ?_, by simp [State.valveOpened, Work.good]⟩
  show Moves (s.modChannel i ch fun r => r.opened s.noFlowTime) ((s.modChannel i ch fun r => r.opened s.noFlowTime).modCtx i _)
  generalize (s.modChannel i ch fun r => r.opened s.noFlowTime) = u
  by_cases h : (u.ctx i).state = .armed
  · exact u.moves_quiet i (by rw [h]; exact ⟨nofun, nofun⟩) (by rw [if_pos h]; exact ⟨nofun, nofun⟩)
  · exact .still (u.watched_modCtx i (by rw [if_neg h]))

theorem State.does_openOutcome (s : State) (c : Command) (o : CommandOutcome) : Does s (s.openOutcome c o) := by
  unfold State.openOutcome
  split
  · split
    · exact .still rfl (by simp [Work.good])
    · exact .still rfl (by simp [Work.good])
    · exact .nothing s
  · split
    · split
      · exact s.does_valveOpened _ _ _
      · exact .nothing s
    · split
      · exact s.does_withChannel _ _ _ (by simp [Work.good])
      · exact .nothing s
    · exact .nothing s
    · exact s.does_withChannel _ _ _ (by simp [Work.good])

theorem State.watched_faultCloseAccepted (s : State) (l : LaneId) (ch : Channel) :
    (s.faultCloseAccepted l ch).watched = s.watched := by
  unfold State.faultCloseAccepted; split <;> simp

theorem State.does_closeOutcome (s : State) (c : Command) (byFault : Bool) (o : CommandOutcome) :
    Does s (s.closeOutcome c byFault o) := by
  have failed : Does s (match s.activeRecord c with
      | none => (s, [.fault c.lane .commandFailed])
      | some (i, n, _) =>
        s.withChannel i c.channel
          (fun r => if r.state = .closing ∨ r.state = .settling then { r.ended .failed with endCause := some (.fault .commandFailed) }
            else r)
          [.fault c.lane .commandFailed, .changed i n]) := by
    split
    · exact .still rfl (by simp [Work.good])
    · exact s.does_withChannel _ _ _ (by simp [Work.good])
  unfold State.closeOutcome
  split
  · have first : (if byFault then s.faultCloseAccepted c.lane c.channel else s).watched = s.watched := by
      split
      · exact s.watched_faultCloseAccepted _ _
      · rfl
    dsimp only
    generalize (if byFault then s.faultCloseAccepted c.lane c.channel else s) = u at first
    split
    · exact .still first (List.forall_mem_nil _)
    · exact .still ((State.watched_modCtx _ _ rfl).trans ((u.watched_modChannel _ _ _).trans first)) (by simp [Work.good])
  · exact failed
  · exact failed
  · exact .nothing s

theorem State.does_finalAccepted (s : State) (i : ContextId) (n : Nat) (c : Command) (r : ChannelRecord) (count : BitVec 32) :
    Does s (s.finalAccepted i n c r count) := by
  unfold State.finalAccepted
  split
  · exact .still (s.watched_modChannel _ _ _) (by simp [Work.good])
  · exact .still ((State.watched_modCtx _ _ rfl).trans (s.watched_modChannel _ _ _)) (by simp [Work.good])

theorem State.does_finalOutcome (s : State) (c : Command) (o : CommandOutcome) : Does s (s.finalOutcome c o) := by
  unfold State.finalOutcome
  split
  · split
    · exact .still rfl (by simp [Work.good])
    · exact .still rfl (by simp [Work.good])
    · exact .nothing s
  · split
    · split
      · exact s.does_finalAccepted _ _ _ _ _
      · exact .nothing s
    · exact s.does_withChannel _ _ _ (by simp [Work.good])
    · exact s.does_withChannel _ _ _ (by simp [Work.good])
    · exact .nothing s

theorem State.does_takeOutcome (s : State) (c : Command) (o : CommandOutcome) : Does s (s.takeOutcome c o) := by
  unfold State.takeOutcome
  split
  · exact .nothing s
  · split
    · exact s.does_zeroOutcome _ _ _
    · exact s.does_limitOutcome _ _ _ _
    · exact s.does_openOutcome _ _
    · exact s.does_openOutcome _ _
    · exact s.does_closeOutcome _ _ _
    · exact s.does_finalOutcome _ _

/-! ### Lane faults -/

theorem Context.cancellable_used {c : Context} (h : c.cancellable = true) : c.state ≠ .free := by
  intro hf
  simp [Context.cancellable, hf] at h

/-- A context cancelled where it is cancellable, or else given a reason and stopped where it is stoppable: the stop of a first fault, of the host and of ALL STOP. -/
theorem State.does_cancelOrStop (s : State) (i : ContextId) (r : Reason) (cause : EndCause) :
    Does s (if (s.ctx i).cancellable then (s.cancel i r, [])
      else if (s.ctx i).stoppable then (s.modCtx i fun c => c.withReason r, [.stop i (s.ctx i).transaction cause])
      else (s, [])) := by
  split
  · rename_i h
    exact .none (s.moves_cancel (Context.cancellable_used h) r)
  · split
    · exact .still (s.watched_modCtx i rfl) (by simp [Work.good])
    · exact .nothing s

theorem State.does_faultContext (s : State) (i : ContextId) (k : FaultKind) : Does s (s.faultContext i k) :=
  .after (.still (s.watched_modCtx i rfl)) (State.does_cancelOrStop (s.modCtx i Context.flagFault) i .laneFault (.fault k))

theorem State.does_firstFault (s : State) (l : LaneId) (k : FaultKind) (h : (s.lane l).state ≠ .locked) :
    Does s (s.firstFault l k) := by
  have enter : Moves s ((s.modLane l fun x => x.enterFaultStop k).queueEvent .laneFault (.lane l) k.code) :=
    (s.moves_modLane l (by simp [Lane.enterFaultStop, h])).trans (State.moves_queueEvent _ rfl _)
  have closes : ∀ w ∈ [Work.faultCloses l k], w.good = true := by simp [Work.good]
  unfold State.firstFault
  dsimp only
  split
  · rename_i i _
    have d := State.does_faultContext ((s.modLane l fun x => x.enterFaultStop k).queueEvent .laneFault (.lane l) k.code) i k
    exact .after enter ⟨d.moves, fun w hw => (List.mem_append.mp hw).elim (d.works w) (closes w)⟩
  · exact ⟨enter, closes⟩

theorem State.does_emptyLists : ∀ (hs : List HeadId) (s : State), Does s (s.emptyLists hs)
  | [], s => .nothing s
  | h :: hs, s =>
    ⟨(s.moves_shrink h (List.nil_sublist _)).trans (State.does_emptyLists hs (s.setCommands h [])).moves,
      fun w hw => (List.mem_append.mp hw).elim (goodOutcomes _ _ w) ((State.does_emptyLists hs (s.setCommands h [])).works w)⟩

theorem State.watched_cutLine (s : State) (hs : List HeadId) : (s.cutLine hs).watched = s.watched := by
  unfold State.cutLine; split <;> rfl

theorem State.does_lockout (s : State) (hs : List HeadId) : Does s (s.lockout hs) :=
  .after (.still (s.watched_cutLine hs)) (State.does_emptyLists hs _)

theorem State.does_secondFault (s : State) (l : LaneId) (k : FaultKind) : Does s (s.secondFault l k) := by
  have lock : Moves s ((s.lockLane l).modLane l fun x => { x with fault := some k }) :=
    (s.moves_lockLane l).trans (State.moves_modLane _ l Iff.rfl)
  have d := State.does_lockout ((s.lockLane l).modLane l fun x => { x with fault := some k })
    (((s.lockLane l).modLane l fun x => { x with fault := some k }).laneHeads l)
  refine ⟨lock.trans d.moves, fun w hw => ?_⟩
  simp only [State.secondFault, List.mem_append, Option.mem_toList, Option.map_eq_some_iff, List.mem_cons, List.not_mem_nil,
    or_false] at hw
  rcases hw with (hw | ⟨i, -, rfl⟩) | rfl | rfl
  · exact d.works w hw
  all_goals rfl

theorem State.does_takeFault (s : State) (l : LaneId) (k : FaultKind) : Does s (s.takeFault l k) := by
  unfold State.takeFault
  split
  · exact s.does_secondFault l k
  · exact .none (s.moves_queueEvent rfl _)
  · rename_i h
    exact s.does_firstFault l k h

theorem State.does_faultCloseOne (s : State) (l : LaneId) (k : FaultKind) (ch : Channel) : Does s (s.faultCloseOne l k ch) := by
  simp only [State.faultCloseOne]
  split
  · exact .nothing s
  · split
    · exact .still (s.watched_modLaneChannel l ch _) (List.forall_mem_nil _)
    · split
      · refine ⟨?_, by simp [Work.good]⟩
        split <;> exact .still (by simp)
      · exact .still (s.watched_modLaneChannel l ch _) (List.forall_mem_nil _)

theorem State.does_queueFaultCloses (s : State) (l : LaneId) (k : FaultKind) : Does s (s.queueFaultCloses l k) := by
  unfold State.queueFaultCloses
  split
  · exact .gather (fun u ch => u.does_faultCloseOne l k ch) _ s
  · exact .nothing s

theorem State.holds_used {s : State} {i : ContextId} {n : Nat} (h : s.holds i n = true) : (s.ctx i).state ≠ .free := by
  simp only [State.holds, Context.inUse, Bool.and_eq_true, decide_eq_true_eq] at h
  exact h.1

theorem State.does_closeByLockout (s : State) (i : ContextId) (n : Nat) : Does s (s.closeByLockout i n) := by
  unfold State.closeByLockout
  split
  · rename_i h
    exact .none (s.refreshes_modCtx_close (i := i) rfl (State.holds_used h) _ _).moves
  · exact .nothing s

/-! ### Stopping -/

theorem State.does_stopChannel (i : ContextId) (cause : EndCause) (s : State) (ch : Channel) :
    Does s (State.stopChannel i cause s ch) := by
  unfold State.stopChannel
  split
  · exact s.does_withChannel _ _ _ (List.forall_mem_nil _)
  · exact s.does_withChannel _ _ _ (List.forall_mem_nil _)
  · exact s.does_withChannel _ _ _ (s.queueFor_good _ _ _)
  · exact s.does_withChannel _ _ _ (s.queueFor_good _ _ _)
  · exact .nothing s

theorem State.does_enterStopping (s : State) (i : ContextId) (n : Nat) (cause : EndCause) : Does s (s.enterStopping i n cause) := by
  unfold State.enterStopping
  split
  · rename_i h
    have enter := s.refreshes_context i (f := fun c => { c.abandon with state := .stopping, deadline := none })
      (State.holds_used h) nofun
    have d := Does.gather (State.does_stopChannel i cause) Channel.letters
      (s.modCtx i fun c => { c.abandon with state := .stopping, deadline := none }).testAttn
    exact .after enter.moves (d.append (v := (_, [.changed i n])) ⟨.refl, by simp [Work.good]⟩)
  · exact .nothing s

theorem State.does_hostStop (s : State) (i : ContextId) (r : Reason) : Does s (s.hostStop i r) := s.does_cancelOrStop i r .stopped

theorem State.does_allStopContext (s : State) (i : ContextId) : Does s (s.allStopContext i) := by
  unfold State.allStopContext
  split
  · exact .after (.still (s.watched_modCtx i rfl))
      (State.does_cancelOrStop (s.modCtx i Context.flagAllStop) i .allStop .stopped)
  · exact .nothing s

/-! ### The allocation -/

theorem State.does_beginAllocation (s : State) (i : ContextId) (n : Nat) : Does s (s.beginAllocation i n) := by
  refine ⟨.still (s.watched_modCtx i rfl), fun w hw => ?_⟩
  simp only [State.beginAllocation, List.mem_append, List.mem_flatMap, List.mem_singleton] at hw
  rcases hw with ⟨ch, -, hw⟩ | rfl
  · split at hw
    · exact State.queueFor_good _ _ _ _ w hw
    · cases hw
  · rfl

theorem State.does_takeTrigger (s : State) (i : ContextId) (n : Nat) (second : Bool) : Does s (s.takeTrigger i n second) := by
  simp only [State.takeTrigger]
  split
  · exact .nothing s
  · split
    · exact .nothing s
    · split
      · exact s.does_beginAllocation i n
      · exact .still (s.watched_modCtx i rfl) (List.forall_mem_nil _)

theorem State.does_testLowered (s : State) (i : ContextId) (n : Nat) : Does s (s.testLowered i n) := by
  unfold State.testLowered
  split
  · exact .still (s.watched_modCtx i rfl) (by simp [Work.good, Channel.letters])
  · exact .nothing s

theorem State.does_raiseChannel (s : State) (i : ContextId) (n : Nat) (ch : Channel) (x : Option Share) :
    Does s (s.raiseChannel i n ch x) := by
  simp only [State.raiseChannel]
  split
  · split
    · exact .nothing s
    · split
      · split
        · exact s.does_withChannel _ _ _ (s.queueFor_good _ _ _)
        · exact .nothing s
      · split
        · split
          · exact s.does_withChannel _ _ _ (s.queueFor_good _ _ _)
          · split <;> exact .still (by simp) (by simp [Work.good])
        · exact .nothing s
  · exact .nothing s

theorem State.does_endAllocation (s : State) (i : ContextId) (n : Nat) : Does s (s.endAllocation i n) := by
  simp only [State.endAllocation]
  split
  · have abandon : Moves s (s.modCtx i Context.abandon) := .still (s.watched_modCtx i rfl)
    split
    · exact .after abandon (State.does_beginAllocation _ i n)
    · exact .none abandon
  · exact .nothing s

/-! ### Reports -/

theorem State.does_takeReport (s : State) (x : Handed) : Does s (s.takeReport x) := by
  have one : ∀ (b : Bool) (k : FaultKind), ∀ w ∈ (if b then [Work.fault x.lane k] else []), w.good = true := by
    intro b k w hw
    cases b
    · cases hw
    · rw [List.mem_singleton.mp hw]; rfl
  have last : ∀ w ∈ [Work.act x, .noted x], w.good = true := by simp [Work.good]
  simp only [State.takeReport]
  split
  · exact .still rfl fun w hw => (List.mem_append.mp hw).elim (one _ _ w) (last w)
  · refine .still (s.watched_modChannel _ _ _) fun w hw => ?_
    rcases List.mem_append.mp hw with hw | hw
    · exact (List.mem_append.mp hw).elim (one _ _ w) (one _ _ w)
    · exact last w hw

theorem State.does_takeLift (s : State) (i : ContextId) (x : Handed) : Does s (s.takeLift i x) := by
  simp only [State.takeLift]
  split
  · exact .still (by simp) (by simp [Work.good])
  · split
    · refine s.does_withChannel _ _ _ fun w hw => ?_
      rcases List.mem_cons.mp hw with rfl | hw
      · rfl
      · exact s.queueFor_good _ _ _ w hw
    · exact .nothing s

theorem State.does_countZero (s : State) (i : ContextId) (x : Handed) (r : ChannelRecord) : Does s (s.countZero i x r) := by
  simp only [State.countZero]
  split
  · exact s.does_withChannel _ _ _ (by simp [Work.good])
  · have count : Moves s (s.modChannel i x.channel fun r => { r with zeroPolls := r.zeroPolls + 1 }) :=
      .still (s.watched_modChannel _ _ _)
    split
    · exact .after count (State.does_zeroFailed _ _ _ _ _)
    · exact .none count

theorem State.does_takeHangUp (s : State) (i : ContextId) (x : Handed) (r : ChannelRecord) : Does s (s.takeHangUp i x r) := by
  simp only [State.takeHangUp]
  split
  · exact s.does_withChannel _ _ _ (by simp [Work.good])
  · exact .still ((State.watched_modCtx _ _ rfl).trans (s.watched_modChannel _ _ _)) (by simp [Work.good])
  · split
    · exact .nothing s
    · exact s.does_withChannel _ _ _ (s.queueFor_good _ _ _)
  · exact .nothing s

theorem State.does_takeFlowing (s : State) (i : ContextId) (x : Handed) (r : ChannelRecord) : Does s (s.takeFlowing i x r) := by
  simp only [State.takeFlowing]
  have mark : Moves s (if r.extended ≠ r.flowMark then
      s.modChannel i x.channel fun r => { r with noFlow := some (.start s.noFlowTime), flowMark := r.extended } else s) := by
    split
    · exact .still (s.watched_modChannel _ _ _)
    · exact .refl
  split
  · exact .after mark (State.does_withChannel _ _ _ _ (List.forall_mem_nil _))
  · exact .none mark

theorem State.does_takeClosing (s : State) (i : ContextId) (x : Handed) : Does s (s.takeClosing i x) := by
  unfold State.takeClosing
  split
  · exact s.does_withChannel _ _ _ (List.forall_mem_nil _)
  · exact .nothing s

theorem State.does_actOnReport (s : State) (x : Handed) : Does s (s.actOnReport x) := by
  simp only [State.actOnReport]
  split
  · exact .nothing s
  · rename_i i r _
    split
    · have lift := s.does_takeLift i x
      split
      · exact lift.append (State.does_takeFlowing _ i x r)
      · split
        · exact lift.append (State.does_takeClosing _ i x)
        · exact lift
    · split
      · exact s.does_takeHangUp i x r
      · split
        · split
          · exact s.does_countZero i x r
          · exact .nothing s
        · exact s.does_takeFlowing i x r
        · exact s.does_takeClosing i x
        · exact .nothing s

theorem State.does_noteReport (s : State) (x : Handed) : Does s (s.noteReport x) :=
  .none ((Moves.still (s.watched_modLaneChannel _ _ _)).trans (State.moves_testFaultStop _ _))

/-! ### A head's loss -/

theorem State.does_discardCommands (s : State) (h : HeadId) : Does s (s.discardCommands h) :=
  ⟨s.moves_shrink h (List.nil_sublist _), goodOutcomes _ _⟩

theorem State.does_loseHead (s : State) (h : HeadId) (f : FailureKind) : Does s (s.loseHead h f) := by
  refine ⟨s.moves_queueEvent rfl _, fun w hw => ?_⟩
  obtain ⟨p, -, rfl⟩ := List.mem_map.mp hw
  rfl

theorem State.watched_unquiet (s : State) (l : LaneId) (ch : Channel) : (s.unquiet l ch).watched = s.watched := by
  unfold State.unquiet; split <;> simp

theorem State.lostInFaultStop_good (s : State) (l : LaneId) : ∀ w ∈ s.lostInFaultStop l, w.good = true := by
  unfold State.lostInFaultStop
  split <;> simp [Work.good]

theorem State.does_loseChannel (s : State) (l : LaneId) (ch : Channel) : Does s (s.loseChannel l ch) := by
  have quiet : Moves s (s.unquiet l ch) := .still (s.watched_unquiet l ch)
  have lost := State.lostInFaultStop_good (s.unquiet l ch) l
  have ended : ∀ b : Bool, ∀ i n, ∀ w ∈ (if b then [] else [Work.fault l .headLost]) ++ [.changed i n], w.good = true := by
    intro b i n
    cases b <;> simp [Work.good]
  simp only [State.loseChannel]
  split
  · exact ⟨quiet, lost⟩
  · split
    · refine .after quiet (State.does_withChannel _ _ _ _ fun w hw => ?_)
      simp only [List.mem_append, List.mem_singleton] at hw
      rcases hw with (rfl | hw) | rfl
      · rfl
      · exact lost w hw
      · rfl
    · refine ⟨quiet.trans_still ((State.watched_modCtx _ _ rfl).trans (State.watched_modChannel _ _ _ _)), fun w hw => ?_⟩
      rcases List.mem_append.mp hw with hw | hw
      · exact lost w hw
      · rw [List.mem_singleton.mp hw]; rfl
    iterate 4
      · refine .after quiet (State.does_withChannel _ _ _ _ fun w hw => ?_)
        exact ended (decide (((s.unquiet l ch).lane l).state = .locked)) _ _ w (by simpa using hw)
    · exact ⟨quiet, lost⟩

/-! ### Captures and the arbiter -/

theorem State.moves_captureFailure (s : State) (h : HeadId) (ch : Option HeadChannel) (k : ExchangeKind) (f : FailureKind) :
    Moves s (s.captureFailure h ch k f) := by
  unfold State.captureFailure
  split
  · exact .single (.numbers { s.numbers with further := countUp s.dlu.further }
      (fun hk => { hk with further := countUp_le _ }) rfl)
  · exact .single (.event .linkCapture (.head h) f.code s.stamp rfl ((State.watched_queueEvent _ _ _ _).trans rfl))

/-- The link set together with the arbiter's counts, which stay in their ranges. -/
theorem State.moves_link {s t u : State} {x : DispenserLine} {run poll : Nat}
    (hx : s.rd.latch = true → ∀ y, x = .sending y → y.command.any Command.opening = false)
    (hr : s.dlu.runCount ≤ 4 → run ≤ 4) (hp : s.dlu.pollCount ≤ 3 → poll ≤ 3)
    (hu : u.watched = { s.watched with line := x })
    (h : t.watched = { u.watched with numbers := { s.numbers with runCount := run, pollCount := poll } }) : Moves s t := by
  have hn : u.numbers = s.numbers := congrArg Watched.numbers hu
  refine Moves.trans (.single (.line x hx hu)) (.single (.numbers _ (fun hk => ?_) h))
  rw [hn] at hk
  exact { hk with runCount := hr hk.runCount, pollCount := hp hk.pollCount }

theorem State.moves_pollHead (s : State) (h : HeadId) (active : Bool) {count : Nat} (hc : s.dlu.pollCount ≤ 3 → count ≤ 3) :
    Moves s (s.pollHead h active count) := by
  have first : (if (s.head h).online then s
      else s.modHead h fun x => { x with offlinePoll := .running (.start Config.offlinePollTime) }).watched = s.watched := by
    split
    · rfl
    · exact s.watched_modHead h rfl rfl
  simp only [State.pollHead]
  generalize (if (s.head h).online then s
      else s.modHead h fun x => { x with offlinePoll := .running (.start Config.offlinePollTime) }) = v at first
  have numbers : v.dlu.pollCount = s.dlu.pollCount := congrArg (fun w => w.numbers.pollCount) first
  refine (Moves.still first).trans
    (State.moves_link (x := .sending ⟨h, none, v.retriesFor h⟩) (u := v.setLine (.sending ⟨h, none, v.retriesFor h⟩))
      (run := 0) (poll := count) (fun _ y hy => ?_) (fun _ => by omega) (numbers ▸ hc) rfl rfl)
  cases hy
  rfl

theorem State.moves_choosePoll (s : State) : Moves s s.choosePoll := by
  unfold State.choosePoll
  split
  · split
    · exact s.moves_pollHead _ _ fun _ => by omega
    · exact s.moves_pollHead _ _ fun _ => by omega
    · exact .refl
  · split
    · exact s.moves_pollHead _ _ fun _ => by omega
    · exact s.moves_pollHead _ _ fun _ => by omega
    · exact .refl

theorem State.moves_serve (s : State) {h : HeadId} {c : Command} {rest : List Command} {run : Nat}
    (hcs : (s.head h).commands = c :: rest) (hc : s.rd.latch = true → c.opening = false)
    (hr : s.dlu.runCount ≤ 4 → run ≤ 4) : Moves s (s.serve h c rest run) := by
  have shrink := s.moves_shrink h (cs := rest) (by rw [hcs]; exact List.sublist_cons_self ..)
  refine shrink.trans (State.moves_link (x := .sending ⟨h, some c, (s.setCommands h rest).retriesFor h⟩)
    (u := (s.setCommands h rest).setLine (.sending ⟨h, some c, (s.setCommands h rest).retriesFor h⟩))
    (run := run) (poll := s.dlu.pollCount) (fun hl y hy => ?_) hr (fun h => h) rfl rfl)
  cases hy
  exact hc hl

/-- The run count of a choice stays in 0..4 (R96). -/
theorem State.chooseHead_run {s : State} {h : HeadId} {run : Nat} (hc : s.chooseHead = some (h, run)) :
    s.dlu.runCount ≤ 4 → run ≤ 4 := by
  intro hr
  unfold State.chooseHead at hc
  split at hc
  · cases hc; exact hr
  · split at hc
    · cases hc
    · simp only [Option.map_eq_some_iff, Prod.mk.injEq] at hc
      obtain ⟨_, -, -, rfl⟩ := hc
      exact Nat.min_le_left _ _

theorem State.moves_choose (s : State) : Moves s s.choose.1 := by
  unfold State.choose
  split
  · exact .single (.line (.haltAll none) (fun _ y hy => by cases hy) rfl)
  · split
    · exact s.moves_choosePoll
    · rename_i h run hc
      split
      · exact .refl
      · rename_i c rest hcs
        split
        · exact s.moves_shrink h (by rw [hcs]; exact List.sublist_cons_self ..)
        · rename_i hl
          exact s.moves_serve hcs (fun hh => by simpa [hh] using hl) (State.chooseHead_run hc)

theorem State.does_arbitrate (s : State) : Does s s.arbitrate := by
  have h := s.moves_choose
  unfold State.arbitrate
  split
  · split <;> rename_i e <;> rw [e] at h
    · exact .none h
    · exact ⟨h, by simp [Work.good]⟩
  · exact .nothing s

/-- Every piece of good work is made of moves and leaves good work. -/
theorem handle_does {w : Work} (hw : w.good = true) (s : State) : Does s (handle w s) := by
  cases w with
  | queue c => exact s.does_queueCommand c
  | outcome c o => exact s.does_takeOutcome c o
  | withdrawOpen c => exact s.does_dropOpen c
  | fault l k => exact s.does_takeFault l k
  | faultCloses l k => exact s.does_queueFaultCloses l k
  | lockoutClose i n => exact s.does_closeByLockout i n
  | event k sub d => exact .none (s.moves_queueEvent hw d)
  | stop i n cause => exact s.does_enterStopping i n cause
  | changed i n =>
    simp only [handle]
    split
    · exact .none (s.moves_contextChanged i)
    · exact .nothing s
  | trigger i n second => exact s.does_takeTrigger i n second
  | lowered i n => exact s.does_testLowered i n
  | raise i n ch x => exact s.does_raiseChannel i n ch x
  | allocated i n => exact s.does_endAllocation i n
  | allStop i => exact s.does_allStopContext i
  | handed x => exact s.does_takeReport x
  | act x => exact s.does_actOnReport x
  | noted x => exact s.does_noteReport x
  | capture h ch k f => exact .none (s.moves_captureFailure h ch k f)
  | discardList h => exact s.does_discardCommands h
  | headGone h f => exact s.does_loseHead h f
  | channelLost l ch => exact s.does_loseChannel l ch
  | arbitrate => exact s.does_arbitrate

/-- A command whose work `finish` ends: its first change and all its work are moves. -/
theorem Does.finish {r : State × List Work} (d : Does s r) (h : finish r.2 r.1 = .next t) : Moves s t :=
  finish_keeps_good (P := fun u => Moves s u) (Q := fun w => w.good = true)
    (fun _ u hw hu => ⟨hu.trans (handle_does hw u).moves, (handle_does hw u).works⟩) h d.works d.moves

/-- The same of a command that ends with the arbiter's choice. -/
theorem Does.finish_arbitrate {r : State × List Work} (d : Does s r) (h : Machine.finish (r.2 ++ [.arbitrate]) r.1 = .next t) :
    Moves s t :=
  Does.finish (r := (r.1, r.2 ++ [.arbitrate])) (d.append (v := (r.1, [.arbitrate])) ⟨.refl, by simp [Work.good]⟩) h

end Sys2Proof.Machine
end

section
/-! Cards, terminals, requests, the link's events and the timers are made of moves while the part works. -/

namespace Sys2Proof.Machine

open Sys2Proof

variable {s t u : State}

/-! ### Decisions -/

theorem State.refreshes_approve (s : State) {i : ContextId} (hs : (s.ctx i).state ≠ .free) (x : DecisionSource) (a : Approval) :
    Refreshes s (s.approve i x a) := by
  refine .context (i := i) (x := .armed) hs nofun ?_
  simp only [State.approve, State.watched_testAttn, State.watched_sayLift]
  exact congrArg Watched.tested (State.watched_setCtx s i ((s.ctx i).arm x a s.armTime))

theorem State.refreshes_useStandIn (s : State) (i : ContextId) : Refreshes s (s.useStandIn i) := by
  simp only [State.useStandIn]
  generalize hu : ({ s with rd := { s.rd with
    standIn := standInAfter s.rd.standIn (s.ctx i).card.number s.rd.clock } } : State) = u
  have same : u.watched = s.watched := by rw [← hu]; rfl
  split
  · exact Refreshes.after same ((State.refreshes_queueEvent _ rfl _).then (State.moves_queueEvent _ rfl _))
  · exact Refreshes.after same (State.refreshes_queueEvent _ rfl _)

theorem State.refreshes_standInCheck (s : State) {i : ContextId} (hs : (s.ctx i).state ≠ .free) (o : Origin) :
    Refreshes s (s.standInCheck i o) := by
  simp only [State.standInCheck]
  refine .after (u := _) (t := s.sweepStandIn) rfl ?_
  split
  · exact State.refreshes_declineBy s.sweepStandIn hs _ _
  · refine (State.refreshes_useStandIn _ i).then (State.refreshes_approve _ ?_ _ _).moves
    rw [State.useStandIn_ctx]
    exact hs

theorem State.refreshes_offer (s : State) {i : ContextId} (hs : (s.ctx i).state ≠ .free) : Refreshes s (s.offer i) := by
  have offered : ({ s.modCtx i fun c => { c with state := .offered, deadline := some (.start s.hostDecisionTime) } with
      ae := { s.ae with requests := s.ae.requests ++ [i] } } : State).watched =
        { s.watched with states := s.watched.states.set i .offered } := State.watched_setCtx s i _
  refine .context (i := i) (x := .offered) hs nofun ?_
  simp only [State.offer, State.watched_testAttn]
  split
  · exact congrArg Watched.tested ((State.watched_modTerm _ _ (f := Terminal.enterWait) fun _ => rfl).trans offered)
  · exact congrArg Watched.tested offered

theorem State.refreshes_askDecision (s : State) {i : ContextId} (hs : (s.ctx i).state ≠ .free) : Refreshes s (s.askDecision i) := by
  have used : ((s.modCtx i fun c => { c with deadline := none }).ctx i).state ≠ .free := by
    rw [State.modCtx_ctx_self]; exact hs
  simp only [State.askDecision]
  refine .after (s.watched_modCtx i (f := fun c => { c with deadline := none }) rfl) ?_
  split
  · exact State.refreshes_approve _ used _ _
  · split
    · exact State.refreshes_offer _ used
    · exact State.refreshes_standInCheck _ used _

/-! ### Prompts and cards -/

theorem State.refreshes_showPrompt (s : State) {i : ContextId} (hs : (s.ctx i).state ≠ .free) (k : PromptKind) :
    Refreshes s (s.showPrompt i k) := by
  simp only [State.showPrompt]
  refine (s.refreshes_context i (f := fun c => { c with state := .prompting, deadline := some (.start s.promptTime) })
    hs nofun).then ?_
  split
  · exact .still (State.watched_modTerm _ _ fun _ => rfl)
  · exact .refl

theorem State.refreshes_nextStep (s : State) {i : ContextId} (hs : (s.ctx i).state ≠ .free) : Refreshes s (s.nextStep i) := by
  unfold State.nextStep
  split
  · exact s.refreshes_showPrompt hs _
  · exact s.refreshes_askDecision hs

theorem State.refreshes_requestProducts (s : State) {i : ContextId} (hs : (s.ctx i).state ≠ .free) :
    Refreshes s (s.requestProducts i) := by
  have used : ((s.modCtx i fun c => { c with requestedSet := some c.requestable }).ctx i).state ≠ .free := by
    rw [State.modCtx_ctx_self]; exact hs
  simp only [State.requestProducts]
  refine .after (s.watched_modCtx i (f := fun c => { c with requestedSet := some c.requestable }) rfl) ?_
  split
  · exact State.refreshes_decline _ used _
  · exact State.refreshes_nextStep _ used

theorem State.refreshes_screenCard (s : State) {i : ContextId} (hs : (s.ctx i).state ≠ .free) : Refreshes s (s.screenCard i) := by
  unfold State.screenCard
  split
  · exact s.refreshes_decline hs _
  · rename_i p _
    have used : ((s.modCtx i fun c => c.screenedTo p (s.csu.programs.get p)).ctx i).state ≠ .free := by
      rw [State.modCtx_ctx_self]; exact hs
    refine .after (s.watched_modCtx i (f := fun c => c.screenedTo p (s.csu.programs.get p)) rfl) ?_
    dsimp only
    split
    · exact State.refreshes_requestProducts _ used
    · exact State.refreshes_showPrompt _ used _

/-- A lane that is not LOCKED may be bound to. -/
theorem State.watched_bindLane (s : State) (i : ContextId) {l : LaneId} (h : (s.lane l).state ≠ .locked) :
    (s.bindLane i l).watched = s.watched :=
  (State.watched_modLane _ l (by simpa [State.lane, State.modCtx, State.setCtx] using h)).trans (s.watched_modCtx i rfl)

theorem State.bindLane_ctx_state (s : State) (i j : ContextId) (l : LaneId) : ((s.bindLane i l).ctx j).state = (s.ctx j).state := by
  show ((s.modCtx i fun c => c.bindTo l (s.lane l)).ctx j).state = _
  rw [State.modCtx_ctx]
  split <;> rfl

/-- A card that R3 does not refuse finds room for its record. -/
theorem State.room_of_roomRefusal (h : s.roomRefusal = none) : s.rd.records.length + s.inUseCount < 48 := by
  unfold State.roomRefusal at h
  split at h
  · cases h
  · split at h
    · cases h
    · rename_i hc
      exact not_le.mp hc

/-- A card that R3 does not refuse finds room, and at a terminal of one lane that lane IDLE. -/
theorem State.room_of_cardRefusal {t : TerminalId} (h : s.cardRefusal t = none) :
    s.rd.records.length + s.inUseCount < 48 ∧ ∀ l, s.terminalLanes t = [l] → (s.lane l).state = .idle := by
  simp only [State.cardRefusal] at h
  split_ifs at h
  split at h
  · rename_i l hl
    split at h
    · cases h
    · rename_i hi
      refine ⟨State.room_of_roomRefusal h, fun l' hl' => ?_⟩
      rw [hl, List.cons.injEq] at hl'
      rw [← hl'.1]
      exact not_not.mp hi
  · rename_i hne
    exact ⟨State.room_of_roomRefusal h, fun l hl => absurd hl (hne l)⟩

theorem nextTransaction_range {n : Nat} (h : 1 ≤ n ∧ n ≤ 4294967295) : 1 ≤ nextTransaction n ∧ nextTransaction n ≤ 4294967295 := by
  unfold nextTransaction
  split
  · rename_i hn
    have : n < 4294967295 := hn
    omega
  · omega

/-- The allocation of a context, up to ATTN (R1, R4, R5). -/
theorem State.moves_allocate (s : State) {i : ContextId} {rest : List ContextId} (t : TerminalId) (card : CardData)
    (hf : s.rd.freeList = i :: rest) (hr : s.rd.records.length + s.inUseCount < 48) :
    Moves s (s.allocate i rest t card).testAttn := by
  let v : State := { s with rd := { s.rd with counter := nextTransaction s.rd.counter } }
  have count : Moves s v := .single (.numbers { s.numbers with counter := nextTransaction s.rd.counter }
    (fun hk => { hk with counter := nextTransaction_range hk.counter }) rfl)
  refine count.trans (.single (.allocate i rest hf hr ?_))
  rw [State.watched_testAttn]
  exact congrArg (fun x => ({ v.watched with states := x, freeList := rest } : Watched).tested) (Tab.map_set _ _ _ _)

theorem State.moves_takeCard (s : State) (t : TerminalId) (card : CardData) : Moves s (s.takeCard t card) := by
  unfold State.takeCard
  split
  · exact .still (s.watched_showOn _ _)
  · exact .refl
  · rename_i i rest hc hf
    obtain ⟨hr, hl⟩ := State.room_of_cardRefusal hc
    have taken := s.moves_allocate t card hf hr
    have used : ((s.allocate i rest t card).ctx i).state ≠ .free := by
      simp [State.allocate, State.ctx, Context.allocated]
    dsimp only
    split
    · rename_i l e
      have idle : ((s.allocate i rest t card).lane l).state ≠ .locked := by
        show (s.lane l).state ≠ .locked
        rw [hl l e]; nofun
      have same := (s.allocate i rest t card).watched_bindLane i idle
      have screen := State.refreshes_screenCard ((s.allocate i rest t card).bindLane i l) (i := i)
        (by rw [State.bindLane_ctx_state]; exact used)
      exact taken.trans (screen _ (by rw [State.watched_testAttn, same]; rfl))
    · exact taken.trans (State.refreshes_screenCard (s.allocate i rest t card) used _ (by rw [State.watched_testAttn]; rfl))

/-! ### Entries -/

theorem State.moves_countAttempt (s : State) {i : ContextId} (hs : (s.ctx i).state ≠ .free) (t : TerminalId) (k : PromptKind)
    (m : Message) : Moves s (s.countAttempt i t k m) := by
  simp only [State.countAttempt]
  split
  · exact (Moves.still (s.watched_modTerm t (f := fun x => { x with attempts := 3 }) fun _ => rfl)).trans
      (State.moves_cancel (s.modTerm t fun x => { x with attempts := 3 }) hs _)
  · exact .still ((State.watched_modCtx _ i rfl).trans ((State.watched_interjectOn _ _ _).trans (s.watched_modTerm t fun _ => rfl)))

theorem State.moves_takeLane (s : State) {i : ContextId} (hs : (s.ctx i).state ≠ .free) (t : TerminalId) (l : LaneId) :
    Moves s (s.takeLane i t l) := by
  unfold State.takeLane
  split
  · rename_i h
    exact (Moves.still (s.watched_bindLane i (by rw [h.1]; nofun))).trans
      (State.refreshes_requestProducts _ (by rw [State.bindLane_ctx_state]; exact hs)).moves
  · exact s.moves_countAttempt hs _ _ _

theorem State.moves_takeEntry (s : State) {i : ContextId} (hs : (s.ctx i).state ≠ .free) (k : PromptKind) (ds : Digits) :
    Moves s (s.takeEntry i k ds) :=
  (Moves.still (s.watched_modCtx i rfl)).trans
    (State.refreshes_nextStep (s.modCtx i fun c => { c with entries := c.entries ++ [(k, ds)] })
      (by rw [State.modCtx_ctx_self]; exact hs)).moves

theorem State.moves_takeValid (s : State) {i : ContextId} (hs : (s.ctx i).state ≠ .free) (t : TerminalId) (k : PromptKind)
    (ds : Digits) : Moves s (s.takeValid i t k ds) := by
  have clear : Moves s (s.modTerm t fun x => { x with interjection := none }) := .still (s.watched_modTerm t fun _ => rfl)
  simp only [State.takeValid]
  split
  · exact clear.trans (State.moves_takeLane (s.modTerm t fun x => { x with interjection := none }) hs _ _)
  · exact clear
  · exact clear.trans (State.moves_takeEntry (s.modTerm t fun x => { x with interjection := none }) hs _ _)

theorem State.moves_checkEntry (s : State) {i : ContextId} (hs : (s.ctx i).state ≠ .free) (t : TerminalId) (k : PromptKind)
    (chars : List Byte) : Moves s (s.checkEntry i t k chars) := by
  unfold State.checkEntry
  split
  · split
    · exact s.moves_takeValid hs _ _ _
    · exact s.moves_countAttempt hs _ _ _
  · exact s.moves_countAttempt hs _ _ _

/-- A terminal's held context is in use. -/
theorem State.heldContext_used {i : ContextId} {t : TerminalId} (h : s.heldContext t = some i) : (s.ctx i).state ≠ .free := by
  have := List.find?_some h
  simp only [Context.inUse, Bool.and_eq_true, decide_eq_true_eq] at this
  exact this.1.1

/-! ### The uplink -/

theorem State.moves_walkOffered : ∀ (is : List ContextId) (s : State), Moves s (s.walkOffered is)
  | [], _ => .refl
  | i :: rest, s => by
    refine Moves.trans ?_ (State.moves_walkOffered rest _)
    split
    · rename_i h
      exact (s.refreshes_standInCheck (by rw [h]; nofun) _).moves
    · exact .refl

theorem State.moves_loseUplink (s : State) : Moves s s.loseUplink := by
  unfold State.loseUplink
  split
  · exact Moves.trans (t := { s with ae := { s.ae with online := false } }) (.still rfl) (State.moves_walkOffered _ _)
  · exact .refl

/-! ### Terminals -/

@[simp] theorem State.watched_chooseTerminal (s : State) : s.chooseTerminal.watched = s.watched := by
  unfold State.chooseTerminal
  split
  · rfl
  · split
    · rename_i t _
      exact s.watched_modTerm t (f := fun x => { x with offlinePoll := .running (.start Config.offlinePollTime) }) fun _ => rfl
    · split <;> rfl

theorem State.moves_validReply (s : State) (t : TerminalId) : Moves s (s.validReply t) := by
  simp only [State.validReply]
  split
  · exact .still (State.watched_modTerm (s.setTermLine .quiet) t fun _ => rfl)
  · refine Moves.trans ?_ (State.moves_queueEvent _ rfl 0)
    exact .still (State.watched_modTerm (s.setTermLine .quiet) t fun _ => rfl)

theorem State.moves_takeItem (s : State) (t : TerminalId) (seq : Bool) {act : State → State} (h : ∀ u, Moves u (act u)) :
    Moves s (s.takeItem t seq act) := by
  unfold State.takeItem
  split
  · exact .refl
  · exact (Moves.still (s.watched_modTerm t (f := fun x => { x with lastTaken := some seq }) fun _ => rfl)).trans (h _)

theorem State.moves_takeCardError (s : State) (t : TerminalId) : Moves s (s.takeCardError t) := by
  unfold State.takeCardError
  split
  · exact .still (s.watched_showOn _ _)
  · exact .still (s.watched_interjectOn _ _)

theorem State.moves_takeCardItem (s : State) (t : TerminalId) (card : CardItem) : Moves s (s.takeCardItem t card) := by
  unfold State.takeCardItem
  split
  · exact s.moves_takeCardError t
  · split
    · exact s.moves_takeCard t _
    · exact .still (s.watched_interjectOn _ _)

theorem State.moves_takeEntryItem (s : State) (t : TerminalId) (chars : List Byte) : Moves s (s.takeEntryItem t chars) := by
  unfold State.takeEntryItem
  split
  · rename_i h
    exact s.moves_checkEntry (State.heldContext_used h) _ _ _
  · exact .refl

theorem State.moves_takeCancelItem (s : State) (t : TerminalId) : Moves s (s.takeCancelItem t) := by
  unfold State.takeCancelItem
  split
  · exact .refl
  · exact .refl
  · split
    · rename_i h
      exact s.moves_cancel (Context.cancellable_used h) _
    · exact .refl
  · exact .still (s.watched_modTerm t fun _ => rfl)
  · exact .refl

theorem State.moves_loseTerminal (s : State) (i : ContextId) : Moves s (s.loseTerminal i) := by
  have release : Moves s (s.modCtx i fun c => { c with held := false }) := .still (s.watched_modCtx i rfl)
  simp only [State.loseTerminal]
  split
  · rename_i h
    exact release.trans (State.moves_cancel _ (by rw [h]; nofun) _)
  · exact release

theorem State.moves_terminalOffline (s : State) (t : TerminalId) : Moves s (s.terminalOffline t) := by
  have off : Moves s (s.modTerm t Terminal.goOffline) := .still (s.watched_modTerm t fun _ => rfl)
  simp only [State.terminalOffline]
  refine Moves.trans ?_ (State.moves_queueEvent _ rfl 0)
  split
  · exact off.trans (State.moves_loseTerminal _ _)
  · exact off

/-- The counters of a terminal stay at 65,535 or below (R67). -/
theorem State.moves_addErrors (s : State) (t : TerminalId) (e : ByteErrors) : Moves s (s.modTerm t fun x => x.addErrors e) := by
  refine .single (.numbers { s.numbers with counters := s.numbers.counters.set t (
    ((s.term t).addErrors e).parity, ((s.term t).addErrors e).framing, ((s.term t).addErrors e).overrun) } (fun hk => ?_) ?_)
  · refine { hk with counters := fun j => ?_ }
    simp only [Tab.get_set]
    split
    · exact ⟨saturating_le _ _, saturating_le _ _, saturating_le _ _⟩
    · exact hk.counters j
  · simp only [State.watched, State.numbers, State.modTerm, State.setTerm, Tab.map_set]

theorem State.moves_terminalFails (s : State) (t : TerminalId) (e : ByteErrors) : Moves s (s.terminalFails t e) := by
  have add := s.moves_addErrors t e
  simp only [State.terminalFails]
  split
  · split
    · exact add.trans (State.moves_terminalOffline _ t)
    · exact add.trans (.still (State.watched_modTerm _ t fun _ => rfl))
  · exact add

theorem State.moves_endShow (s : State) (t : TerminalId) : Moves s (s.endShow t) := by
  have toIdle : (s.modTerm t Terminal.toIdle).watched = s.watched := s.watched_modTerm t fun _ => rfl
  simp only [State.endShow]
  split
  · exact .still ((State.watched_modCtx _ _ rfl).trans toIdle)
  · exact .still toIdle

/-! ### The dispenser link -/

theorem State.failedTotal_moves (s : State) (h : HeadId) {f : Head → Head} (hc : (f (s.head h)).commands = (s.head h).commands)
    (hf : (f (s.head h)).failedTotal ≤ 65535) : Moves s (s.modHead h f) := by
  refine .single (.numbers { s.numbers with failed := s.numbers.failed.set h (f (s.head h)).failedTotal } (fun hk => ?_) ?_)
  · refine { hk with failed := fun j => ?_ }
    simp only [Tab.get_set]
    split
    · exact hf
    · exact hk.failed j
  · have e := Tab.map_set_same s.dlu.heads (f := fun x : Head => x.commands) hc
    simp only [State.watched, State.numbers, State.modHead, State.setHead, Tab.map_set, e]

theorem State.moves_setLine (s : State) (x : DispenserLine)
    (hx : s.rd.latch = true → ∀ y, x = .sending y → y.command.any Command.opening = false) : Moves s (s.setLine x) :=
  .single (.line x hx (s.watched_setLine x))

theorem State.moves_endExchange (s : State) (h : HeadId) : Moves s (s.endExchange h) :=
  (s.moves_setLine .quiet fun _ y hy => by cases hy).trans_still (State.watched_modHead _ h rfl rfl)

theorem State.does_exchangeFails (s : State) (x : Exchange) (f : FailureKind) : Does s (s.exchangeFails x f) := by
  have quiet := s.moves_setLine .quiet fun _ y hy => by cases hy
  have report : ∀ w ∈ (x.command.map fun c => Work.outcome c (.failed f none)).toList, w.good = true := by
    cases x.command <;> simp [Work.good]
  simp only [State.exchangeFails]
  split
  · have fail := State.failedTotal_moves (s.setLine .quiet) x.head (f := Head.failOnce) rfl (countUp_le _)
    split
    · refine ⟨(quiet.trans fail).trans_still (State.watched_modHead _ _ rfl rfl), fun w hw => ?_⟩
      simp only [List.mem_append, List.mem_cons, List.not_mem_nil, or_false] at hw
      rcases hw with (hw | rfl) | rfl | rfl
      · exact report w hw
      all_goals rfl
    · refine ⟨quiet.trans fail, fun w hw => ?_⟩
      rcases List.mem_append.mp hw with hw | hw
      · exact report w hw
      · rw [List.mem_singleton.mp hw]; rfl
  · exact ⟨quiet.trans (State.failedTotal_moves (s.setLine .quiet) x.head
      (f := fun y => { y with failedTotal := countUp y.failedTotal }) rfl (countUp_le _)), report⟩

/-- An exchange that has not been cut short is no OPEN and no RELEASE under the latch. -/
theorem State.opening_of_not_cutShort {x : Exchange} (h : ¬ s.cutShort x = true) (hl : s.rd.latch = true) :
    x.command.any Command.opening = false := by
  simp only [State.cutShort, Bool.or_eq_true, Bool.and_eq_true, not_or, not_and] at h
  exact Bool.eq_false_iff.mpr (h.1.2 hl)

theorem State.does_attemptFails (s : State) (x : Exchange) (f : FailureKind) : Does s (s.attemptFails x f) := by
  have capture : ∀ w ∈ (if f = .unexpected ∧ (s.head x.head).online then [Work.capture x.head x.headChannel x.kind f] else []),
      w.good = true := by
    split <;> simp [Work.good]
  simp only [State.attemptFails]
  split
  · have d := s.does_exchangeFails x f
    exact ⟨d.moves, fun w hw => (List.mem_append.mp hw).elim (capture w) (d.works w)⟩
  · rename_i h
    have hc : ¬ s.cutShort x = true := fun hc => h (by simp [State.lastAttempt, hc])
    refine ⟨s.moves_setLine _ fun hl y hy => ?_, capture⟩
    split at hy
    · cases hy
    · cases hy
      exact State.opening_of_not_cutShort (x := x) hc hl

theorem State.does_recoverChannel (s : State) (l : LaneId) (ch : Channel) : Does s (s.recoverChannel l ch) := by
  unfold State.recoverChannel
  split
  · split
    · exact s.does_withChannel _ _ _ (s.queueFor_good _ _ _)
    · exact .nothing s
  · exact .nothing s

theorem State.does_payFaultClose (s : State) (l : LaneId) (ch : Channel) : Does s (s.payFaultClose l ch) := by
  unfold State.payFaultClose
  split
  · split
    · exact s.does_faultCloseOne _ _ _
    · exact .nothing s
  · exact .nothing s

theorem State.does_headOnline (s : State) (h : HeadId) (restarted : Bool) : Does s (s.headOnline h restarted) := by
  have online := s.watched_modHead h (f := fun x => { x with online := true, failures := 0, offlinePoll := .stopped }) rfl rfl
  simp only [State.headOnline]
  refine .after ((Moves.still online).trans (State.moves_queueEvent _ (k := .headOnline) (sub := .head h) rfl
    (if restarted then 1 else 0))) ?_
  exact (Does.gather (fun u (p : LaneId × Channel) => u.does_recoverChannel p.1 p.2) _ _).append
    (Does.gather (fun u (p : LaneId × Channel) => u.does_payFaultClose p.1 p.2) _ _)

theorem State.handedReports_good (s : State) (h : HeadId) (restarted : Bool) (rs : List ChannelReport) :
    ∀ w ∈ s.handedReports h restarted rs, w.good = true := by
  intro w hw
  simp only [State.handedReports, List.mem_filterMap] at hw
  obtain ⟨p, -, hp⟩ := hw
  split at hp
  · simp only [Option.map_eq_some_iff] at hp
    obtain ⟨r, -, rfl⟩ := hp
    rfl
  · cases hp

theorem State.does_goodPoll (s : State) (h : HeadId) (restarted : Bool) (rs : List ChannelReport) :
    Does s (s.goodPoll h restarted rs) := by
  have came : Does (s.endExchange h) (if ((s.endExchange h).head h).online then (s.endExchange h, [])
      else (s.endExchange h).headOnline h restarted) := by
    split
    · exact .nothing _
    · exact State.does_headOnline _ h restarted
  simp only [State.goodPoll]
  generalize (if ((s.endExchange h).head h).online then (s.endExchange h, [])
      else (s.endExchange h).headOnline h restarted) = r at came
  refine ⟨((s.moves_endExchange h).trans came.moves).trans (.still ?_), fun w hw =>
    (List.mem_append.mp hw).elim (came.works w) (State.handedReports_good _ _ _ _ w)⟩
  exact (State.watched_modHead _ h rfl rfl).trans (State.watched_modHead _ h rfl rfl)

theorem State.does_takePollReply (s : State) (h : HeadId) (restarted : Bool) (rs : List ChannelReport) (x : Exchange) :
    Does s (s.takePollReply h restarted rs x) := by
  unfold State.takePollReply
  split
  · exact s.does_goodPoll _ _ _
  · exact s.does_attemptFails _ _

theorem State.watched_keepTotalizer (s : State) (c : Command) (n : BitVec 32) : (s.keepTotalizer c n).watched = s.watched := by
  unfold State.keepTotalizer
  split
  · exact s.watched_modHead _ rfl rfl
  · rfl

theorem State.does_takeAccepted (s : State) (h : HeadId) (count : BitVec 32) (valve : Valve) (totalizer : BitVec 32) (x : Exchange) :
    Does s (s.takeAccepted h count valve totalizer x) := by
  unfold State.takeAccepted
  split
  · split
    · exact ⟨(s.moves_endExchange h).trans_still (State.watched_keepTotalizer _ _ _), by simp [Work.good]⟩
    · exact s.does_attemptFails _ _
  · exact s.does_attemptFails _ _

theorem State.does_takeRefusal (s : State) (h : HeadId) (why : RefusalKind) (x : Exchange) : Does s (s.takeRefusal h why x) := by
  unfold State.takeRefusal
  split
  · split
    · exact ⟨s.moves_endExchange h, by simp [Work.good]⟩
    · exact s.does_attemptFails _ _
  · exact s.does_attemptFails _ _

theorem State.does_splitRelease (s : State) (h : HeadId) (c : Command) (p : Points) : Does s (s.splitRelease h c p) := by
  have single : Moves s ((s.endExchange h).modHead h fun x => { x with singleFrame := true }) :=
    (s.moves_endExchange h).trans_still (State.watched_modHead _ h rfl rfl)
  simp only [State.splitRelease]
  generalize ((s.endExchange h).modHead h fun x => { x with singleFrame := true }) = v at single
  split
  · exact ⟨single, by simp [Work.good]⟩
  · rename_i hl
    split
    · exact ⟨single, by simp [Work.good]⟩
    · refine .none (single.trans (.single (.split h c p ?_ (State.watched_setCommands _ _ _))))
      simp only [Bool.or_eq_true, not_or, Bool.not_eq_true] at hl
      exact hl.1

theorem State.does_takeUnsupported (s : State) (h : HeadId) (x : Exchange) : Does s (s.takeUnsupported h x) := by
  unfold State.takeUnsupported
  split
  · split
    · split
      · exact s.does_splitRelease _ _ _
      · exact s.does_attemptFails _ _
    · exact s.does_attemptFails _ _
  · exact s.does_attemptFails _ _

theorem State.moves_frameSent (s : State) : Moves s s.frameSent := by
  unfold State.frameSent
  split
  · exact s.moves_setLine _ fun _ y hy => by cases hy
  · exact .refl

theorem State.moves_haltSent (s : State) : Moves s s.haltSent := .single (.line .quiet (fun _ y hy => by cases hy) rfl)

theorem State.does_resume (s : State) (x : Exchange) (f : FailureKind) : Does s (s.resume x f) := by
  unfold State.resume
  split
  · exact s.does_exchangeFails x f
  · rename_i h
    refine .none (s.moves_setLine _ fun hl y hy => ?_)
    cases hy
    exact State.opening_of_not_cutShort h hl

/-! ### Timers -/

theorem State.does_recoveryOver (s : State) {i : ContextId} (hs : (s.ctx i).state ≠ .free) : Does s (s.recoveryOver i) := by
  simp only [State.recoveryOver]
  exact .after (s.refreshes_modCtx_close rfl hs _ _).moves (State.does_lockout _ _)

end Sys2Proof.Machine
end

section
/-! The services of the host's requests, the power events, and the step: everything a step may do to what is watched. -/

namespace Sys2Proof.Machine

open Sys2Proof

variable {s t u : State}

/-! ### Services of the tables and reports -/

/-- What a command of the working part begins with: nothing watched, or the latch set and HALT asserted with every list left without its release commands (R94, R153). -/
inductive Begins (s u : State) : Prop
  | still (h : u.watched = s.watched)
  | latches (h : u.watched = { s.watched with
      latch := true, halt := true, lists := s.watched.lists.map fun cs => cs.filter fun c => !c.releasing })

/-- A beginning, moves, and good work left. -/
def Starts (s : State) (r : State × List Work) : Prop := ∃ u, Begins s u ∧ Does u r

theorem Starts.of_does {r : State × List Work} (d : Does s r) : Starts s r := ⟨s, .still rfl, d⟩

theorem Starts.after {r : State × List Work} (e : t.watched = s.watched) (h : Starts t r) : Starts s r := by
  obtain ⟨u, hu, d⟩ := h
  refine ⟨u, ?_, d⟩
  cases hu with
  | still h => exact .still (h.trans e)
  | latches h => exact .latches (by rw [h, e])

/-- What a service does: moves, and good work left. -/
abbrev Serves (s : State) (r : Served) : Prop := Does s (r.state, r.works)

theorem State.serves_refuse (s : State) (r : ReplyReason) : Serves s (s.refuse r) := .nothing s

theorem State.oldestOffered_used {i : ContextId} (h : s.oldestOffered = some i) : (s.ctx i).state ≠ .free := by
  have := List.find?_some h
  rw [decide_eq_true_eq] at this
  rw [this]
  nofun

theorem State.serves_nextAuth (s : State) : Serves s s.serveNextAuth := by
  unfold State.serveNextAuth
  split
  · exact s.serves_refuse _
  · split
    · rename_i h
      exact .none (s.refreshes_context _ (f := fun c => { c with state := .taken }) (State.oldestOffered_used h) nofun).moves
    · exact .nothing s

theorem State.serves_nextRecord (s : State) : Serves s s.serveNextRecord := by
  unfold State.serveNextRecord
  split
  · rename_i r rest h
    exact .none (.single (.record rest.length (by rw [h]; rfl) (by rw [State.watched_testAttn]; rfl)))
  · exact .nothing s

/-- A queue without its head is sound where it was. -/
theorem EventUnit.Sound.tail {x : EventUnit} {e : Event} {rest : List Event} (h : x.Sound) (he : x.events = e :: rest) :
    ({ x with events := rest } : EventUnit).Sound := by
  obtain ⟨hlen, hdup, hsound, hrest⟩ := h
  rw [he] at hlen hdup hsound
  exact ⟨Nat.le_of_succ_le hlen, (List.nodup_cons.mp hdup).2, fun f hf => hsound f (List.mem_cons_of_mem _ hf), hrest⟩

theorem State.serves_nextEvent (s : State) : Serves s s.serveNextEvent := by
  unfold State.serveNextEvent
  split
  · rename_i e rest h
    exact .none (.single (.events { s.reu with events := rest } (fun hs => hs.tail h) (by rw [State.watched_testAttn]; rfl)))
  · exact .nothing s

/-- The pairs of a SET EVENT LEVELS name settable kinds and levels of 0..6 (R174). -/
theorem levelPairs_good : ∀ {ps : List (Byte × Byte)} {xs : List (Fin 20 × Nat)}, levelPairs ps = some xs →
    ∀ x ∈ xs, 3 ≤ x.1.val ∧ x.2 ≤ 6
  | [], xs, h => by cases h; exact List.forall_mem_nil _
  | (k, v) :: rest, xs, h => by
    simp only [levelPairs] at h
    split at h
    · rename_i i ys hk hr
      split at h
      · rename_i hv
        cases h
        intro x hx
        rcases List.mem_cons.mp hx with rfl | hx
        · refine ⟨?_, hv⟩
          unfold settableOf at hk
          split at hk
          · rename_i hc
            cases hk
            exact Nat.sub_le_sub_right hc.1 1
          · cases hk
        · exact levelPairs_good hr x hx
      · cases h
    · cases h

theorem foldl_set_levels {xs : List (Fin 20 × Nat)} (h : ∀ x ∈ xs, 3 ≤ x.1.val ∧ x.2 ≤ 6) : ∀ {t : Tab 20 Nat},
    (∀ i : Fin 20, if i.val < 3 then t.get i = 7 else t.get i ≤ 6) →
    ∀ i : Fin 20, if i.val < 3 then (xs.foldl (fun t x => t.set x.1 x.2) t).get i = 7
      else (xs.foldl (fun t x => t.set x.1 x.2) t).get i ≤ 6 := by
  induction xs with
  | nil => exact fun ht => ht
  | cons x xs ih =>
    intro t ht
    refine ih (fun y hy => h y (List.mem_cons_of_mem _ hy)) fun i => ?_
    obtain ⟨hx, hv⟩ := h x (List.mem_cons_self ..)
    rw [Tab.get_set]
    by_cases e : x.1 = i
    · rw [if_pos e, ← e, if_neg (by omega)]
      exact hv
    · rw [if_neg e]
      exact ht i

/-- The fixed kinds are those of codes 1 to 3. -/
theorem EventKind.fixed_iff (k : EventKind) : k.fixed = true ↔ k.index.val < 3 := by cases k <;> decide

theorem relevel_key (xs : List (Fin 20 × Nat)) (e : Event) : ((relevel xs e).kind, (relevel xs e).subject) = (e.kind, e.subject) := by
  unfold relevel; split <;> rfl

/-- A new level of a settable kind keeps an event sound. -/
theorem relevel_sound {xs : List (Fin 20 × Nat)} (h : ∀ x ∈ xs, 3 ≤ x.1.val ∧ x.2 ≤ 6) {e : Event} (he : e.sound = true) :
    (relevel xs e).sound = true := by
  unfold relevel
  split
  · rename_i x hx
    have hm := List.mem_of_find?_eq_some hx
    have hk := List.find?_some hx
    rw [decide_eq_true_eq] at hk
    have free : e.kind.fixed = false := by
      rw [← Bool.not_eq_true, EventKind.fixed_iff, ← hk]
      exact not_lt.mpr (h x hm).1
    simp only [Event.sound, free, Bool.and_eq_true, if_neg Bool.false_ne_true, decide_eq_true_eq] at he ⊢
    exact ⟨he.1, (h x hm).2⟩
  · exact he

theorem EventUnit.Sound.setLevels {x : EventUnit} {mask : Nat} {xs : List (Fin 20 × Nat)} (h : x.Sound) (hm : mask ≤ 7)
    (hx : ∀ x ∈ xs, 3 ≤ x.1.val ∧ x.2 ≤ 6) : (x.setLevels mask xs).Sound := by
  obtain ⟨hlen, hdup, hsound, hlevels, -, hdrop⟩ := h
  refine ⟨by simpa [EventUnit.setLevels] using hlen, ?_, ?_, foldl_set_levels hx hlevels, hm, hdrop⟩
  · simpa [EventUnit.setLevels, Function.comp_def, relevel_key] using hdup
  · intro e he
    obtain ⟨f, hf, rfl⟩ := List.mem_map.mp he
    exact relevel_sound hx (hsound f hf)

/-- What passes R174: a mask of 0..7, settable kinds, levels of 0..6. -/
theorem goodLevelPairs_some {mask : Byte} {ps : List (Byte × Byte)} {xs : List (Fin 20 × Nat)}
    (h : goodLevelPairs mask ps = some xs) : levelPairs ps = some xs ∧ mask.toNat ≤ 7 ∧ (xs.map (·.1)).Nodup := by
  unfold goodLevelPairs at h
  split at h
  · split at h
    · rename_i hp hc
      cases h
      exact ⟨hp, hc⟩
    · cases h
  · cases h

theorem State.serves_setEventLevels (s : State) (mask : Byte) (ps : List (Byte × Byte)) : Serves s (s.serveSetEventLevels mask ps) := by
  unfold State.serveSetEventLevels
  split
  · exact s.serves_refuse _
  · split
    · exact s.serves_refuse _
    · rename_i xs h
      obtain ⟨hp, hm, -⟩ := goodLevelPairs_some h
      exact .none (.single (.events (s.reu.setLevels mask.toNat xs) (fun hs => hs.setLevels hm (levelPairs_good hp))
        (by rw [State.watched_testAttn]; rfl)))

theorem State.serves_readCapture (s : State) : Serves s s.serveReadCapture := by
  unfold State.serveReadCapture
  split <;> exact .nothing s

theorem State.serves_clearCapture (s : State) : Serves s s.serveClearCapture := by
  unfold State.serveClearCapture
  split
  · exact s.serves_refuse _
  · exact .none (.single (.numbers { s.numbers with further := 0 } (fun hk => { hk with further := Nat.zero_le _ }) rfl))

theorem State.watched_writeEntries (s : State) (i : Nat) (es : LoadEntries) : (s.writeEntries i es).watched = s.watched := by
  cases es with
  | product es =>
    have e := Tab.map_map_same (t := s.dcu.lanes) (g := fun x => loadPrices x i (es.filterMap productOf))
      (f := fun x : Lane => decide (x.state = .locked)) fun _ => rfl
    simp only [State.watched, State.writeEntries, e]
    rfl
  | _ => rfl

theorem State.serves_loadTable (s : State) (start : StartField) (es : LoadEntries) : Serves s (s.serveLoadTable start es) := by
  unfold State.serveLoadTable
  split
  · exact s.serves_refuse _
  · split
    · exact s.serves_refuse _
    · split
      · exact s.serves_refuse _
      · split
        · exact s.serves_refuse _
        · split
          · exact s.serves_refuse _
          · exact .none (.still (s.watched_writeEntries _ es))

theorem State.serves_readTable (s : State) (table start count : Byte) : Serves s (s.serveReadTable table start count) := by
  unfold State.serveReadTable
  split
  · exact s.serves_refuse _
  · split
    · exact s.serves_refuse _
    · split
      · exact .nothing s
      · exact s.serves_refuse _

theorem State.moves_foldl {α : Type} {f : State → α → State} (h : ∀ s x, Moves s (f s x)) :
    ∀ (xs : List α) (s : State), Moves s (xs.foldl f s)
  | [], _ => .refl
  | x :: xs, s => (h s x).trans (State.moves_foldl h xs (f s x))

theorem State.moves_setPrices (s : State) (qs : List (Product × Nat)) : Moves s (s.setPrices qs) := by
  have adopt : Moves s { s with lau := s.lau.setPending qs }.listBusyLanes.freeLanesAdopt :=
    Moves.trans (t := { s with lau := s.lau.setPending qs }.listBusyLanes) (.still rfl) (State.moves_foldl State.moves_adopt _ _)
  exact adopt.trans_still (State.watched_settlePrices _)

theorem State.serves_setPrices (s : State) (ps : List (Byte × BitVec 32)) : Serves s (s.serveSetPrices ps) := by
  unfold State.serveSetPrices
  split
  · exact s.serves_refuse _
  · split
    · exact s.serves_refuse _
    · split
      · exact s.serves_refuse _
      · split
        · exact s.serves_refuse _
        · exact .none (s.moves_setPrices _)

theorem stateAfterOpen_locked (b : Bool) (x : LaneState) : stateAfterOpen b x = .locked ↔ x = .locked := by
  cases x <;> cases b <;> decide

theorem State.serves_setLane (s : State) (b : SetLaneBody) : Serves s (s.serveSetLane b) := by
  unfold State.serveSetLane
  split
  · exact s.serves_refuse _
  · split
    · exact s.serves_refuse _
    · split
      · exact s.serves_refuse _
      · split
        · exact s.serves_refuse _
        · split
          · exact s.serves_refuse _
          · rename_i c _ _ _
            exact .none (s.moves_modLane _ (f := fun x => x.configure c) (stateAfterOpen_locked _ _))

/-- A clamped value lies in its parameter's range (R197). -/
theorem clampParameter_range (i : Fin 14) (v : Nat) :
    Config.parameterLow i ≤ clampParameter i v ∧ clampParameter i v ≤ Config.parameterHigh i := by
  have h : ∀ i : Fin 14, Config.parameterLow i ≤ Config.parameterHigh i := by decide
  have := h i
  unfold clampParameter
  split_ifs <;> omega

theorem foldl_clamp_inRanges (xs : List (Fin 14 × Nat)) : ∀ {t : Tab 14 Nat}, inRanges t →
    inRanges (xs.foldl (fun t x => t.set x.1 (clampParameter x.1 x.2)) t) := by
  induction xs with
  | nil => exact fun h => h
  | cons x xs ih =>
    intro t h
    refine ih fun i => ?_
    rw [Tab.get_set]
    split
    · rename_i e
      rw [← e]
      exact clampParameter_range _ _
    · exact h i

theorem State.serves_setSiteParameters (s : State) (ps : List (Byte × BitVec 16)) : Serves s (s.serveSetSiteParameters ps) := by
  unfold State.serveSetSiteParameters
  split
  · exact s.serves_refuse _
  · split
    · exact s.serves_refuse _
    · rename_i xs _
      exact .none (.single (.numbers { s.numbers with
        params := xs.foldl (fun t x => t.set x.1 (clampParameter x.1 x.2)) s.til.params }
        (fun hk => { hk with params := foldl_clamp_inRanges xs hk.params }) rfl))

theorem State.serves_setClock (s : State) (b : SetClockBody) : Serves s (s.serveSetClock b) := by
  unfold State.serveSetClock
  split
  · rename_i h
    exact .none (.single (.numbers { s.numbers with clock := readingOf b, tenths := 0 }
      (fun hk => { hk with clock := h, tenths := Nat.zero_le _ }) rfl))
  · exact s.serves_refuse _

theorem State.serves_saveTables (s : State) : Serves s s.serveSaveTables := by
  unfold State.serveSaveTables
  split
  · exact s.serves_refuse _
  · split
    · exact s.serves_refuse _
    · refine .none (.single (.numbers { s.numbers with save := some s.imageCopy, flash := none } (fun hk => ?_) rfl))
      refine { hk with save := fun x hx => ?_, flash := nofun }
      cases hx
      exact hk.params

/-! ### Services of the transactions and the forecourt -/

theorem State.serves_uplinkState (s : State) (v : Byte) : Serves s (s.serveUplinkState v) := by
  unfold State.serveUplinkState
  split
  · exact s.serves_refuse _
  · split
    · exact .none (.still rfl)
    · split
      · exact .none s.moves_loseUplink
      · exact s.serves_refuse _

theorem State.serves_applyApprove (s : State) {i : ContextId} (hs : (s.ctx i).state ≠ .free) (b : AuthResultBody) :
    Serves s (s.applyApprove i b) := by
  unfold State.applyApprove
  dsimp only
  split
  · exact .none (s.refreshes_declineBy hs _ _).moves
  · exact .none (s.refreshes_approve hs _ _).moves

theorem State.serves_applyResult (s : State) {i : ContextId} (hs : (s.ctx i).state ≠ .free) (b : AuthResultBody) :
    Serves s (s.applyResult i b) := by
  unfold State.applyResult
  split
  · exact s.serves_applyApprove hs b
  · exact .none (s.refreshes_declineBy hs _ _).moves

theorem State.moves_lateDecline (s : State) (i : ContextId) : Moves s (s.lateDecline i) := by
  have flag : Moves s ((s.modCtx i Context.flagLateDecline).queueEvent .lateDecline
      (laneSubject ((s.modCtx i Context.flagLateDecline).ctx i).lane) ((s.modCtx i Context.flagLateDecline).ctx i).transaction) :=
    Moves.trans (.still (s.watched_modCtx i rfl)) (State.moves_queueEvent _ rfl _)
  simp only [State.lateDecline]
  split
  · rename_i h
    refine flag.trans (State.moves_cancel _ ?_ _)
    have e : ((s.modCtx i Context.flagLateDecline).ctx i).state ≠ .free := by rw [h.1]; nofun
    exact e
  · exact flag

theorem State.moves_declineRecord (s : State) (r : Record) : Moves s (s.declineRecord r) := by
  have mark : (s.markRecord r.transaction).watched = s.watched := by
    simp only [State.watched, State.markRecord, List.length_map]
    rfl
  exact (Moves.still mark).trans (State.moves_queueEvent _ rfl _)

theorem State.serves_matchResult (s : State) (b : AuthResultBody) : Serves s (s.matchResult b) := by
  unfold State.matchResult
  split
  · split
    · rename_i h
      exact s.serves_applyResult (by rw [h]; nofun) b
    · rename_i h
      exact s.serves_applyResult (by rw [h]; nofun) b
    · exact s.serves_refuse _
    · split
      · exact .none (s.moves_lateDecline _)
      · exact s.serves_refuse _
  · split
    · split
      · exact s.serves_refuse _
      · exact .none (s.moves_declineRecord _)
    · exact s.serves_refuse _

theorem State.serves_authResult (s : State) (b : AuthResultBody) : Serves s (s.serveAuthResult b) := by
  unfold State.serveAuthResult
  split
  · exact s.serves_refuse _
  · split
    · exact s.serves_matchResult b
    · exact s.serves_refuse _

theorem State.serves_stopContext (s : State) (i : ContextId) (r : Reason) (c : Contents) : Serves s (s.stopContext i r c) := by
  unfold State.stopContext
  split
  · exact .nothing s
  · exact (s.does_hostStop i r).append (v := (_, [.arbitrate])) ⟨.refl, by simp [Work.good]⟩

theorem State.serves_stopLane (s : State) (lane : Byte) : Serves s (s.serveStopLane lane) := by
  unfold State.serveStopLane
  split
  · exact s.serves_refuse _
  · split
    · exact s.serves_refuse _
    · split
      · exact s.serves_refuse _
      · exact s.serves_stopContext _ _ _

theorem State.serves_cancelTransaction (s : State) (n : BitVec 32) : Serves s (s.serveCancelTransaction n) := by
  unfold State.serveCancelTransaction
  split
  · exact s.serves_refuse _
  · split
    · exact s.serves_refuse _
    · split
      · exact s.serves_stopContext _ _ _
      · exact s.serves_refuse _

theorem State.moves_unlockLane (s : State) (l : LaneId) : Moves s (s.unlockLane l) := by
  have free : decide (s.freeLaneState l = .locked) = false := decide_eq_false (s.freeLaneState_ne_locked l)
  refine Moves.trans (.single (.unlock l ?_)) (State.moves_adoptIfListed _ l)
  have e : decide (((s.lane l).reset (s.freeLaneState l)).state = .locked) = false := free
  simp only [State.watched, State.modLane, State.setLane, Tab.map_set, e]
  rfl

theorem State.serves_resetLane (s : State) (lane : Byte) : Serves s (s.serveResetLane lane) := by
  unfold State.serveResetLane
  split
  · exact s.serves_refuse _
  · split
    · exact s.serves_refuse _
    · split
      · exact s.serves_refuse _
      · split
        · exact .none (s.moves_unlockLane _)
        · exact s.serves_refuse _

/-- The withdrawal of release commands from some heads' lists: each of them keeps its other entries, and nothing else changes (R94). -/
theorem State.watched_withdraw : ∀ (hs : List HeadId) (s : State), (s.gather State.withdrawFrom hs).1.watched =
    { s.watched with lists := .build 24 fun h =>
      if h ∈ hs then ((s.head h).commands).filter fun c => !c.releasing else (s.head h).commands }
  | [], s => by
    have : s.watched.lists = .build 24 fun h => (s.head h).commands := by ext h; simp
    simp [State.gather, ← this]
  | h :: hs, s => by
    refine (State.watched_withdraw hs (s.withdrawFrom h).1).trans ?_
    have lists : (Tab.build 24 fun j => if j ∈ hs then (((s.withdrawFrom h).1.head j).commands).filter fun c => !c.releasing
        else ((s.withdrawFrom h).1.head j).commands) =
        .build 24 fun j => if j ∈ h :: hs then ((s.head j).commands).filter fun c => !c.releasing else (s.head j).commands := by
      ext j
      simp only [Tab.get_build, State.withdrawFrom, State.setCommands_head, List.mem_cons]
      by_cases e : h = j
      · subst e
        by_cases m : h ∈ hs <;> simp [m]
      · simp [e, Ne.symm e]
    rw [lists, State.withdrawFrom, State.watched_setCommands]

/-- The withdrawal from all 24 lists. -/
theorem State.watched_withdraw_all (s : State) : (s.gather State.withdrawFrom (List.finRange 24)).1.watched =
    { s.watched with lists := s.watched.lists.map fun cs => cs.filter fun c => !c.releasing } := by
  have lists : (Tab.build 24 fun h => if h ∈ List.finRange 24 then ((s.head h).commands).filter fun c => !c.releasing
      else (s.head h).commands) = s.watched.lists.map fun cs => cs.filter fun c => !c.releasing := by
    ext h
    simp only [Tab.get_build, List.mem_finRange, if_true, Tab.get_map, State.watched_lists_get]
  rw [State.watched_withdraw, lists]

/-- The latch set, HALT asserted, and an OPEN or RELEASE on the line cut. -/
theorem State.watched_latching (s : State) (x : StopSource) :
    ({ s with rd := s.rd.addSource x } : State).assertHalt.cutOpening.watched = { s.watched with latch := true, halt := true } := by
  unfold State.cutOpening
  split <;> rfl

theorem State.works_withdraw (hs : List HeadId) (s : State) : ∀ w ∈ (s.gather State.withdrawFrom hs).2, w.good = true := by
  induction hs generalizing s with
  | nil => exact List.forall_mem_nil _
  | cons h hs ih => exact fun w hw => (List.mem_append.mp hw).elim (goodOutcomes _ _ w) (ih _ w)

/-- What a source of the latch finds or makes: the latch set already, or set now (R153). -/
theorem State.starts_setLatch (s : State) (x : StopSource) : Starts s (s.setLatch x) := by
  simp only [State.setLatch]
  split
  · rename_i h
    refine .of_does (.none (Moves.trans (.still ?_) (State.moves_queueEvent _ rfl _)))
    show ({ s.watched with latch := true } : Watched) = s.watched
    rw [← h]
    rfl
  · refine ⟨_, .latches ?_, ⟨.refl, fun w hw => ?_⟩⟩
    · rw [State.watched_withdraw_all, State.watched_latching]
    · simp only [List.mem_append, List.mem_map, List.mem_cons, List.not_mem_nil, or_false] at hw
      rcases hw with (hw | ⟨i, -, rfl⟩) | rfl | rfl
      · exact State.works_withdraw _ _ w hw
      all_goals rfl

theorem State.starts_allStop (s : State) : Starts s (s.serveAllStop.state, s.serveAllStop.works) := by
  unfold State.serveAllStop
  split
  · exact .of_does (s.serves_refuse _)
  · exact s.starts_setLatch .host

theorem State.serves_allResume (s : State) : Serves s s.serveAllResume := by
  unfold State.serveAllResume
  split
  · exact s.serves_refuse _
  · split
    · exact s.serves_refuse _
    · refine .none ?_
      split
      · exact .single (.clearLatch rfl)
      · exact .refl

theorem State.serves_restart (s : State) : Serves s s.serveRestart := by
  unfold State.serveRestart
  split
  · exact s.serves_refuse _
  · split
    · exact s.serves_refuse _
    · exact .none (.still rfl)

/-- Every request's service but that of ALL STOP is made of moves. -/
theorem State.serves_request (s : State) {q : Request} (hq : q ≠ .allStop) : Serves s (s.serveRequest q) := by
  cases q with
  | status => exact .nothing s
  | laneState lane =>
    simp only [State.serveRequest, State.serveLaneState]
    split <;> exact .nothing s
  | linkState => exact .nothing s
  | nextAuth => exact s.serves_nextAuth
  | authResult b => exact s.serves_authResult b
  | uplinkState v => exact s.serves_uplinkState v
  | nextRecord => exact s.serves_nextRecord
  | nextEvent => exact s.serves_nextEvent
  | setEventLevels m ps => exact s.serves_setEventLevels m ps
  | readCapture => exact s.serves_readCapture
  | clearCapture => exact s.serves_clearCapture
  | loadTable start es => exact s.serves_loadTable start es
  | readTable t i n => exact s.serves_readTable t i n
  | setPrices ps => exact s.serves_setPrices ps
  | setLane b => exact s.serves_setLane b
  | setSiteParameters ps => exact s.serves_setSiteParameters ps
  | setClock b => exact s.serves_setClock b
  | saveTables => exact s.serves_saveTables
  | stopLane lane => exact s.serves_stopLane lane
  | cancelTransaction n => exact s.serves_cancelTransaction n
  | resetLane lane => exact s.serves_resetLane lane
  | allStop => exact absurd rfl hq
  | allResume => exact s.serves_allResume
  | restart => exact s.serves_restart
  | unknown _ => exact s.serves_refuse _

theorem State.starts_request (s : State) (q : Request) : Starts s ((s.serveRequest q).state, (s.serveRequest q).works) := by
  by_cases hq : q = .allStop
  · subst hq
    exact s.starts_allStop
  · exact .of_does (s.serves_request hq)

theorem State.starts_takeFrame (s : State) (f : HostFrame) : Starts s (s.takeFrame f) := by
  simp only [State.takeFrame, State.serveFrame]
  split
  · obtain ⟨u, hu, d⟩ := s.starts_request f.request
    exact ⟨u, hu, d.moves.trans_still rfl, d.works⟩
  · exact .of_does (.none (.still rfl))

/-- An error counter raised and held at 65,535 (R193). -/
theorem State.moves_countError (s : State) {f : LinkErrors → LinkErrors}
    (hf : ∀ n : Numbers, n.Kept → ({ n with errors := f n.errors } : Numbers).Kept) : Moves s (s.countError f) :=
  .single (.numbers { s.numbers with errors := f s.hlu.errors } (hf s.numbers) rfl)

theorem State.starts_receive (s : State) (f : HostFrame) : Starts s (s.receive f) := by
  have done : Moves s s.frameDone := .still s.watched_frameDone
  simp only [State.receive]
  split
  · exact .after s.watched_frameDone (State.starts_takeFrame _ f)
  · split
    · exact .of_does (.none (done.trans (.still rfl)))
    · refine .of_does (.none (done.trans (State.moves_countError _ fun n hk => { hk with errors := ?_ })))
      obtain ⟨h1, h2, h3, h4, -⟩ := hk.errors
      exact ⟨h1, h2, h3, h4, countUp_le _⟩

theorem State.starts_takeHeld (s : State) : Starts s s.takeHeld := by
  unfold State.takeHeld
  split
  · exact .of_does (.nothing s)
  · rename_i rest _
    exact .after (t := { s with hlu := { s.hlu with holding := rest } }) rfl (State.starts_takeFrame _ _)

/-! ### Saves and loads -/

theorem State.moves_saveFails (s : State) (why : SaveFailure) : Moves s (s.saveFails why) :=
  Moves.trans (.single (.numbers (t := { s with til := { s.til with save := none, flash := none } })
    { s.numbers with save := none, flash := none } (fun hk => { hk with save := nofun, flash := nofun }) rfl))
    (State.moves_queueEvent _ rfl _)

theorem State.moves_saveDone (s : State) {body : SiteImage} (hb : s.til.save = some body) : Moves s (s.saveDone (.write body)) := by
  unfold State.saveDone
  split
  · refine Moves.trans (.single (.numbers { s.numbers with save := none, flash := some (.write body) } (fun hk => ?_) rfl))
      (State.moves_queueEvent _ rfl _)
    refine { hk with save := nofun, flash := fun x hx => ?_ }
    cases hx
    exact hk.save body hb
  · exact s.moves_saveFails _

/-- What a load reads is the body of the image the flash holds. -/
theorem readImage_ok {answered : Bool} {flash : Option FlashImage} {body : SiteImage} (h : readImage answered flash = .ok body) :
    ∃ x, flash = some x ∧ x.body = body ∧ answered = true ∧ x.length = imageLength ∧ x.checkGood = true := by
  unfold readImage at h
  split at h
  · cases h
  · split_ifs at h with h1 h2 h3
    cases h
    exact ⟨_, rfl, rfl, by simpa using h1, not_not.mp h2, h3⟩

theorem Lane.load_locked (x : Lane) (c : LaneConfig) (p : Tab 8 Nat) (b : Bool) : (x.load c p b).state = .locked ↔ x.state = .locked := by
  unfold Lane.load
  dsimp only
  split
  · rename_i h
    simp only [Bool.and_eq_true, decide_eq_true_eq] at h
    simp [h.1.1]
  · exact Iff.rfl

theorem State.moves_endLoad (s : State) (answered : Bool) : Moves s (s.endLoad answered) := by
  unfold State.endLoad
  split
  · rename_i body h
    obtain ⟨x, hx, rfl, -⟩ := readImage_ok h
    have lanes : (Tab.build 12 fun l => (s.lane l).load (x.body.lanes.get l) (x.body.products.map (·.price))
        (s.bound l).isSome).map (fun x => decide (x.state = .locked)) = s.dcu.lanes.map fun x => decide (x.state = .locked) := by
      ext l
      simp only [Tab.get_map, Tab.get_build, Lane.load_locked]
      rfl
    refine .single (.numbers { s.numbers with params := x.body.params }
      (fun hk => { hk with params := hk.flash x hx }) ?_)
    simp only [State.watched, State.loadImage, lanes]
    rfl
  · rename_i detail _
    exact .single (.event .tablesInvalid .nothing detail s.stamp rfl ((State.watched_queueEvent _ _ _ _).trans rfl))

theorem State.watched_startRecovery (s : State) : s.startRecovery.watched = s.watched := by
  have e := Tab.map_map_same (t := s.rd.contexts) (g := fun c =>
      if c.state = .recovering then { c with deadline := some (.start s.recoveryTime) } else c)
    (f := fun c : Context => c.state) fun c => by split <;> rfl
  simp only [State.watched, State.startRecovery, e]
  rfl

end Sys2Proof.Machine
end

section
/-! What a step does to what is watched: nothing but numbers; moves of the working part; a halt by power or RST; or a start and the moves after it. -/

namespace Sys2Proof.Machine

open Sys2Proof

variable {s t u : State}

/-! ### Steps that change numbers alone -/

/-- Nothing watched changes but numbers, within their ranges. -/
def Rests (s t : State) : Prop := ∃ n : Numbers, (s.numbers.Kept → n.Kept) ∧ t.watched = { s.watched with numbers := n }

theorem Rests.still (h : t.watched = s.watched) : Rests s t := ⟨s.numbers, id, h⟩

theorem Rests.numbers_kept (h : Rests s t) (hk : s.numbers.Kept) : t.numbers.Kept := by
  obtain ⟨n, hn, e⟩ := h
  have : t.numbers = n := congrArg Watched.numbers e
  exact this ▸ hn hk

theorem Rests.trans (h : Rests s t) (k : Rests t u) : Rests s u := by
  obtain ⟨m, hm, e⟩ := id h
  obtain ⟨n, hn, e'⟩ := id k
  have : u.numbers = n := congrArg Watched.numbers e'
  exact ⟨n, fun hk => this ▸ k.numbers_kept (h.numbers_kept hk), by rw [e', e]⟩

/-- The minute after a legal reading's is a legal reading (R188). -/
theorem DateTime.nextMinute_legal {d : DateTime} (h : d.legal = true) : d.nextMinute.legal = true := by
  have first : ∀ y m, 1 ≤ daysIn y m := fun y m => by unfold daysIn; split <;> (try split) <;> decide
  have days := first d.year (d.month + 1)
  have january := first (d.year + 1) 1
  simp only [DateTime.legal, decide_eq_true_eq] at h
  unfold DateTime.nextMinute
  split_ifs <;> simp only [DateTime.legal, decide_eq_true_eq, DateTime.first] <;> first | omega | decide

theorem State.rests_minuteChange (s : State) : Rests s s.minuteChange := by
  refine ⟨{ s.numbers with clock := s.rd.clock.nextMinute, tenths := 0 },
    fun hk => { hk with clock := DateTime.nextMinute_legal hk.clock, tenths := Nat.zero_le _ }, ?_⟩
  unfold State.minuteChange
  dsimp only
  split <;> rfl

/-- A legal reading stays legal a second later within its minute. -/
theorem DateTime.legal_second {d : DateTime} {n : Nat} (h : d.legal = true) (hn : n ≤ 59) : ({ d with second := n } : DateTime).legal = true := by
  simp only [DateTime.legal, decide_eq_true_eq] at h ⊢
  omega

theorem State.rests_clockTick (s : State) : Rests s s.clockTick := by
  unfold State.clockTick
  split
  · rename_i h
    exact ⟨{ s.numbers with tenths := s.rd.clockTenths + 1 }, fun hk => { hk with tenths := h }, rfl⟩
  · split
    · rename_i h
      exact ⟨{ s.numbers with tenths := 0, clock := { s.rd.clock with second := s.rd.clock.second + 1 } },
        fun hk => { hk with tenths := Nat.zero_le _, clock := DateTime.legal_second hk.clock h }, rfl⟩
    · exact s.rests_minuteChange

/-- A tenth of a second on every timer shows in nothing watched. -/
theorem State.watched_timersTick (s : State) : s.timersTick.watched = s.watched := by
  have contexts := Tab.map_map_same (t := s.rd.contexts) (g := Context.tick) (f := fun c => c.state) fun _ => rfl
  have lanes := Tab.map_map_same (t := s.dcu.lanes) (g := Lane.tick) (f := fun x => decide (x.state = .locked)) fun _ => rfl
  have terminals := Tab.map_map_same (t := s.tlu.terminals) (g := Terminal.tick)
    (f := fun x => (x.parity, x.framing, x.overrun)) fun _ => rfl
  have commands := Tab.map_map_same (t := s.dlu.heads) (g := fun h => { h with offlinePoll := h.offlinePoll.tick })
    (f := fun x => x.commands) fun _ => rfl
  have failed := Tab.map_map_same (t := s.dlu.heads) (g := fun h => { h with offlinePoll := h.offlinePoll.tick })
    (f := fun x => x.failedTotal) fun _ => rfl
  simp only [State.watched, State.numbers, State.timersTick, contexts, lanes, terminals, commands, failed]

theorem State.rests_tick (s : State) : Rests s s.tick := by
  refine Rests.trans (.still ?_) (State.rests_clockTick _)
  unfold State.whenWorking
  split
  · exact s.watched_timersTick
  · rfl

theorem State.rests_abandonSave (s : State) : Rests s s.abandonSave := by
  unfold State.abandonSave
  split
  · exact ⟨{ s.numbers with save := none, flash := none }, fun hk => { hk with save := nofun, flash := nofun }, rfl⟩
  · exact .still rfl

/-! ### Halts and starts -/

/-- The part stops working, or a start waits for RST: the pool, the latch, the lists and the queued events stay. -/
structure Halted (s t : State) : Prop where
  kept : t.watched = { s.watched with
    halt := t.scc.halt, cut := t.scc.cut, reu := { s.reu with attn := t.reu.attn }, line := t.dlu.line,
    phase := t.power.phase, numbers := t.numbers }
  line : ∀ x, t.dlu.line = .sending x → s.dlu.line = .sending x
  stopped : t.power.phase ≠ .running
  waits : t.power.phase = .waiting → t.scc.halt = true ∧ t.scc.cut = .fill 12 true ∧ t.reu.attn = false
  numbers : s.numbers.Kept → t.numbers.Kept

theorem Halted.of_watched {a b : Bool} {c : Tab 12 Bool} {x : DispenserLine} {p : Phase} {n : Numbers}
    (h : t.watched = { s.watched with
      halt := a, cut := c, reu := { s.reu with attn := b }, line := x, phase := p, numbers := n })
    (hx : ∀ y, x = .sending y → s.dlu.line = .sending y) (hp : p ≠ .running)
    (hw : p = .waiting → a = true ∧ c = .fill 12 true ∧ b = false) (hn : s.numbers.Kept → n.Kept) : Halted s t := by
  have ha : t.scc.halt = a := congrArg Watched.halt h
  have hc : t.scc.cut = c := congrArg Watched.cut h
  have hb : t.reu.attn = b := congrArg (fun w => w.reu.attn) h
  have hl : t.dlu.line = x := congrArg Watched.line h
  have hq : t.power.phase = p := congrArg Watched.phase h
  have hm : t.numbers = n := congrArg Watched.numbers h
  exact ⟨by rw [ha, hc, hb, hl, hq, hm]; exact h, fun y hy => hx y (hl ▸ hy), hq ▸ hp, fun k => by
    rw [ha, hc, hb]; exact hw (hq ▸ k), fun hk => hm ▸ hn hk⟩

/-- What the decision of a start leaves (R182 to R185): the pool as it was, or that of a cold start; the outputs by their rules, no event, empty lists and a quiet link. -/
structure Opened (s u : State) : Prop where
  pool : (u.watched.states = s.watched.states ∧ u.watched.freeList = s.watched.freeList ∧
      u.watched.records = s.watched.records) ∨
    (u.watched.states = .fill 16 .free ∧ u.watched.freeList = List.finRange 16 ∧ u.watched.records = 0)
  halt : u.scc.halt = u.rd.latch
  cut : u.scc.cut = u.rd.locks
  locked : u.watched.locked = u.rd.locks
  attn : u.reu = { EventUnit.starting with attn := u.attnCondition }
  lists : ∀ h, (u.head h).commands = []
  line : u.dlu.line = .quiet
  phase : u.power.phase = .running
  numbers : s.numbers.Kept → u.numbers.Kept

/-- What one step does. -/
inductive Advance (s t : State) : Prop
  | rests (h : Rests s t)
  | works (hp : s.power.phase = .running) (u : State) (hb : Begins s u) (hm : Moves u t)
  | halts (h : Halted s t)
  | opens (u : State) (h : Opened s u) (hm : Moves u t)

theorem Advance.still (h : t.watched = s.watched) : Advance s t := .rests (.still h)

theorem Advance.refl : Advance s s := .still rfl

theorem Advance.moves (hp : s.power.phase = .running) (h : Moves s t) : Advance s t := .works hp s (.still rfl) h

/-- A halt that follows a change of numbers. -/
theorem Halted.after (h : Rests s t) (k : Halted t u) : Halted s u := by
  obtain ⟨n, hn, e⟩ := id h
  have hr : t.reu = s.reu := congrArg Watched.reu e
  have hl : t.dlu.line = s.dlu.line := congrArg Watched.line e
  exact ⟨by rw [k.kept, e, hr], fun x hx => hl ▸ k.line x hx, k.stopped, k.waits, fun hk => k.numbers (h.numbers_kept hk)⟩

theorem Opened.after (h : Rests s t) (k : Opened t u) : Opened s u := by
  obtain ⟨n, -, e⟩ := id h
  have pool : (t.watched.states = s.watched.states ∧ t.watched.freeList = s.watched.freeList ∧
      t.watched.records = s.watched.records) := by rw [e]; exact ⟨rfl, rfl, rfl⟩
  exact { k with
    pool := k.pool.imp_left fun ⟨h1, h2, h3⟩ => ⟨h1.trans pool.1, h2.trans pool.2.1, h3.trans pool.2.2⟩
    numbers := fun hk => k.numbers (h.numbers_kept hk) }

theorem Advance.after (h : Rests s t) (k : (Halted t u) ∨ ∃ v, Opened t v ∧ Moves v u) : Advance s u := by
  rcases k with k | ⟨v, k, hm⟩
  · exact .halts (.after h k)
  · exact .opens v (.after h k) hm

/-! ### A start -/

/-- The volatile state of a start with its latch, before ATTN is tested (R182 steps 1 to 3). -/
def State.decided (s : State) : State := { s with rd := s.rd.atStart s.rd.warm }.startVolatile.startLatch

theorem defaultParameters_inRanges : inRanges Config.defaultParameters := by
  unfold inRanges
  decide

/-- Step 3 sets the latch or leaves it, with HALT after it; contexts may be flagged. -/
theorem State.startLatch_watched (s : State) (hh : s.scc.halt = false) :
    ∃ b, s.startLatch.watched = { s.watched with latch := b, halt := b } := by
  have flags : ∀ (t : State), (t.rd.contexts.map fun c => if c.inUse then c.flagAllStop else c).map (·.state) =
      t.rd.contexts.map (·.state) := fun t => Tab.map_map_same fun c => by split <;> rfl
  simp only [State.startLatch]
  generalize hv : (if s.scc.estopHeld then ({ s with rd := s.rd.addSource .estop } : State) else s) = v
  have he : v.watched = { s.watched with latch := v.rd.latch } ∧ v.scc.halt = false := by
    subst hv
    split <;> exact ⟨rfl, hh⟩
  split
  · refine ⟨true, ?_⟩
    rename_i hl
    have : ({ v.assertHalt with rd := { v.rd with contexts := v.rd.contexts.map fun c => if c.inUse then c.flagAllStop else c } } : State).watched =
        { v.watched with halt := true } := by
      simp only [State.watched, flags]
      rfl
    rw [this, he.1, hl]
  · rename_i hl
    refine ⟨false, ?_⟩
    rw [he.1, Bool.eq_false_iff.mpr hl]
    have : ({ s.watched with latch := false } : Watched) = { s.watched with latch := false, halt := s.scc.halt } := rfl
    rw [this, hh]

theorem State.startVolatile_locked (s : State) : s.startVolatile.watched.locked = s.rd.locks := by
  ext l
  simp only [State.watched, State.startVolatile, Tab.get_map, Tab.get_build, State.startLane, Lane.starting]
  cases s.rd.locks.get l
  · cases (s.bound l).isSome <;> rfl
  · rfl

theorem startingNumbers_kept (hk : s.numbers.Kept) : ({ s with rd := s.rd.atStart s.rd.warm } : State).startVolatile.numbers.Kept := by
  have clock : (s.rd.atStart s.rd.warm).clock.legal = true ∧ (s.rd.atStart s.rd.warm).clockTenths ≤ 9 ∧
      1 ≤ (s.rd.atStart s.rd.warm).counter ∧ (s.rd.atStart s.rd.warm).counter ≤ 4294967295 := by
    cases s.rd.warm
    · refine ⟨?_, ?_, ?_, ?_⟩ <;> simp only [Retained.atStart, Retained.cold, Bool.false_eq_true, if_false] <;> decide
    · exact ⟨hk.clock, hk.tenths, hk.counter⟩
  exact
    { params := defaultParameters_inRanges
      save := nofun
      flash := hk.flash
      clock := clock.1
      tenths := clock.2.1
      counter := clock.2.2
      errors := by refine ⟨?_, ?_, ?_, ?_, ?_⟩ <;> exact Nat.zero_le _
      further := Nat.zero_le _
      runCount := Nat.zero_le _
      pollCount := Nat.zero_le _
      failed := fun h => by
        simp [State.numbers, State.startVolatile, DispenserUnit.starting, Head.starting]
      counters := fun t => by
        simp [State.numbers, State.startVolatile, TerminalUnit.starting, Terminal.starting] }

theorem State.opened_decided (s : State) : Opened s s.decided.testAttn := by
  let v := ({ s with rd := s.rd.atStart s.rd.warm } : State).startVolatile
  obtain ⟨b, hb⟩ := State.startLatch_watched v rfl
  have hw : s.decided.testAttn.watched = ({ v.watched with latch := b, halt := b } : Watched).tested := by
    rw [State.watched_testAttn, ← hb]
    rfl
  have pool : (v.watched.states = s.watched.states ∧ v.watched.freeList = s.watched.freeList ∧
        v.watched.records = s.watched.records) ∨
      (v.watched.states = .fill 16 .free ∧ v.watched.freeList = List.finRange 16 ∧ v.watched.records = 0) := by
    show ((s.rd.atStart s.rd.warm).contexts.map (·.state) = s.rd.contexts.map (·.state) ∧
        (s.rd.atStart s.rd.warm).freeList = s.rd.freeList ∧ (s.rd.atStart s.rd.warm).records.length = s.rd.records.length) ∨
      ((s.rd.atStart s.rd.warm).contexts.map (·.state) = .fill 16 .free ∧
        (s.rd.atStart s.rd.warm).freeList = List.finRange 16 ∧ (s.rd.atStart s.rd.warm).records.length = 0)
    cases s.rd.warm
    · refine .inr ⟨?_, rfl, rfl⟩
      ext i
      simp [Retained.atStart, Retained.cold, Context.cleared]
    · exact .inl ⟨rfl, rfl, rfl⟩
  generalize s.decided.testAttn = u at hw
  exact
    { pool := by rw [hw]; exact pool
      halt := (congrArg Watched.halt hw).trans (congrArg Watched.latch hw).symm
      cut := (congrArg Watched.cut hw).trans (congrArg Watched.locks hw).symm
      locked := by
        rw [hw]
        exact (State.startVolatile_locked _).trans (congrArg Watched.locks hw).symm
      attn := by
        rw [State.attnCondition_watched, hw]
        exact congrArg Watched.reu hw
      lists := fun h => by
        rw [← State.watched_lists_get, hw]
        simp [Watched.tested, v, State.watched, State.startVolatile, DispenserUnit.starting, Head.starting]
      line := congrArg Watched.line hw
      phase := congrArg Watched.phase hw
      numbers := fun hk => by
        have : u.numbers = v.numbers := congrArg Watched.numbers hw
        rw [this]
        exact startingNumbers_kept hk }

/-- The walk of a warm start (R184). -/
theorem State.moves_walkContext (s : State) (i : ContextId) : Moves s (s.walkContext i) := by
  unfold State.walkContext
  split
  · exact .refl
  · rename_i hu
    have used : (s.ctx i).state ≠ .free := by simpa [Context.inUse] using hu
    have held : Moves s (s.modCtx i fun c => { c with held := false }) := .still (s.watched_modCtx i rfl)
    have same : ((s.modCtx i fun c => { c with held := false }).ctx i).state = (s.ctx i).state := by
      rw [State.modCtx_ctx_self]
    simp only
    generalize s.modCtx i (fun c => { c with held := false }) = v at held same
    have usedv : (v.ctx i).state ≠ .free := same ▸ used
    refine held.trans ?_
    split
    · rename_i hr
      have later : (v.ctx i).state ≠ .free ∧ (v.ctx i).state ≠ .offered := by
        refine ⟨usedv, fun h => ?_⟩
        simp [Context.recovers, h] at hr
      have enter := v.moves_quiet i (f := Context.toRecovering) later ⟨nofun, nofun⟩
      split
      · refine enter.trans (State.moves_closeContext _ ?_ _ _)
        rw [State.modCtx_ctx_self]
        nofun
      · exact enter
    · exact State.moves_cancel v usedv _

theorem State.moves_walk (s : State) : Moves s s.walk := State.moves_foldl State.moves_walkContext _ s

theorem State.refreshes_startEvent (s : State) (warm : Bool) (detail : Nat) : Refreshes s (s.startEvent warm detail) := by
  unfold State.startEvent
  split
  · exact (s.refreshes_queueEvent rfl _).then (State.moves_walk _)
  · exact s.refreshes_queueEvent rfl _

theorem State.moves_startStopEvent (s : State) : Moves s s.startStopEvent := by
  unfold State.startStopEvent
  split
  · exact s.moves_queueEvent rfl _
  · exact .refl

theorem State.moves_startLinks (s : State) : Moves s s.startLinks :=
  (Moves.still (State.watched_chooseTerminal s)).trans (State.moves_choose _)

/-- A start from its decision on: opened, then its events, the walk and the first polls. -/
theorem State.start_opens (s : State) : ∃ u, Opened s u ∧ Moves u s.start := by
  refine ⟨_, s.opened_decided, ?_⟩
  have events : Moves s.decided.testAttn (s.decided.startEvent s.rd.warm (if s.rd.intact then 2 else 1)) :=
    State.refreshes_startEvent s.decided _ _ _ (by simp)
  exact (events.trans (State.moves_startStopEvent _)).trans (State.moves_startLinks _)

theorem State.halted_waitForRst (s : State) : Halted s s.waitForRst :=
  { kept := rfl
    line := fun _ hx => hx
    stopped := nofun
    waits := fun _ => ⟨rfl, rfl, rfl⟩
    numbers := fun hk => { hk with params := defaultParameters_inRanges } }

theorem State.beginStart_advance (s : State) : Halted s s.beginStart ∨ ∃ v, Opened s v ∧ Moves v s.beginStart := by
  unfold State.beginStart
  split
  · exact .inl s.halted_waitForRst
  · exact .inr s.start_opens

/-! ### Power and the pins -/

/-- A retained check written shows in nothing watched. -/
theorem State.rests_writeCheck (s : State) : Rests s s.writeCheck := .still rfl

theorem State.rests_putDown (s : State) : Rests s s.abandonSave.writeCheck := s.rests_abandonSave.trans (State.rests_writeCheck _)

/-- A part that stops working with its outputs as they stood. -/
theorem Halted.stop {p : Phase} {x : DispenserLine} (h : Rests s t) (hp : p ≠ .running ∧ p ≠ .waiting)
    (hx : ∀ y, x = .sending y → s.dlu.line = .sending y) (e : u.watched = { t.watched with line := x, phase := p }) : Halted s u := by
  obtain ⟨n, hn, ht⟩ := h
  refine .of_watched (a := s.scc.halt) (b := s.reu.attn) (c := s.scc.cut) (x := x) (p := p) (n := n) (by rw [e, ht]; rfl)
    hx hp.1 (fun hw => absurd hw hp.2) hn

theorem State.halted_freeze (s : State) : Halted s s.freeze := by
  let v : State := { s with
    dlu := { s.dlu with line := .haltAll none, haltPending := true }
    tlu := { s.tlu with line := .quiet }
    hlu := { s.hlu with receiver := .hunting, answering := none } }
  obtain ⟨n, hn, e⟩ := v.rests_putDown
  have frozen : s.freeze.watched = { v.abandonSave.writeCheck.watched with phase := .frozen } := rfl
  exact .of_watched (a := s.scc.halt) (b := s.reu.attn) (c := s.scc.cut) (x := .haltAll none) (p := .frozen) (n := n)
    (by rw [frozen, e]; rfl) nofun nofun nofun hn

theorem State.halted_powerOff (s : State) : Halted s s.powerOff :=
  .of_watched (a := false) (b := false) (c := .fill 12 false) (x := s.dlu.line) (p := .off) (n := s.numbers) rfl
    (fun _ hx => hx) nofun nofun id

theorem State.halted_lostUnwarned (s : State) : Halted s s.lostUnwarned :=
  .after (t := { s with rd := s.rd.unmatched }) (.still rfl) (State.halted_powerOff _)

theorem execPfailAssert_advance (h : execPfailAssert s = .next t) : Advance s t := by
  have low : ({ s with power := { s.power with pfailLow := true } } : State).watched = s.watched := rfl
  simp only [execPfailAssert] at h
  generalize ({ s with power := { s.power with pfailLow := true } } : State) = v at h low
  split at h <;> cases h
  · exact .halts (.after (.still low) v.halted_freeze)
  · exact .halts (.after (.still low) (.stop (p := .frozen) (x := v.dlu.line) v.rests_writeCheck ⟨nofun, nofun⟩ (fun _ hx => hx) rfl))
  · exact .still low

theorem Advance.beginStart (h : Rests s u) : Advance s u.beginStart := .after h u.beginStart_advance

theorem execPfailRelease_advance (h : execPfailRelease s = .next t) : Advance s t := by
  have high : ({ s with power := { s.power with pfailLow := false } } : State).watched = s.watched := rfl
  simp only [execPfailRelease] at h
  generalize ({ s with power := { s.power with pfailLow := false } } : State) = v at h high
  cases h
  split
  · exact .beginStart (.still high)
  · exact .still high

theorem execRstAssert_advance (h : execRstAssert s = .next t) : Advance s t := by
  have low : ({ s with power := { s.power with rstLow := true } } : State).watched = s.watched := rfl
  simp only [execRstAssert] at h
  generalize ({ s with power := { s.power with rstLow := true } } : State) = v at h low
  split at h <;> cases h
  · exact .beginStart (.trans (.still low) v.rests_putDown)
  · exact .beginStart (.trans (.still low) v.rests_putDown)
  · exact .still low

theorem execRstRelease_advance (h : execRstRelease s = .next t) : Advance s t := by
  have high : ({ s with power := { s.power with rstLow := false } } : State).watched = s.watched := rfl
  simp only [execRstRelease] at h
  generalize ({ s with power := { s.power with rstLow := false } } : State) = v at h high
  cases h
  split
  · exact .beginStart (.still high)
  · exact .still high

theorem execPowerUp_advance (h : execPowerUp s = .next t) : Advance s t := by
  simp only [execPowerUp] at h
  cases h
  split
  · exact .beginStart (u := { s with power := { s.power with pfailLow := false } }) (.still rfl)
  · exact .refl

theorem execMainPowerLoss_advance (h : execMainPowerLoss s = .next t) : Advance s t := by
  simp only [execMainPowerLoss] at h
  split at h <;> cases h
  · exact .refl
  · exact .halts (.after s.rests_abandonSave (State.halted_lostUnwarned _))
  · split
    · exact .halts s.halted_powerOff
    · exact .halts s.halted_lostUnwarned
  · exact .halts s.halted_powerOff

theorem execRetentionLost_advance (h : execRetentionLost s = .next t) : Advance s t := by
  simp only [execRetentionLost] at h
  cases h
  split <;> exact .still rfl

/-! ### The working part -/

theorem working_iff (s : State) : s.working = true ↔ s.power.phase = .running := by simp [State.working]

theorem Advance.whenWorking {f : State → State} (h : ∀ u, Moves u (f u)) : Advance s (s.whenWorking f) := by
  unfold State.whenWorking
  split
  · rename_i hw
    exact .moves ((working_iff s).mp hw) (h s)
  · exact .refl

/-- A command of the working part that `finish` ends. -/
theorem Advance.finish {r : State × List Work} (hw : s.working = true) (d : Starts s r) (h : Machine.finish r.2 r.1 = .next t) :
    Advance s t := by
  obtain ⟨u, hu, hd⟩ := d
  exact .works ((working_iff s).mp hw) u hu (hd.finish h)

theorem State.arrive_advance {f : HostFrame} (h : s.arrive f = .next t) : Advance s t := by
  unfold State.arrive at h
  split at h
  · rename_i hl
    exact .finish (by simp only [State.listens, Bool.and_eq_true] at hl; exact hl.1) (s.starts_receive f) h
  · cases h
    exact .refl

theorem State.inWindow_advance {act : Exchange → State → State × List Work} (hd : ∀ x u, Does u (act x u))
    (h : s.inWindow act = .next t) : Advance s t := by
  unfold State.inWindow at h
  split at h
  · rename_i hw _
    exact .moves ((working_iff s).mp hw) ((hd _ s).finish_arbitrate h)
  · cases h
    exact .refl

theorem State.onChannelTimer_advance {l : LaneId} {ch : Channel} {runs : ChannelRecord → Bool}
    {act : ContextId → State → State × List Work} (hd : ∀ i u, Does u (act i u))
    (h : s.onChannelTimer l ch runs act = .next t) : Advance s t := by
  unfold State.onChannelTimer at h
  split at h
  · split at h
    · rename_i hw _ _
      exact .moves ((working_iff s).mp hw) ((hd _ s).finish_arbitrate h)
    · cases h
      exact .refl
  · cases h
    exact .refl

theorem Advance.onDeadline {i : ContextId} {runs : ContextState → Bool} {act : State → State}
    (h : ∀ u : State, runs (u.ctx i).state = true → Moves u (act u)) : Advance s (s.onDeadline i runs act) := by
  refine .whenWorking fun u => ?_
  split
  · rename_i hr
    rw [Bool.and_eq_true] at hr
    exact h u hr.2
  · exact .refl

theorem advance_takeReply (x : TerminalId) {act : State → State} (h : ∀ u, Moves u (act u)) : Advance s (s.takeReply x act) := by
  unfold State.takeReply
  split
  · rename_i hw
    rw [Bool.and_eq_true] at hw
    exact .moves ((working_iff s).mp hw.1) (((s.moves_validReply x).trans (h _)).trans_still (State.watched_chooseTerminal _))
  · exact .refl

theorem discardFrame_advance {f : LinkErrors → LinkErrors}
    (hf : ∀ n : Numbers, n.Kept → ({ n with errors := f n.errors } : Numbers).Kept) : Advance s (s.discardFrame f) := by
  unfold State.discardFrame
  split
  · exact .rests ⟨{ s.numbers with errors := f s.numbers.errors }, hf s.numbers, rfl⟩
  · exact .refl

theorem errors_kept {n : Numbers} {e : LinkErrors} (hn : n.Kept)
    (he : upTo16 e.byteError ∧ upTo16 e.gap ∧ upTo16 e.length ∧ upTo16 e.check ∧ upTo16 e.overrun) :
    ({ n with errors := e } : Numbers).Kept := { hn with errors := he }

theorem execHostFrameComplete_advance {f : RawFrame} (h : execHostFrameComplete f s = .next t) : Advance s t := by
  unfold execHostFrameComplete at h
  split at h
  · split at h
    · exact State.arrive_advance h
    · cases h
      refine discardFrame_advance fun n hn => errors_kept hn ?_
      obtain ⟨h1, h2, h3, -, h5⟩ := hn.errors
      exact ⟨h1, h2, h3, countUp_le _, h5⟩
  · cases h
    exact .refl

theorem execHostReplySent_advance (h : execHostReplySent s = .next t) : Advance s t := by
  simp only [execHostReplySent] at h
  split at h
  · rename_i hw
    rw [Bool.and_eq_true] at hw
    split at h
    · cases h
      exact .beginStart (.trans (t := s.setAnswering none) (.still rfl) (State.rests_writeCheck _))
    · exact .finish hw.1 (.after (t := s.setAnswering none) rfl (State.starts_takeHeld _)) h
  · cases h
    exact .refl

theorem State.moves_silence (s : State) :
    Moves s (if s.ae.silence.isSome then ({ s with ae := { s.ae with silence := none } } : State).loseUplink else s) := by
  split
  · exact Moves.trans (t := { s with ae := { s.ae with silence := none } }) (.still rfl) (State.moves_loseUplink _)
  · exact .refl

theorem execEstopPress_advance (h : execEstopPress s = .next t) : Advance s t := by
  simp only [execEstopPress] at h
  split at h
  · rename_i hw
    rw [Bool.and_eq_true] at hw
    exact .finish hw.1 (.after (t := { s.setEstopPin true with scc := { (s.setEstopPin true).scc with estopHeld := true } }) rfl
      (State.starts_setLatch _ .estop)) h
  · cases h
    exact .still rfl

theorem execEstopRelease_advance (h : execEstopRelease s = .next t) : Advance s t := by
  unfold execEstopRelease at h
  cases h
  refine .still ?_
  unfold State.whenWorking
  split <;> rfl

theorem execRecoveryTimerExpiry_advance {i : ContextId} (h : execRecoveryTimerExpiry i s = .next t) : Advance s t := by
  simp only [execRecoveryTimerExpiry] at h
  split at h
  · rename_i hw
    simp only [Bool.and_eq_true, decide_eq_true_eq] at hw
    exact .moves ((working_iff s).mp hw.1.1) ((s.does_recoveryOver (by rw [hw.2]; nofun)).finish_arbitrate h)
  · cases h
    exact .refl

theorem execHaltAllSent_advance (h : execHaltAllSent s = .next t) : Advance s t := by
  unfold execHaltAllSent at h
  split at h
  · split at h
    · rename_i hw
      refine .moves ((working_iff s).mp hw) (Does.finish_arbitrate (r := _) (.after s.moves_haltSent ?_) h)
      split
      · exact State.does_resume _ _ _
      · exact .nothing _
    · split at h
      · rename_i hp
        cases h
        exact .halts (.of_watched (a := s.scc.halt) (b := s.reu.attn) (c := s.scc.cut) (x := .quiet) (p := .frozen)
          (n := s.numbers) (by rw [← hp]; rfl) nofun nofun nofun id)
      · cases h
        exact .refl
  · cases h
    exact .refl

theorem execHeadOfflinePollTimerExpiry_advance {hd : HeadId} (h : execHeadOfflinePollTimerExpiry hd s = .next t) :
    Advance s t := by
  unfold execHeadOfflinePollTimerExpiry at h
  split at h
  · rename_i hw _
    refine .moves ((working_iff s).mp hw) (Does.finish (r := (_, [.arbitrate])) ⟨?_, by simp [Work.good]⟩ h)
    exact .still (s.watched_modHead hd (f := fun x => { x with offlinePoll := .expired }) rfl rfl)
  · cases h
    exact .refl

theorem State.moves_tableLoadEnd (s : State) (read : Bool) :
    Moves s (if s.loading then (s.endLoad read).startRecovery else s) := by
  split
  · exact (s.moves_endLoad read).trans_still (State.watched_startRecovery _)
  · exact .refl

theorem execSaveComplete_advance (h : execSaveComplete s = .next t) : Advance s t := by
  unfold execSaveComplete at h
  cases h
  refine .whenWorking fun u => ?_
  split
  · rename_i hb
    exact u.moves_saveDone hb
  · exact .refl

/-! ### Every command, and the step -/

/-- Every command advances the state. -/
theorem exec_advance {c : Instr} (h : exec c s = .next t) : Advance s t := by
  cases c with
  | status | laneState | linkState | nextAuth | authResult | uplinkState | nextRecord | nextEvent | setEventLevels
  | readCapture | clearCapture | loadTable | readTable | setPrices | setLane | setSiteParameters | setClock | saveTables
  | stopLane | cancelTransaction | resetLane | allStop | allResume | restart => exact State.arrive_advance h
  | unknownRequest tag length code =>
    change execUnknownRequest tag length code s = .next t at h
    unfold execUnknownRequest at h
    split at h
    · exact State.arrive_advance h
    · cases h
      exact .refl
  | hostFrameComplete frame => exact execHostFrameComplete_advance h
  | hostByteError =>
    cases h
    refine discardFrame_advance fun n hn => errors_kept hn ?_
    obtain ⟨-, h2, h3, h4, h5⟩ := hn.errors
    exact ⟨countUp_le _, h2, h3, h4, h5⟩
  | hostGapExpiry =>
    cases h
    refine discardFrame_advance fun n hn => errors_kept hn ?_
    obtain ⟨h1, -, h3, h4, h5⟩ := hn.errors
    exact ⟨h1, countUp_le _, h3, h4, h5⟩
  | hostBadLength length =>
    cases h
    split
    · refine discardFrame_advance fun n hn => errors_kept hn ?_
      obtain ⟨h1, h2, -, h4, h5⟩ := hn.errors
      exact ⟨h1, h2, countUp_le _, h4, h5⟩
    · exact .refl
  | hostReplySent => exact execHostReplySent_advance h
  | hostSilenceTimerExpiry => cases h; exact .whenWorking State.moves_silence
  | terminalPollSent =>
    cases h
    refine .whenWorking fun u => ?_
    split
    · exact .still rfl
    · exact .refl
  | terminalNothing t => cases h; exact advance_takeReply t fun _ => .refl
  | terminalCard t seq card =>
    cases h; exact advance_takeReply t fun u => u.moves_takeItem t seq fun v => v.moves_takeCardItem t card
  | terminalCardError t seq =>
    cases h; exact advance_takeReply t fun u => u.moves_takeItem t seq fun v => v.moves_takeCardError t
  | terminalEntry t seq chars =>
    cases h; exact advance_takeReply t fun u => u.moves_takeItem t seq fun v => v.moves_takeEntryItem t chars
  | terminalCancel t seq =>
    cases h; exact advance_takeReply t fun u => u.moves_takeItem t seq fun v => v.moves_takeCancelItem t
  | terminalReplyWindowExpiry e =>
    cases h
    refine .whenWorking fun u => ?_
    split
    · exact (Moves.trans (s := u) (t := u.setTermLine .quiet) (.still rfl) (State.moves_terminalFails _ _ e)).trans_still
        (State.watched_chooseTerminal _)
    · exact .refl
  | terminalOfflinePollTimerExpiry t =>
    cases h
    refine .whenWorking fun u => ?_
    split
    · exact (Moves.still (u.watched_modTerm t (f := fun x => { x with offlinePoll := .expired }) fun _ => rfl)).trans_still
        (State.watched_chooseTerminal _)
    · exact .refl
  | displayTimerExpiry t =>
    cases h
    refine .whenWorking fun u => ?_
    split
    · exact u.moves_endShow t
    · exact .refl
  | interjectionTimerExpiry t =>
    cases h
    exact .whenWorking fun u => .still (u.watched_modTerm t (f := fun x => { x with interjection := none }) fun _ => rfl)
  | promptTimerExpiry i =>
    cases h
    exact .onDeadline fun u hr => State.moves_cancel u (by rw [decide_eq_true_eq] at hr; rw [hr]; nofun) _
  | hostDecisionTimerExpiry i =>
    cases h
    refine .onDeadline fun u hr => (u.refreshes_standInCheck ?_ _).moves
    simp only [Bool.or_eq_true, decide_eq_true_eq] at hr
    rcases hr with hr | hr <;> rw [hr] <;> nofun
  | armTimerExpiry i =>
    cases h
    exact .onDeadline fun u hr => State.moves_closeContext u (by rw [decide_eq_true_eq] at hr; rw [hr]; nofun) _ _
  | continueTimerExpiry i =>
    cases h
    exact .onDeadline fun u hr => State.moves_closeContext u (by rw [decide_eq_true_eq] at hr; rw [hr]; nofun) _ _
  | dispenserFrameSent => cases h; exact .whenWorking State.moves_frameSent
  | pollReply hd restarted rs => exact State.inWindow_advance (fun x u => u.does_takePollReply hd restarted rs x) h
  | dispenserAccepted hd count valve totalizer =>
    exact State.inWindow_advance (fun x u => u.does_takeAccepted hd count valve totalizer x) h
  | refusedBusy hd => exact State.inWindow_advance (fun x u => u.does_takeRefusal hd .busy x) h
  | refusedBad hd => exact State.inWindow_advance (fun x u => u.does_takeRefusal hd .bad x) h
  | refusedUnsupported hd => exact State.inWindow_advance (fun x u => u.does_takeUnsupported hd x) h
  | dispenserBadCheckFrame => exact State.inWindow_advance (fun x u => u.does_attemptFails x .badCheck) h
  | dispenserUnexpectedFrame => exact State.inWindow_advance (fun x u => u.does_attemptFails x .unexpected) h
  | dispenserReplyWindowExpiry => exact State.inWindow_advance (fun x u => u.does_attemptFails x .noAnswer) h
  | headOfflinePollTimerExpiry hd => exact execHeadOfflinePollTimerExpiry_advance h
  | haltAllSent => exact execHaltAllSent_advance h
  | noFlowTimerExpiry l ch =>
    exact State.onChannelTimer_advance (fun i u => u.does_withChannel i ch _ (u.queueFor_good i ch _)) h
  | settleTimerExpiry l ch =>
    exact State.onChannelTimer_advance (fun i u => u.does_withChannel i ch _ (u.queueFor_good i ch _)) h
  | faultSettleTimerExpiry l ch =>
    cases h
    refine .whenWorking fun u => ?_
    split
    · exact .still (u.watched_modLaneChannel l ch _)
    · exact .refl
  | estopPress => exact execEstopPress_advance h
  | estopRelease => exact execEstopRelease_advance h
  | clockMinuteChange => cases h; exact .rests s.rests_minuteChange
  | pfailAssert => exact execPfailAssert_advance h
  | pfailRelease => exact execPfailRelease_advance h
  | rstAssert => exact execRstAssert_advance h
  | rstRelease => exact execRstRelease_advance h
  | powerUp => exact execPowerUp_advance h
  | retentionLost => exact execRetentionLost_advance h
  | tableLoadEnd read => cases h; exact .whenWorking fun u => u.moves_tableLoadEnd read
  | saveComplete => exact execSaveComplete_advance h
  | saveFailed why =>
    cases h
    refine .whenWorking fun u => ?_
    split
    · exact u.moves_saveFails why
    · exact .refl
  | recoveryTimerExpiry i => exact execRecoveryTimerExpiry_advance h
  | hostFrameStart =>
    cases h
    split <;> exact .still rfl
  | mainPowerLoss => exact execMainPowerLoss_advance h

theorem idle_advance (h : idle s = .next t) : Advance s t := by
  unfold idle at h
  split at h
  · exact exec_advance h
  · cases h
    exact .rests s.rests_tick

/-- An advance does not depend on the commands that wait. -/
theorem Advance.of_pending {rest : List Instr} (h : Advance { s with pending := rest } t) : Advance s t := by
  have e : ({ s with pending := rest } : State).watched = s.watched := rfl
  cases h with
  | rests h => exact .rests (.trans (.still e) h)
  | works hp u hb hm =>
    cases hb with
    | still hu => exact .works hp u (.still (hu.trans e)) hm
    | latches hu => exact .works hp u (.latches hu) hm
  | halts h => exact .halts (.after (.still e) h)
  | opens u h hm => exact .opens u (.after (.still e) h) hm

/-- One step advances the state. -/
theorem step_advance (h : step s = .next t) : Advance s t := by
  unfold step at h
  split at h
  · exact idle_advance h
  · exact (exec_advance h).of_pending

end Sys2Proof.Machine
end

section
/-! The six invariants of Safety.lean: each is kept by every move, by the beginning of a command, by a halt and by a start, and so by every step. -/

namespace Sys2Proof.Machine

open Sys2Proof

variable {s t u : State}

/-! ### From moves to steps -/

/-- What every move keeps, any number of moves keep. -/
theorem Moves.keeps {P : State → Prop} (h : ∀ {s t : State}, Move s t → P s → P t) (hm : Moves s t) (hs : P s) : P t := by
  induction hm with
  | refl => exact hs
  | tail _ hm ih => exact h hm ih

/-! ### The ranges (O59) -/

theorem Move.numbers_kept (h : Move s t) (hk : s.numbers.Kept) : t.numbers.Kept := by
  have same : ∀ {w : Watched}, t.watched = w → w.numbers = s.numbers → t.numbers.Kept := fun e hn => by
    have : t.numbers = s.numbers := (congrArg Watched.numbers e).trans hn
    exact this ▸ hk
  cases h with
  | numbers n hn h =>
    have : t.numbers = n := congrArg Watched.numbers h
    exact this ▸ hn hk
  | still h => exact same h rfl
  | event _ _ _ _ _ h => exact same h rfl
  | attn h => exact same h rfl
  | context _ _ _ _ h => exact same h rfl
  | quiet _ _ _ _ h => exact same h rfl
  | close _ _ h => exact same h rfl
  | allocate _ _ _ _ h => exact same h rfl
  | record _ _ h => exact same h rfl
  | events _ _ h => exact same h rfl
  | lock _ h => exact same h rfl
  | unlock _ h => exact same h rfl
  | clearLatch h => exact same h rfl
  | shrink _ _ _ h => exact same h rfl
  | join _ _ _ h => exact same h rfl
  | split _ _ _ _ h => exact same h rfl
  | line _ _ h => exact same h rfl

theorem Begins.numbers_kept (h : Begins s u) (hk : s.numbers.Kept) : u.numbers.Kept := by
  have same : u.numbers = s.numbers := by
    cases h with
    | still h => exact congrArg Watched.numbers h
    | latches h => exact congrArg Watched.numbers h
  exact same ▸ hk

theorem Advance.numbers_kept (h : Advance s t) (hk : s.numbers.Kept) : t.numbers.Kept := by
  cases h with
  | rests h => exact h.numbers_kept hk
  | works _ u hb hm => exact hm.keeps Move.numbers_kept (hb.numbers_kept hk)
  | halts h => exact h.numbers hk
  | opens u h hm => exact hm.keeps Move.numbers_kept (h.numbers hk)

/-- Settles O59: the ranges are about the numbers alone, and every advance keeps those in their ranges. -/
theorem rangesAreAlwaysKept : Obligations.RangesAreAlwaysKept := by
  intro s t hs h
  rw [State.rangesKept_iff] at hs ⊢
  exact (step_advance h).numbers_kept hs

/-! ### The outputs (O54) -/

/-- The outputs of the working part follow their rules (R154, R162, R175). -/
structure Watched.Follows (w : Watched) : Prop where
  phase : w.phase = .running
  halt : w.halt = w.latch
  cut : w.cut = w.locks
  attn : w.reu.attn = w.attnCondition
  locked : w.locked = w.locks

theorem State.locksAgree_iff (s : State) : s.LocksAgree ↔ s.watched.locked = s.watched.locks := by
  constructor
  · intro h
    ext l
    rw [State.watched_locked_get]
    have : (s.watched.locks).get l = s.rd.locks.get l := rfl
    rw [this]
    have := h l
    cases e : s.rd.locks.get l
    · rw [e] at this
      simp [this]
    · simp [this, e]
  · intro h l
    have := congrArg (fun x => x.get l) h
    simp only [State.watched_locked_get] at this
    have e : (s.watched.locks).get l = s.rd.locks.get l := rfl
    rw [e] at this
    rw [← this, decide_eq_true_eq]

theorem State.follows_iff (s : State) (hp : s.power.phase = .running) : s.OutputsFollow ↔ s.watched.Follows := by
  constructor
  · rintro ⟨h, -⟩
    obtain ⟨h1, h2, h3, h4⟩ := h hp
    exact ⟨hp, h1, h2, h3.trans s.attnCondition_watched, s.locksAgree_iff.mp h4⟩
  · rintro ⟨-, h1, h2, h3, h4⟩
    exact ⟨fun _ => ⟨h1, h2, h3.trans s.attnCondition_watched.symm, s.locksAgree_iff.mpr h4⟩, fun h => by rw [hp] at h; cases h⟩

/-- The number of entries with a property after one of them is replaced. -/
theorem Tab.countP_set {n : Nat} {α : Type} (p : α → Bool) (t : Tab n α) (i : Fin n) (a : α) :
    (t.set i a).items.countP p + (if p (t.get i) then 1 else 0) = t.items.countP p + if p a then 1 else 0 := by
  have hi : i.val < t.items.length := by rw [t.size]; exact i.isLt
  have hpos : (if p (t.get i) then 1 else 0) ≤ t.items.countP p := by
    split
    · rename_i h
      exact List.countP_pos_iff.mpr ⟨t.get i, List.getElem_mem hi, h⟩
    · exact Nat.zero_le _
  have key : (t.set i a).items.countP p = t.items.countP p - (if p (t.get i) then 1 else 0) + if p a then 1 else 0 :=
    List.countP_set hi
  rw [key, Nat.add_right_comm, Nat.sub_add_cancel hpos]

/-- A change between two states other than OFFERED leaves the number OFFERED. -/
theorem Watched.offered_set (w : Watched) (i : ContextId) {x : ContextState} (hs : w.states.get i ≠ .offered) (hx : x ≠ .offered) :
    ({ w with states := w.states.set i x } : Watched).offered = w.offered := by
  have := Tab.countP_set (fun y => decide (y = ContextState.offered)) w.states i x
  simpa [Watched.offered, hs, hx, List.countP_eq_length_filter] using this

theorem Watched.tested_attn (w : Watched) : w.tested.reu.attn = w.tested.attnCondition := rfl

theorem Move.follows (h : Move s t) (hs : s.watched.Follows) : t.watched.Follows := by
  obtain ⟨hp, hh, hc, ha, hl⟩ := hs
  cases h with
  | still h => rw [h]; exact ⟨hp, hh, hc, ha, hl⟩
  | event _ _ _ _ _ h => rw [h]; exact ⟨hp, hh, hc, Watched.tested_attn _, hl⟩
  | attn h => rw [h]; exact ⟨hp, hh, hc, Watched.tested_attn _, hl⟩
  | context _ _ _ _ h => rw [h]; exact ⟨hp, hh, hc, Watched.tested_attn _, hl⟩
  | quiet i x hs hx h =>
    rw [h]
    refine ⟨hp, hh, hc, ?_, hl⟩
    have := s.watched.offered_set i (x := x) (by rw [State.watched_states_get]; exact hs.2) hx.2
    simp only [Watched.attnCondition, this] at ha ⊢
    exact ha
  | close _ _ h => rw [h]; exact ⟨hp, hh, hc, Watched.tested_attn _, hl⟩
  | allocate _ _ _ _ h => rw [h]; exact ⟨hp, hh, hc, Watched.tested_attn _, hl⟩
  | record _ _ h => rw [h]; exact ⟨hp, hh, hc, Watched.tested_attn _, hl⟩
  | events _ _ h => rw [h]; exact ⟨hp, hh, hc, Watched.tested_attn _, hl⟩
  | lock l h => rw [h]; exact ⟨hp, hh, congrArg (·.set l true) hc, ha, congrArg (·.set l true) hl⟩
  | unlock l h => rw [h]; exact ⟨hp, hh, congrArg (·.set l false) hc, ha, congrArg (·.set l false) hl⟩
  | clearLatch h => rw [h]; exact ⟨hp, rfl, hc, ha, hl⟩
  | shrink _ _ _ h => rw [h]; exact ⟨hp, hh, hc, ha, hl⟩
  | join _ _ _ h => rw [h]; exact ⟨hp, hh, hc, ha, hl⟩
  | split _ _ _ _ h => rw [h]; exact ⟨hp, hh, hc, ha, hl⟩
  | line _ _ h => rw [h]; exact ⟨hp, hh, hc, ha, hl⟩
  | numbers _ _ h => rw [h]; exact ⟨hp, hh, hc, ha, hl⟩

theorem Begins.follows (h : Begins s u) (hs : s.watched.Follows) : u.watched.Follows := by
  obtain ⟨hp, hh, hc, ha, hl⟩ := hs
  cases h with
  | still h => rw [h]; exact ⟨hp, hh, hc, ha, hl⟩
  | latches h => rw [h]; exact ⟨hp, rfl, hc, ha, hl⟩

theorem Opened.follows (h : Opened s u) : u.watched.Follows :=
  ⟨h.phase, h.halt, h.cut, (congrArg EventUnit.attn h.attn).trans u.attnCondition_watched, h.locked⟩

theorem Rests.outputsFollow (h : Rests s t) (hs : s.OutputsFollow) : t.OutputsFollow := by
  obtain ⟨n, -, e⟩ := h
  have phase : t.power.phase = s.power.phase := congrArg Watched.phase e
  refine ⟨fun hr => ?_, fun hw => ?_⟩
  · have hs' := (s.follows_iff (phase ▸ hr)).mp hs
    refine ((t.follows_iff hr).mpr ?_).1 hr
    rw [e]
    exact ⟨hs'.phase, hs'.halt, hs'.cut, hs'.attn, hs'.locked⟩
  · obtain ⟨h1, h2, h3⟩ := hs.2 (phase ▸ hw)
    exact ⟨(congrArg Watched.halt e).trans h1, (congrArg Watched.cut e).trans h2,
      (congrArg (fun w => w.reu.attn) e).trans h3⟩

/-- Settles O54: moves carry the outputs along; a halt leaves the part not working, its outputs asserted or released where a start waits; a start sets them by their rules. -/
theorem outputsAlwaysFollow : Obligations.OutputsAlwaysFollow := by
  intro s t hs h
  have follows : ∀ {u}, u.watched.Follows → Moves u t → t.OutputsFollow := fun hu hm =>
    have ht := hm.keeps (P := fun v => v.watched.Follows) Move.follows hu
    (t.follows_iff ht.phase).mpr ht
  cases step_advance h with
  | rests h => exact h.outputsFollow hs
  | works hp u hb hm => exact follows (hb.follows ((s.follows_iff hp).mp hs)) hm
  | halts h => exact ⟨fun hr => absurd hr h.stopped, h.waits⟩
  | opens u h hm => exact follows h.follows hm

/-! ### The pool (O55) -/

/-- The pool is sound (R1, R6, R167). -/
structure Watched.PoolSound (w : Watched) : Prop where
  once : w.freeList.Nodup
  free : ∀ i, i ∈ w.freeList ↔ w.states.get i = .free
  room : w.records + w.inUse ≤ 48

theorem State.poolSound_iff (s : State) : s.PoolSound ↔ s.watched.PoolSound := by
  have free : ∀ i, s.watched.states.get i = (s.ctx i).state := s.watched_states_get
  constructor
  · rintro ⟨h1, h2, h3⟩
    exact ⟨h1, fun i => by rw [free]; exact h2 i, by rw [← State.inUseCount_watched]; exact h3⟩
  · rintro ⟨h1, h2, h3⟩
    exact ⟨h1, fun i => by rw [← free]; exact h2 i, by rw [State.inUseCount_watched]; exact h3⟩

theorem Watched.inUse_set (w : Watched) (i : ContextId) (x : ContextState) :
    ({ w with states := w.states.set i x } : Watched).inUse + (if w.states.get i ≠ .free then 1 else 0) =
      w.inUse + if x ≠ .free then 1 else 0 := by
  have := Tab.countP_set (fun y => decide (y ≠ ContextState.free)) w.states i x
  simpa [Watched.inUse, List.countP_eq_length_filter] using this

/-- A context in use stays in use: the pool stays sound. -/
theorem Watched.PoolSound.set_used {w : Watched} (h : w.PoolSound) {i : ContextId} {x : ContextState} (hs : w.states.get i ≠ .free)
    (hx : x ≠ .free) : ({ w with states := w.states.set i x } : Watched).PoolSound := by
  have count := w.inUse_set i x
  rw [if_pos hs, if_pos hx] at count
  refine ⟨h.once, fun j => ?_, ?_⟩
  · show j ∈ w.freeList ↔ (w.states.set i x).get j = .free
    rw [h.free j, Tab.get_set]
    split
    · rename_i e
      subst e
      exact iff_of_false hs hx
    · exact Iff.rfl
  · have := h.room
    show w.records + _ ≤ 48
    omega

/-- A context in use becomes FREE at the tail of the free list, and its record takes its place. -/
theorem Watched.PoolSound.close {w : Watched} (h : w.PoolSound) {i : ContextId} (hs : w.states.get i ≠ .free) :
    ({ w with states := w.states.set i .free, freeList := w.freeList ++ [i], records := w.records + 1 } : Watched).PoolSound := by
  have count := w.inUse_set i .free
  rw [if_pos hs, if_neg (by simp)] at count
  refine ⟨?_, fun j => ?_, ?_⟩
  · refine List.nodup_append.mpr ⟨h.once, List.nodup_singleton i, fun a ha b hb e => ?_⟩
    rw [List.mem_singleton.mp hb] at e
    exact hs ((h.free i).mp (e ▸ ha))
  · show j ∈ w.freeList ++ [i] ↔ (w.states.set i .free).get j = .free
    rw [List.mem_append, List.mem_singleton, h.free j, Tab.get_set]
    by_cases e : i = j
    · simp [e]
    · simp [e, Ne.symm e]
  · have := h.room
    show w.records + 1 + ({ w with states := w.states.set i .free } : Watched).inUse ≤ 48
    omega

/-- The context at the head of the free list is taken, where there is room for its record. -/
theorem Watched.PoolSound.allocate {w : Watched} (h : w.PoolSound) {i : ContextId} {rest : List ContextId} (hf : w.freeList = i :: rest)
    (hr : w.records + w.inUse < 48) :
    ({ w with states := w.states.set i .prompting, freeList := rest } : Watched).PoolSound := by
  have once := h.once
  rw [hf, List.nodup_cons] at once
  have hi : w.states.get i = .free := (h.free i).mp (by rw [hf]; exact List.mem_cons_self ..)
  have count := w.inUse_set i .prompting
  rw [if_neg (by simp [hi]), if_pos (by nofun)] at count
  refine ⟨once.2, fun j => ?_, ?_⟩
  · show j ∈ rest ↔ (w.states.set i .prompting).get j = .free
    rw [Tab.get_set]
    split
    · rename_i e
      subst e
      exact iff_of_false once.1 nofun
    · rename_i e
      rw [← h.free j, hf, List.mem_cons]
      exact ⟨.inr, fun h => h.resolve_left (Ne.symm e)⟩
  · show w.records + ({ w with states := w.states.set i .prompting } : Watched).inUse ≤ 48
    omega

theorem Move.poolSound (h : Move s t) (hs : s.watched.PoolSound) : t.watched.PoolSound := by
  obtain ⟨h1, h2, h3⟩ := id hs
  cases h with
  | still h => rw [h]; exact hs
  | event _ _ _ _ _ h => rw [h]; exact ⟨h1, h2, h3⟩
  | attn h => rw [h]; exact ⟨h1, h2, h3⟩
  | context i x hi hx h =>
    obtain ⟨k1, k2, k3⟩ := hs.set_used (i := i) (by rw [State.watched_states_get]; exact hi) hx
    rw [h]
    exact ⟨k1, k2, k3⟩
  | quiet i x hi hx h =>
    rw [h]
    exact hs.set_used (by rw [State.watched_states_get]; exact hi.1) hx.1
  | close i hi h =>
    obtain ⟨k1, k2, k3⟩ := hs.close (i := i) (by rw [State.watched_states_get]; exact hi)
    rw [h]
    exact ⟨k1, k2, k3⟩
  | allocate i rest hf hr h =>
    obtain ⟨k1, k2, k3⟩ := hs.allocate hf (by rw [← State.inUseCount_watched]; exact hr)
    rw [h]
    exact ⟨k1, k2, k3⟩
  | record n hn h =>
    have : s.watched.records = n + 1 := hn
    rw [h]
    exact ⟨h1, h2, by change n + s.watched.inUse ≤ 48; omega⟩
  | events _ _ h => rw [h]; exact ⟨h1, h2, h3⟩
  | lock l h => rw [h]; exact ⟨h1, h2, h3⟩
  | unlock l h => rw [h]; exact ⟨h1, h2, h3⟩
  | clearLatch h => rw [h]; exact ⟨h1, h2, h3⟩
  | shrink _ _ _ h => rw [h]; exact ⟨h1, h2, h3⟩
  | join _ _ _ h => rw [h]; exact ⟨h1, h2, h3⟩
  | split _ _ _ _ h => rw [h]; exact ⟨h1, h2, h3⟩
  | line _ _ h => rw [h]; exact ⟨h1, h2, h3⟩
  | numbers _ _ h => rw [h]; exact ⟨h1, h2, h3⟩

/-- The pool of a cold start is sound. -/
theorem Opened.poolSound (h : Opened s u) (hs : s.watched.PoolSound) : u.watched.PoolSound := by
  rcases h.pool with ⟨h1, h2, h3⟩ | ⟨h1, h2, h3⟩
  · have inUse : u.watched.inUse = s.watched.inUse := by simp only [Watched.inUse, h1]
    exact ⟨h2 ▸ hs.once, fun i => by rw [h2, h1]; exact hs.free i, by rw [h3, inUse]; exact hs.room⟩
  · have inUse : u.watched.inUse = 0 := by rw [Watched.inUse, h1]; decide
    exact ⟨h2 ▸ List.nodup_finRange 16, fun i => by simp [h1, h2], by rw [h3, inUse]; decide⟩

/-- Settles O55: a pool moves by closings, which add a record and a free context, and by allocations, which ask for room first; a cold start makes every context FREE. -/
theorem poolStaysSound : Obligations.PoolStaysSound := by
  intro s t hs h
  rw [State.poolSound_iff] at hs ⊢
  cases step_advance h with
  | rests h =>
    obtain ⟨n, -, e⟩ := h
    rw [e]
    exact ⟨hs.once, hs.free, hs.room⟩
  | works _ u hb hm =>
    refine hm.keeps (P := fun v => v.watched.PoolSound) Move.poolSound ?_
    cases hb with
    | still e => rw [e]; exact hs
    | latches e => rw [e]; exact ⟨hs.once, hs.free, hs.room⟩
  | halts h => rw [h.kept]; exact ⟨hs.once, hs.free, hs.room⟩
  | opens u h hm => exact hm.keeps (P := fun v => v.watched.PoolSound) Move.poolSound (h.poolSound hs)

/-! ### The event queue (O56) -/

/-- Level 7 in the level table is that of the three fixed kinds (R174). -/
theorem EventUnit.Sound.level {x : EventUnit} (h : x.Sound) (k : EventKind) :
    if k.fixed then x.levels.get k.index = 7 else x.levels.get k.index ≤ 6 := by
  obtain ⟨-, -, -, hl, -⟩ := h
  have := hl k.index
  by_cases hf : k.fixed = true
  · rw [if_pos hf]
    rwa [if_pos (k.fixed_iff.mp hf)] at this
  · rw [if_neg hf]
    rwa [if_neg (fun h => hf (k.fixed_iff.mpr h))] at this

/-- The kinds and subjects that an event of level 7 may have. -/
def fixedKeys : List (EventKind × Subject) :=
  (EventKind.allStop, Subject.nothing) :: (.coldStart, .nothing) :: (List.finRange 12).map fun l => (.laneLockout, .lane l)

theorem mem_fixedKeys {k : EventKind} {sub : Subject} (hk : k.fixed = true) (hs : fixedSubject k sub = true) :
    (k, sub) ∈ fixedKeys := by
  cases k <;> cases hk
  · cases sub with
    | lane l => simp [fixedKeys]
    | nothing | head _ | terminal _ => cases hs
  all_goals
    cases sub with
    | nothing => simp [fixedKeys]
    | lane _ | head _ | terminal _ => cases hs

theorem Event.sound_iff (e : Event) : e.sound = true ↔
    (1 ≤ e.count ∧ e.count ≤ 255) ∧ fixedSubject e.kind e.subject = true ∧
      if e.kind.fixed then e.level = 7 else e.level ≤ 6 := by
  unfold Event.sound
  split <;> simp [and_assoc]

/-- A full sound queue holds an event of a level below 7: there are 14 of level 7 at most. -/
theorem exists_below_seven {es : List Event} (hd : (es.map fun e => (e.kind, e.subject)).Nodup) (hs : ∀ e ∈ es, e.sound = true)
    (hl : 15 ≤ es.length) : ∃ e ∈ es, e.level < 7 := by
  by_contra hn
  push Not at hn
  have sub : (es.map fun e => (e.kind, e.subject)) ⊆ fixedKeys := by
    intro k hk
    obtain ⟨e, he, rfl⟩ := List.mem_map.mp hk
    obtain ⟨-, hf, hlevel⟩ := e.sound_iff.mp (hs e he)
    refine mem_fixedKeys ?_ hf
    by_contra hk
    rw [if_neg hk] at hlevel
    have := hn e he
    omega
  have := hd.length_le_of_subset sub
  rw [List.length_map] at this
  have : fixedKeys.length = 14 := rfl
  omega

/-- The removal of the lowest event takes one out where one below level 7 stands. -/
theorem removeLowest_length {es : List Event} (h : ∃ e ∈ es, e.level < 7) : (removeLowest es).length = es.length - 1 := by
  obtain ⟨e, he, hlt⟩ := h
  have hm : e.level ∈ (es.map (·.level)).filter (fun n => decide (n < 7)) :=
    List.mem_filter.mpr ⟨List.mem_map_of_mem he, decide_eq_true hlt⟩
  unfold removeLowest
  split
  · rename_i n hn
    obtain ⟨f, hf, hfn⟩ := List.mem_map.mp (List.mem_filter.mp (List.min?_mem hn)).1
    exact List.length_eraseP_of_mem hf (decide_eq_true hfn)
  · rename_i hn
    rw [lowestLevel, List.min?_eq_none_iff] at hn
    rw [hn] at hm
    cases hm

/-- An event of an occurrence is sound where its level is its kind's. -/
theorem newEvent_sound {x : EventUnit} (h : x.Sound) {k : EventKind} {sub : Subject} (hk : fixedSubject k sub = true) (d : Nat)
    (now : Stamp) : Event.sound ⟨k, x.levels.get k.index, sub, d, 1, now⟩ = true :=
  (Event.sound_iff _).mpr ⟨⟨le_refl 1, Nat.le_of_ble_eq_true rfl⟩, hk, h.level k⟩

theorem coalesce_sound {x : EventUnit} (h : x.Sound) {e : Event} (he : e.sound = true) (d : Nat) (now : Stamp) :
    (coalesce (x.levels.get e.kind.index) d now e).sound = true := by
  obtain ⟨⟨h1, -⟩, hs, -⟩ := e.sound_iff.mp he
  refine (Event.sound_iff _).mpr ⟨⟨?_, saturating_le _ _⟩, hs, h.level e.kind⟩
  show 1 ≤ saturating 255 (e.count + 1)
  unfold saturating
  split <;> omega

/-- A new kind and subject at the tail keep the queue free of repeats. -/
theorem nodup_append_event {es fs : List Event} (hf : fs.Sublist es) (hd : (es.map fun e => (e.kind, e.subject)).Nodup) {k : EventKind}
    {sub : Subject} (hn : ∀ e ∈ es, sameOccurrence k sub e = false) (l d n : Nat) (now : Stamp) :
    ((fs ++ [(⟨k, l, sub, d, n, now⟩ : Event)]).map fun e => (e.kind, e.subject)).Nodup := by
  rw [List.map_append]
  refine List.nodup_append.mpr ⟨hd.sublist (hf.map _), List.nodup_singleton _, fun a ha b hb e => ?_⟩
  obtain ⟨f, hfm, rfl⟩ := List.mem_map.mp ha
  rw [List.map_singleton, List.mem_singleton] at hb
  rw [hb, Prod.mk.injEq] at e
  have := hn f (hf.subset hfm)
  simp [sameOccurrence, e.1, e.2] at this

/-- An occurrence keeps the event unit sound (R170 to R172). -/
theorem EventUnit.Sound.occur {x : EventUnit} (h : x.Sound) {k : EventKind} {sub : Subject} (hk : fixedSubject k sub = true) (d : Nat)
    (now : Stamp) : (x.occur k sub d now).Sound := by
  obtain ⟨hlen, hdup, hsound, hlevels, hmask, hdrop⟩ := id h
  have fresh := newEvent_sound h hk d now
  have dropped : countUp x.dropped ≤ 65535 := countUp_le _
  simp only [EventUnit.occur]
  split
  · exact h
  · split
    · refine ⟨by simpa using hlen, ?_, ?_, hlevels, hmask, hdrop⟩
      · rw [List.map_map]
        refine (List.map_congr_left fun e _ => ?_).symm ▸ hdup
        simp only [Function.comp]
        split <;> simp
      · intro e he
        obtain ⟨f, hf, rfl⟩ := List.mem_map.mp he
        split
        · rename_i hs
          simp only [sameOccurrence, Bool.and_eq_true, decide_eq_true_eq] at hs
          rw [← hs.1]
          exact coalesce_sound h (hsound f hf) d now
        · exact hsound f hf
    · rename_i hn
      simp only [List.any_eq_true, not_exists, not_and, Bool.not_eq_true] at hn
      split
      · rename_i hroom
        refine ⟨by rw [List.length_append]; exact hroom, nodup_append_event (List.Sublist.refl _) hdup hn _ _ _ _, ?_, hlevels, hmask, hdrop⟩
        intro e he
        rcases List.mem_append.mp he with he | he
        · exact hsound e he
        · rw [List.mem_singleton.mp he]; exact fresh
      · rename_i hfull
        have full : 32 ≤ x.events.length := not_lt.mp hfull
        split
        · have sub := removeLowest_sublist x.events
          refine ⟨?_, nodup_append_event sub hdup hn _ _ _ _, ?_, hlevels, hmask, dropped⟩
          · rw [List.length_append, removeLowest_length (exists_below_seven hdup hsound (by omega)), List.length_singleton]
            omega
          · intro e he
            rcases List.mem_append.mp he with he | he
            · exact hsound e (sub.subset he)
            · rw [List.mem_singleton.mp he]; exact fresh
        · exact ⟨hlen, hdup, hsound, hlevels, hmask, dropped⟩

/-- Soundness does not look at ATTN. -/
theorem EventUnit.Sound.attn {x : EventUnit} (h : x.Sound) (b : Bool) : ({ x with attn := b } : EventUnit).Sound := h

theorem EventUnit.starting_sound : EventUnit.starting.Sound := by
  refine ⟨by decide, by decide, by decide, by decide, by decide, by decide⟩

theorem State.sound_of_watched {w : Watched} (e : t.watched = w) (hw : w.reu.Sound) : t.reu.Sound := by
  subst e
  exact hw

theorem Move.eventsSound (h : Move s t) (hs : s.reu.Sound) : t.reu.Sound := by
  have reu : ∀ {w : Watched}, t.watched = w → w.reu.Sound → t.reu.Sound := State.sound_of_watched
  cases h with
  | still h => exact reu h hs
  | event _ _ d now hk h => exact reu h ((hs.occur hk d now).attn _)
  | attn h => exact reu h (hs.attn _)
  | context _ _ _ _ h => exact reu h (hs.attn _)
  | quiet _ _ _ _ h => exact reu h hs
  | close _ _ h => exact reu h (hs.attn _)
  | allocate _ _ _ _ h => exact reu h (hs.attn _)
  | record _ _ h => exact reu h (hs.attn _)
  | events _ hx h => exact reu h ((hx hs).attn _)
  | lock _ h => exact reu h hs
  | unlock _ h => exact reu h hs
  | clearLatch h => exact reu h hs
  | shrink _ _ _ h => exact reu h hs
  | join _ _ _ h => exact reu h hs
  | split _ _ _ _ h => exact reu h hs
  | line _ _ h => exact reu h hs
  | numbers _ _ h => exact reu h hs

/-- Settles O56: events come by occurrences, of which a full queue drops one of level below 7, and by the changes of NEXT EVENT and SET EVENT LEVELS; a start begins with none. -/
theorem eventQueueStaysSound : Obligations.EventQueueStaysSound := by
  intro s t hs h
  have moved : ∀ {u : State}, u.reu.Sound → Moves u t → t.reu.Sound := fun hu hm =>
    hm.keeps (P := fun v => v.reu.Sound) Move.eventsSound hu
  cases step_advance h with
  | rests h =>
    obtain ⟨n, -, e⟩ := h
    exact State.sound_of_watched e hs
  | works _ u hb hm =>
    refine moved ?_ hm
    cases hb with
    | still e => exact State.sound_of_watched e hs
    | latches e => exact State.sound_of_watched e hs
  | halts h => exact State.sound_of_watched h.kept (hs.attn _)
  | opens u h hm => exact moved (h.attn ▸ EventUnit.starting_sound.attn _) hm

/-! ### The command lists (O57) -/

theorem Command.sameKind_iff (c d : Command) :
    c.sameKind d = true ↔ c.lane = d.lane ∧ c.channel = d.channel ∧ c.payload.kind = d.payload.kind := by
  simp [Command.sameKind, Command.sameChannel, and_assoc]

/-- Commands of one kind and channel are alike for every third one. -/
theorem Command.sameKind_congr {c d : Command} (h : c.sameKind d = true) (e : Command) :
    c.sameKind e = d.sameKind e ∧ e.sameKind c = e.sameKind d ∧ c.isClose = d.isClose := by
  obtain ⟨h1, h2, h3⟩ := (Command.sameKind_iff c d).mp h
  simp [Command.sameKind, Command.sameChannel, Command.isClose, h1, h2, h3]

theorem Command.sameKind_comm (c d : Command) : c.sameKind d = d.sameKind c := by
  simp [Command.sameKind, Command.sameChannel, eq_comm]

/-- CLOSEs and other commands are of different kinds. -/
theorem Command.sameKind_of_close {c d : Command} (h : c.isClose ≠ d.isClose) : c.sameKind d = false := by
  by_contra hn
  exact h ((Command.sameKind_congr (Bool.not_eq_false _ ▸ hn) c).2.2)

theorem ListSound.sublist {cs ds : List Command} (h : ListSound cs) (hs : ds.Sublist cs) : ListSound ds :=
  ⟨h.1.sublist hs, h.2.sublist hs⟩

/-- CLOSEs before other commands, each part without repeats, are a sound list. -/
theorem ListSound.of_parts {cs ds : List Command} (hc : cs.Pairwise fun c d => c.sameKind d = false)
    (hd : ds.Pairwise fun c d => c.sameKind d = false) (h1 : ∀ c ∈ cs, c.isClose = true) (h2 : ∀ d ∈ ds, d.isClose = false) :
    ListSound (cs ++ ds) := by
  refine ⟨List.pairwise_append.mpr ⟨hc, hd, fun c hcs d hds => ?_⟩, List.pairwise_append.mpr ⟨?_, ?_, fun c hcs d _ _ => h1 c hcs⟩⟩
  · exact Command.sameKind_of_close (by rw [h1 c hcs, h2 d hds]; nofun)
  · exact List.pairwise_of_forall_mem_list fun c hcs _ _ _ => h1 c hcs
  · exact List.pairwise_of_forall_mem_list fun c _ d hds hdc => by rw [h2 d hds] at hdc; cases hdc

/-- A command takes the place of its like. -/
theorem ListSound.replace {cs : List Command} (h : ListSound cs) (c : Command) :
    ListSound (cs.map fun d => if c.sameKind d then c else d) := by
  have like : ∀ d : Command, (if c.sameKind d then c else d).isClose = d.isClose ∧
      ∀ e, (if c.sameKind d then c else d).sameKind e = d.sameKind e ∧ e.sameKind (if c.sameKind d then c else d) = e.sameKind d := by
    intro d
    split
    · rename_i hs
      exact ⟨(Command.sameKind_congr hs d).2.2, fun e => ⟨(Command.sameKind_congr hs e).1, (Command.sameKind_congr hs e).2.1⟩⟩
    · exact ⟨rfl, fun _ => ⟨rfl, rfl⟩⟩
  constructor
  · refine List.pairwise_map.mpr (h.1.imp fun {a b} hab => ?_)
    rw [((like a).2 _).1, ((like b).2 _).2]
    exact hab
  · refine List.pairwise_map.mpr (h.2.imp fun {a b} hab => ?_)
    rw [(like a).1, (like b).1]
    exact hab

/-- A command joins a sound list (R91 to R93). -/
theorem ListSound.join {cs : List Command} (h : ListSound cs) (c : Command) : ListSound (joinList cs c) := by
  unfold joinList
  split
  · exact h.replace c
  · rename_i hn
    simp only [List.any_eq_true, not_exists, not_and, Bool.not_eq_true] at hn
    split
    · rename_i hc
      have rest := h.sublist (List.filter_sublist (p := fun d => !(c.sameChannel d && d.releasing)))
      have sub : ∀ d ∈ cs.filter (fun d => !(c.sameChannel d && d.releasing)), d ∈ cs := fun d hd => (List.mem_filter.mp hd).1
      generalize cs.filter (fun d => !(c.sameChannel d && d.releasing)) = ds at rest sub
      rw [List.append_cons]
      refine .of_parts ?_ (rest.1.sublist List.filter_sublist) ?_ ?_
      · refine List.pairwise_append.mpr ⟨rest.1.sublist List.filter_sublist, List.pairwise_singleton _ _, fun d hd e he => ?_⟩
        rw [List.mem_singleton.mp he, Command.sameKind_comm]
        exact hn d (sub d (List.mem_filter.mp hd).1)
      · intro d hd
        rcases List.mem_append.mp hd with hd | hd
        · exact (List.mem_filter.mp hd).2
        · rw [List.mem_singleton.mp hd]; exact hc
      · intro d hd
        simpa using (List.mem_filter.mp hd).2
    · rename_i hc
      refine ⟨List.pairwise_append.mpr ⟨h.1, List.pairwise_singleton _ _, fun d hd e he => ?_⟩,
        List.pairwise_append.mpr ⟨h.2, List.pairwise_singleton _ _, fun d hd e he hce => ?_⟩⟩
      · rw [List.mem_singleton.mp he, Command.sameKind_comm]
        exact hn d hd
      · rw [List.mem_singleton.mp he] at hce
        exact absurd hce hc

/-- A RELEASE split into LIMIT and OPEN right behind the CLOSEs (R90). -/
theorem ListSound.splitBack {cs : List Command} (h : ListSound cs) (c : Command) (p : Points) : ListSound (splitBack cs c p) := by
  unfold Machine.splitBack
  dsimp only
  have limit : (c.splitLimit p).sameKind ((cs.find? (c.splitLimit p).sameKind).getD (c.splitLimit p)) = true := by
    cases hf : cs.find? (c.splitLimit p).sameKind with
    | none => simp [Command.sameKind_iff]
    | some d => exact List.find?_some hf
  generalize (cs.find? (c.splitLimit p).sameKind).getD (c.splitLimit p) = m at limit
  have hm := fun e => Command.sameKind_congr limit e
  have rest := h.sublist (List.filter_sublist (p := fun d => !((c.splitLimit p).sameKind d || c.splitOpen.sameKind d)))
  have out : ∀ d ∈ cs.filter (fun d => !((c.splitLimit p).sameKind d || c.splitOpen.sameKind d)),
      (c.splitLimit p).sameKind d = false ∧ c.splitOpen.sameKind d = false := fun d hd => by
    simpa using (List.mem_filter.mp hd).2
  generalize cs.filter (fun d => !((c.splitLimit p).sameKind d || c.splitOpen.sameKind d)) = ds at rest out
  refine .of_parts (rest.1.sublist List.filter_sublist) ?_ ?_ ?_
  · refine List.pairwise_cons.mpr ⟨fun d hd => ?_, List.pairwise_cons.mpr ⟨fun d hd => ?_, rest.1.sublist List.filter_sublist⟩⟩
    · rw [← (hm d).1]
      rcases List.mem_cons.mp hd with rfl | hd
      · simp [Command.sameKind, Command.splitLimit, Command.splitOpen, Payload.kind]
      · exact (out d (List.mem_filter.mp hd).1).1
    · exact (out d (List.mem_filter.mp hd).1).2
  · intro d hd
    exact (List.mem_filter.mp hd).2
  · intro d hd
    rcases List.mem_cons.mp hd with rfl | hd
    · rw [← (hm d).2.2]; rfl
    · rcases List.mem_cons.mp hd with rfl | hd
      · rfl
      · simpa using (List.mem_filter.mp hd).2

/-- Every list is sound. -/
def Watched.ListsSound (w : Watched) : Prop := ∀ h, ListSound (w.lists.get h)

theorem State.listsSound_iff (s : State) : s.ListsSound ↔ s.watched.ListsSound :=
  forall_congr' fun h => by rw [State.watched_lists_get]

/-- One list replaced by a sound one. -/
theorem Watched.ListsSound.set {w : Watched} (hw : w.ListsSound) (h : HeadId) {cs : List Command} (hc : ListSound cs) :
    ({ w with lists := w.lists.set h cs } : Watched).ListsSound := by
  intro j
  show ListSound ((w.lists.set h cs).get j)
  rw [Tab.get_set]
  split
  · exact hc
  · exact hw j

theorem Move.listsSound (h : Move s t) (hs : s.watched.ListsSound) : t.watched.ListsSound := by
  have list : ∀ hd, ListSound (s.head hd).commands := fun hd => s.watched_lists_get hd ▸ hs hd
  cases h with
  | shrink hd cs hc h => rw [h]; exact hs.set hd ((list hd).sublist hc)
  | join hd c _ h => rw [h]; exact hs.set hd ((list hd).join c)
  | split hd c p _ h => rw [h]; exact hs.set hd ((list hd).splitBack c p)
  | still h => rw [h]; exact hs
  | event _ _ _ _ _ h => rw [h]; exact hs
  | attn h => rw [h]; exact hs
  | context _ _ _ _ h => rw [h]; exact hs
  | quiet _ _ _ _ h => rw [h]; exact hs
  | close _ _ h => rw [h]; exact hs
  | allocate _ _ _ _ h => rw [h]; exact hs
  | record _ _ h => rw [h]; exact hs
  | events _ _ h => rw [h]; exact hs
  | lock _ h => rw [h]; exact hs
  | unlock _ h => rw [h]; exact hs
  | clearLatch h => rw [h]; exact hs
  | line _ _ h => rw [h]; exact hs
  | numbers _ _ h => rw [h]; exact hs

theorem Opened.listsSound (h : Opened s u) : u.watched.ListsSound := fun hd => by
  rw [State.watched_lists_get, h.lists hd]
  exact ⟨List.Pairwise.nil, List.Pairwise.nil⟩

/-- Settles O57: lists change as commands join them, as a RELEASE is split, and as entries are taken out. -/
theorem commandListsStaySound : Obligations.CommandListsStaySound := by
  intro s t hs h
  rw [State.listsSound_iff] at hs ⊢
  cases step_advance h with
  | rests h =>
    obtain ⟨n, -, e⟩ := h
    rw [e]
    exact hs
  | works _ u hb hm =>
    refine hm.keeps (P := fun v => v.watched.ListsSound) Move.listsSound ?_
    cases hb with
    | still e => rw [e]; exact hs
    | latches e =>
      rw [e]
      intro j
      show ListSound ((s.watched.lists.map fun cs => cs.filter fun c => !c.releasing).get j)
      rw [Tab.get_map]
      exact (hs j).sublist List.filter_sublist
  | halts h => rw [h.kept]; exact hs
  | opens u h hm => exact hm.keeps (P := fun v => v.watched.ListsSound) Move.listsSound h.listsSound

/-! ### The latch (O58) -/

/-- Under the latch no OPEN and no RELEASE is queued, and one on the line is on the line `x`. -/
structure Watched.Clean (x : DispenserLine) (w : Watched) : Prop where
  lists : w.latch = true → ∀ h, ∀ c ∈ w.lists.get h, c.opening = false
  line : w.latch = true → ∀ y, w.line = .sending y → y.command.any Command.opening = true → x = .sending y

/-- One list replaced by one that is clean under the latch. -/
theorem Watched.Clean.set {x : DispenserLine} {w : Watched} (hw : w.Clean x) (h : HeadId) {cs : List Command}
    (hc : w.latch = true → ∀ c ∈ cs, c.opening = false) : ({ w with lists := w.lists.set h cs } : Watched).Clean x := by
  refine ⟨fun hl j => ?_, hw.line⟩
  show ∀ c ∈ (w.lists.set h cs).get j, c.opening = false
  rw [Tab.get_set]
  split
  · exact hc hl
  · exact hw.lists hl j

theorem Move.clean {x : DispenserLine} (h : Move s t) (hs : s.watched.Clean x) : t.watched.Clean x := by
  obtain ⟨h1, h2⟩ := id hs
  have list : s.rd.latch = true → ∀ hd, ∀ c ∈ (s.head hd).commands, c.opening = false := fun hl hd =>
    s.watched_lists_get hd ▸ h1 hl hd
  cases h with
  | shrink hd cs hc h => rw [h]; exact hs.set hd fun hl c hm => list hl hd c (hc.subset hm)
  | join hd c hc h =>
    rw [h]
    refine hs.set hd fun hl d hm => ?_
    rcases mem_joinList hm with rfl | hm
    · exact hc hl
    · exact list hl hd d hm
  | split hd c p hl h =>
    rw [h]
    refine hs.set hd fun hl' => ?_
    have : s.rd.latch = true := hl'
    rw [hl] at this
    cases this
  | line y hy h =>
    rw [h]
    refine ⟨h1, fun hl z hz ho => ?_⟩
    rw [hy hl z hz] at ho
    cases ho
  | clearLatch h => rw [h]; exact ⟨nofun, nofun⟩
  | still h => rw [h]; exact hs
  | event _ _ _ _ _ h => rw [h]; exact ⟨h1, h2⟩
  | attn h => rw [h]; exact ⟨h1, h2⟩
  | context _ _ _ _ h => rw [h]; exact ⟨h1, h2⟩
  | quiet _ _ _ _ h => rw [h]; exact ⟨h1, h2⟩
  | close _ _ h => rw [h]; exact ⟨h1, h2⟩
  | allocate _ _ _ _ h => rw [h]; exact ⟨h1, h2⟩
  | record _ _ h => rw [h]; exact ⟨h1, h2⟩
  | events _ _ h => rw [h]; exact ⟨h1, h2⟩
  | lock _ h => rw [h]; exact ⟨h1, h2⟩
  | unlock _ h => rw [h]; exact ⟨h1, h2⟩
  | numbers _ _ h => rw [h]; exact ⟨h1, h2⟩

/-- A command that does not release is no OPEN and no RELEASE. -/
theorem Command.opening_of_not_releasing {c : Command} (h : c.releasing = false) : c.opening = false := by
  unfold Command.releasing at h
  unfold Command.opening
  split at h <;> simp_all

theorem Begins.clean (h : Begins s u) (hs : s.watched.Clean s.dlu.line) : u.watched.Clean s.dlu.line := by
  cases h with
  | still h => rw [h]; exact hs
  | latches h =>
    rw [h]
    refine ⟨fun _ j c hc => ?_, fun _ _ hy _ => hy⟩
    change c ∈ (s.watched.lists.map fun cs => cs.filter fun c => !c.releasing).get j at hc
    rw [Tab.get_map, List.mem_filter] at hc
    exact Command.opening_of_not_releasing (by simpa using hc.2)

theorem Opened.clean (h : Opened s u) (x : DispenserLine) : u.watched.Clean x := by
  refine ⟨fun _ j c hc => ?_, fun _ y hy => ?_⟩
  · rw [State.watched_lists_get, h.lists j] at hc
    cases hc
  · have : u.dlu.line = .sending y := hy
    rw [h.line] at this
    cases this

/-- Settles O58: under the latch nothing that opens joins a list or begins to be sent, and a command that sets the latch first takes the release commands out of every list. -/
theorem nothingOpensUnderTheLatch : Obligations.NothingOpensUnderTheLatch := by
  intro s t hs h
  have clean : s.watched.Clean s.dlu.line :=
    ⟨fun hl j => by rw [State.watched_lists_get]; exact hs hl j, fun _ _ hy _ => hy⟩
  have after : t.watched.Clean s.dlu.line := by
    have moved : ∀ {u : State}, u.watched.Clean s.dlu.line → Moves u t → t.watched.Clean s.dlu.line := fun hu hm =>
      hm.keeps (P := fun v => v.watched.Clean s.dlu.line) Move.clean hu
    cases step_advance h with
    | rests h =>
      obtain ⟨n, -, e⟩ := h
      rw [e]
      exact ⟨clean.lists, clean.line⟩
    | works _ u hb hm => exact moved (hb.clean clean) hm
    | halts h =>
      rw [h.kept]
      exact ⟨clean.lists, fun _ y hy _ => h.line y hy⟩
    | opens u h hm => exact moved (h.clean _) hm
  refine ⟨fun hl j c hc => after.lists hl j c ?_, after.line⟩
  rw [State.watched_lists_get]
  exact hc

end Sys2Proof.Machine
end

section
/-! Arithmetic: points (R133, R140), counts (R98), the range lookup (R31), the divisions (R137 to R139) and the reserve of the sale (R135, R145). -/

namespace Sys2Proof.Machine

open Sys2Proof

/-! ### Points (O50) -/

/-- Pulses whose volume stays within `allow`, by R140's formula. -/
theorem volumeOf_le_iff {k : Nat} (hk : 1 ≤ k) (p allow : Nat) : volumeOf p k ≤ allow ↔ p ≤ ((allow + 1) * k - 1) / 100 := by
  have pos : 1 ≤ (allow + 1) * k := Nat.mul_pos (Nat.succ_pos _) hk
  rw [volumeOf, ← Nat.lt_add_one_iff, Nat.div_lt_iff_lt_mul hk, Nat.le_div_iff_mul_le (by decide)]
  omega

theorem le_heldPoint_iff {p : Nat} (hp : p ≤ 4294967295) (n : Nat) : p ≤ heldPoint n ↔ p ≤ n := by
  unfold heldPoint Config.maxPoint
  split <;> omega

theorem heldPoint_mono {m n : Nat} (h : m ≤ n) : heldPoint m ≤ heldPoint n := by
  unfold heldPoint Config.maxPoint
  split <;> split <;> omega

theorem heldPoint_le (n : Nat) : heldPoint n ≤ 4294967295 := by
  unfold heldPoint Config.maxPoint
  split <;> omega

theorem slowPoint_le_stopPoint (allow slow k : Nat) : slowPoint allow slow k ≤ stopPoint allow k := by
  unfold slowPoint stopPoint
  split
  · have : (allow - slow + 1) * k ≤ (allow + 1) * k := Nat.mul_le_mul_right k (by omega)
    exact heldPoint_mono (Nat.div_le_div_right (by omega))
  · exact Nat.zero_le _

/-- Settles O50: R140's quotients are the largest counts, and holding them at 4,294,967,295 loses no point in range. -/
theorem pointsAreTheLargestAllowed : Obligations.PointsAreTheLargestAllowed := by
  intro allow slow k hk
  refine ⟨fun p hp => ?_, fun hs p hp => ?_, fun hs => ?_, slowPoint_le_stopPoint allow slow k, heldPoint_le _⟩
  · exact (volumeOf_le_iff hk p allow).trans (le_heldPoint_iff hp _).symm
  · show volumeOf p k ≤ allow - slow ↔ p ≤ slowPoint allow slow k
    rw [slowPoint, if_pos hs, volumeOf_le_iff hk, le_heldPoint_iff hp]
  · exact if_neg (Nat.not_lt.mpr hs)

/-! ### Counts (O53) -/

/-- The delta of a count that has risen by less than 65,536. -/
theorem countDelta_of_rise {m n : Nat} (h : m ≤ n) (hn : n < m + 65536) :
    countDelta (BitVec.ofNat 16 n) (BitVec.ofNat 16 m) = n - m := by
  simp only [countDelta, BitVec.toNat_sub, BitVec.toNat_ofNat]
  omega

theorem addCount_of_le {m d : Nat} (h : m + d ≤ 4294967295) : addCount m d = m + d := if_pos h

/-- Settles O53: by the delta of the low sixteen bits. -/
theorem countsAreExtended : Obligations.CountsAreExtended := by
  intro r n hlow hle hn
  refine ⟨fun hx => ⟨fun hlt => ?_, fun hge hlt => ?_, fun low => ?_⟩, fun hx restarted low => ?_⟩
  · have delta := countDelta_of_rise hle (by omega : n < r.extended + 65536)
    have small : ¬ 32768 ≤ n - r.extended := by omega
    simp [ChannelRecord.extend, jumps, hx, hlow, delta, small, addCount_of_le (by omega : r.extended + (n - r.extended) ≤ 4294967295),
      Nat.add_sub_of_le hle]
  · have delta := countDelta_of_rise hle hlt
    have large : 32768 ≤ n - r.extended := by omega
    simp [ChannelRecord.extend, jumps, hx, hlow, delta, large]
  · simp [ChannelRecord.extend, jumps, hx]
  · simp [ChannelRecord.extend, jumps, hx]

/-! ### The range lookup (O41) -/

theorem rangeMatches_iff (e : RangeEntry) (number : Digits) :
    rangeMatches e number = true ↔ e.length ≠ 0 ∧ digitsOf (e.digits.take e.length) = some (number.take e.length) := by
  unfold rangeMatches rangeDigits
  rw [Bool.and_eq_true, decide_eq_true_iff, decide_eq_true_iff]

theorem bestRange_eq_none_iff (number : Digits) (es : List RangeEntry) :
    bestRange number es = none ↔ ∀ e ∈ es, rangeMatches e number = false := by
  induction es with
  | nil => simp [bestRange]
  | cons e es ih =>
    rw [List.forall_mem_cons, ← ih]
    rw [bestRange]
    split
    · rename_i b hb
      rw [hb]
      split <;> simp
    · rename_i hb
      rw [hb]
      split <;> simp_all

/-- The entry chosen matches; those before it that match are shorter, those behind it no longer. -/
theorem bestRange_eq_some {number : Digits} {es : List RangeEntry} {e : RangeEntry} (h : bestRange number es = some e) :
    ∃ front rest, es = front ++ e :: rest ∧ rangeMatches e number = true ∧
      (∀ x ∈ front, rangeMatches x number = true → x.length < e.length) ∧
        ∀ x ∈ rest, rangeMatches x number = true → x.length ≤ e.length := by
  induction es generalizing e with
  | nil => cases h
  | cons x es ih =>
    unfold bestRange at h
    split at h
    · rename_i b hb
      obtain ⟨front, rest, hes, hm, hf, hr⟩ := ih hb
      split at h
      · rename_i hx
        cases h
        simp only [Bool.and_eq_true, decide_eq_true_eq] at hx
        refine ⟨[], es, rfl, hx.1, List.forall_mem_nil _, fun y hy hym => ?_⟩
        rw [hes, List.mem_append, List.mem_cons] at hy
        rcases hy with hy | rfl | hy
        · exact le_trans (hf y hy hym).le hx.2
        · exact hx.2
        · exact le_trans (hr y hy hym) hx.2
      · rename_i hx
        cases h
        refine ⟨x :: front, rest, by rw [hes]; rfl, hm, List.forall_mem_cons.mpr ⟨fun hxm => ?_, hf⟩, hr⟩
        simp only [hxm, Bool.true_and, decide_eq_true_eq] at hx
        omega
    · rename_i hb
      split at h
      · rename_i hx
        cases h
        rw [bestRange_eq_none_iff] at hb
        exact ⟨[], es, rfl, hx, List.forall_mem_nil _, fun y hy hym => by rw [hb y hy] at hym; cases hym⟩
      · cases h

/-- Settles O41, by induction on the table. -/
theorem rangeLookupTakesTheLongestPrefix : Obligations.RangeLookupTakesTheLongestPrefix := by
  intro number es
  simp only [← rangeMatches_iff]
  refine ⟨?_, fun e h => bestRange_eq_some h⟩
  simp only [bestRange_eq_none_iff, Bool.not_eq_true]

/-! ### The divisions (O51) -/

theorem sum_map_const {α : Type} (xs : List α) (v : Nat) : (xs.map fun _ => v).sum = xs.length * v := by
  rw [List.map_const', List.sum_replicate, smul_eq_mul]

/-- Equal shares give out the whole amount at most. -/
theorem equalShares_sum_le (m : Nat) (left : List (Channel × Option Nat)) : ((equalShares m left).map (·.2)).sum ≤ m := by
  cases left with
  | nil => exact Nat.zero_le _
  | cons x rest =>
    have h := Nat.div_add_mod m (rest.length + 1)
    simp only [equalShares, List.map_cons, List.map_map, List.sum_cons, Function.comp_def, sum_map_const]
    generalize m / (rest.length + 1) = q at h ⊢
    have : (rest.length + 1) * q = rest.length * q + q := Nat.succ_mul _ _
    omega

/-- Water-filling gives out no more than it has (R138). -/
theorem waterFill_sum_le : ∀ (n m : Nat) (left : List (Channel × Option Nat)), ((waterFill n m left).map (·.2)).sum ≤ m
  | n, m, [] => by unfold waterFill; exact Nat.zero_le _
  | 0, m, x :: left => by unfold waterFill; exact equalShares_sum_le m _
  | n + 1, m, x :: left => by
    unfold waterFill
    split
    · rename_i ch cap hl
      split
      · rename_i hc
        have rest := waterFill_sum_le n (m - cap) ((x :: left).filter fun y => decide (y.1 ≠ ch))
        have : cap ≤ m := le_trans hc (Nat.div_le_self _ _)
        rw [List.map_cons, List.sum_cons]
        omega
      · exact equalShares_sum_le m _
    · exact equalShares_sum_le m _

/-- The shares of the three channels come to the sum of the list at most. -/
theorem shareIn_sum_le (shares : List (Channel × Nat)) :
    shareIn shares .a + shareIn shares .b + shareIn shares .c ≤ (shares.map (·.2)).sum := by
  induction shares with
  | nil => exact Nat.zero_le _
  | cons x shares ih =>
    obtain ⟨ch, n⟩ := x
    have cons : ∀ d, shareIn ((ch, n) :: shares) d = if ch = d then n else shareIn shares d := fun d => by
      unfold shareIn
      rw [List.find?_cons]
      by_cases e : ch = d <;> simp [e]
    rw [cons, cons, cons, List.map_cons, List.sum_cons]
    cases ch <;> simp only [if_true, reduceCtorEq, if_false] <;> omega

/-- A share buys no more than it pays for, and no more than the channel's part. -/
theorem shareVolume_cost_le (share price : Nat) (part : Option Nat) : shareVolume share price part * price ≤ share := by
  have le : ∀ v, v ≤ share / price → v * price ≤ share := fun v hv =>
    le_trans (Nat.mul_le_mul_right price hv) (Nat.div_mul_le_self share price)
  unfold shareVolume
  split
  · split
    · exact le _ (le_refl _)
    · exact le _ (by omega)
  · exact le _ (le_refl _)

theorem shareVolume_le_part (share price p : Nat) : shareVolume share price (some p) ≤ p := by
  unfold shareVolume
  dsimp only
  split <;> omega

/-- The volumes a division gives. -/
def Context.given (c : Context) (cls : Product → ProductClass) (slow : Nat) (d : Division) : Triple Nat :=
  (c.divide cls slow d).map fun x => (x.map (·.volume)).getD 0

theorem Context.given_get (c : Context) (cls : Product → ProductClass) (slow : Nat) (d : Division) (ch : Channel) :
    (c.given cls slow d).get ch = if d.sharing.get ch then
      shareVolume (shareIn (c.sharesOf cls d) ch) (c.channelPrice (c.records.get ch)) (c.part cls d ch) else 0 := by
  simp only [Context.given, Context.divide, Triple.get_map, Triple.get_build]
  split <;> rfl

/-- What a division gives costs no more than the shares. -/
theorem Context.cost_given_le (c : Context) (cls : Product → ProductClass) (slow : Nat) (d : Division) :
    c.cost (c.given cls slow d) ≤ ((c.sharesOf cls d).map (·.2)).sum := by
  have le : ∀ ch, (c.given cls slow d).get ch * c.channelPrice (c.records.get ch) ≤ shareIn (c.sharesOf cls d) ch := fun ch => by
    rw [Context.given_get]
    split
    · exact shareVolume_cost_le _ _ _
    · rw [Nat.zero_mul]; exact Nat.zero_le _
  have sum := shareIn_sum_le (c.sharesOf cls d)
  have ha := le .a
  have hb := le .b
  have hc := le .c
  simp only [Triple.get] at ha hb hc
  unfold Context.cost
  omega

/-- The shares come to what the budget leaves, or to nothing. -/
theorem Context.sharesOf_sum_le (c : Context) (cls : Product → ProductClass) (d : Division) :
    ((c.sharesOf cls d).map (·.2)).sum ≤ (c.budget - (c.cost d.volumes : Int)).toNat := by
  simp only [Context.sharesOf]
  split
  · simp [Function.comp_def]
  · exact waterFill_sum_le _ _ _

/-- Settles O51: the shares come to what the budget leaves at most, each buys no more than it pays for, and no more than its part. -/
theorem divisionsStayWithinTheBudget : Obligations.DivisionsStayWithinTheBudget := by
  intro c cls slow d
  show ((c.cost d.volumes : Int) ≤ c.budget → (c.cost (c.given cls slow d) : Int) + c.cost d.volumes ≤ c.budget) ∧
    (c.budget < (c.cost d.volumes : Int) → c.cost (c.given cls slow d) = 0) ∧
    ∀ (ch : Channel) (part : Nat), c.part cls d ch = some part → (c.given cls slow d).get ch ≤ part
  have le := le_trans (c.cost_given_le cls slow d) (c.sharesOf_sum_le cls d)
  refine ⟨fun h => by omega, fun h => by omega, fun ch part hp => ?_⟩
  rw [Context.given_get, hp]
  split
  · exact shareVolume_le_part _ _ _
  · exact Nat.zero_le _

/-! ### The reserve of the sale (O52) -/

/-- The amount of a product's line; 0 where it has none. -/
def Context.lineOf (c : Context) (p : Product) : Nat :=
  if 0 < c.productVolume p then lineAmount (c.productVolume p) (c.price p) else 0

theorem Context.saleLines_sum (c : Context) : (c.saleLines.map (·.amount)).sum = ((List.finRange 8).map c.lineOf).sum := by
  unfold Context.saleLines
  generalize List.finRange 8 = ps
  induction ps with
  | nil => rfl
  | cons p ps ih =>
    rw [List.filterMap_cons, List.map_cons, List.sum_cons, ← ih, Context.lineOf]
    by_cases hp : 0 < c.productVolume p
    · rw [if_pos hp, if_pos hp]
      rfl
    · rw [if_neg hp, if_neg hp, Nat.zero_add]

/-- What each channel's sale costs, added product by product, is the cost of the volumes sold. -/
theorem Context.cost_sold (c : Context) :
    ((List.finRange 8).map fun p => c.productVolume p * c.price p).sum = c.cost (c.records.map ChannelRecord.soldVolume) := by
  have channel : ∀ r : ChannelRecord, (∑ p : Product, (if r.setup.any (fun x => decide (x.product = p)) then r.soldVolume else 0) * c.price p) =
      r.soldVolume * c.channelPrice r := by
    intro r
    cases hr : r.setup with
    | none => simp [Context.channelPrice, hr]
    | some x => simp [Context.channelPrice, hr]
  rw [← Fin.sum_univ_def]
  simp only [Context.productVolume, Triple.toList, List.map_cons, List.map_nil, List.sum_cons, List.sum_nil, Nat.add_zero, Nat.add_mul,
    Finset.sum_add_distrib, channel, Context.cost, Triple.map]
  omega

/-- A product sold is a permitted one, where only permitted channels sold. -/
theorem Context.permitted_of_sold {c : Context} (h : ∀ ch : Channel, (c.records.get ch).soldVolume ≠ 0 → c.permits (c.records.get ch) = true)
    {p : Product} (hp : 0 < c.productVolume p) : inSet p c.permittedSet = true := by
  by_contra hn
  have zero : ∀ ch : Channel, (if (c.records.get ch).setup.any (fun x => decide (x.product = p)) then
      (c.records.get ch).soldVolume else 0) = 0 := by
    intro ch
    split
    · rename_i hs
      by_contra h0
      have permits := h ch h0
      cases hr : (c.records.get ch).setup with
      | none => simp [hr] at hs
      | some x =>
        simp only [hr, Option.any_some, decide_eq_true_eq] at hs
        simp only [Context.permits, hr, Option.any_some, hs] at permits
        exact hn permits
    · rfl
  have none : c.productVolume p = 0 + (0 + (0 + 0)) :=
    congrArg₂ (· + ·) (zero .a) (congrArg₂ (· + ·) (zero .b) (congrArg (· + 0) (zero .c)))
  omega

/-- A line's rounding takes 500 cu at most, of a permitted product. -/
theorem Context.lineOf_le {c : Context} (h : ∀ ch : Channel, (c.records.get ch).soldVolume ≠ 0 → c.permits (c.records.get ch) = true)
    (p : Product) : 1000 * c.lineOf p ≤ c.productVolume p * c.price p + if inSet p c.permittedSet then 500 else 0 := by
  unfold Context.lineOf lineAmount
  split
  · rename_i hp
    rw [if_pos (c.permitted_of_sold h hp)]
    omega
  · omega

theorem setSize_eq_sum (set : ProductSet) : 500 * setSize set = ((List.finRange 8).map fun p => if inSet p set then 500 else 0).sum := by
  unfold setSize
  generalize List.finRange 8 = ps
  induction ps with
  | nil => rfl
  | cons p ps ih =>
    rw [List.countP_cons, List.map_cons, List.sum_cons, ← ih]
    split <;> omega

/-- Settles O52: a line of a permitted product exceeds what its volume costs by 500 cu at most. -/
theorem salesWithinTheBudgetStayWithinTheApproval : Obligations.SalesWithinTheBudgetStayWithinTheApproval := by
  intro c h hcost
  have lines : 1000 * ((List.finRange 8).map c.lineOf).sum ≤
      c.cost (c.records.map ChannelRecord.soldVolume) + 500 * setSize c.permittedSet := by
    rw [← c.cost_sold, setSize_eq_sum, ← List.sum_map_mul_left, ← List.sum_map_add]
    exact List.sum_le_sum fun p _ => c.lineOf_le h p
  rw [Context.saleLines_sum]
  unfold Context.budget at hcost
  omega

end Sys2Proof.Machine
end

section
/-! The calendar clock (R61, R188): the next minute of a legal reading, in seconds, and what a change of the clock's minute does. -/

namespace Sys2Proof.Machine

open Sys2Proof

/-! ### Months and years in days -/

theorem daysBefore_succ (y : Nat) {m : Nat} (hm : 1 ≤ m) : daysBefore y (m + 1) = daysBefore y m + daysIn y m := by
  obtain ⟨n, rfl⟩ : ∃ n, m = n + 1 := ⟨m - 1, (Nat.sub_add_cancel hm).symm⟩
  simp [daysBefore, List.range_succ]

theorem daysBefore_january (y : Nat) : daysBefore y 1 = 0 := rfl

/-- The days of a year's first eleven months. -/
theorem daysBefore_december (y : Nat) : daysBefore y 12 = if y % 4 = 0 then 335 else 334 := by
  simp only [daysBefore, List.range, List.range.loop, List.map_cons, List.map_nil, List.sum_cons, List.sum_nil, daysIn]
  split <;> rfl

theorem daysIn_december (y : Nat) : daysIn y 12 = 31 := rfl

/-! ### The next minute -/

theorem DateTime.lastMinute_iff (d : DateTime) : d.lastMinute = true ↔
    2099 ≤ d.year ∧ 12 ≤ d.month ∧ daysIn d.year d.month ≤ d.day ∧ 23 ≤ d.hour ∧ 59 ≤ d.minute := by
  simp [DateTime.lastMinute]

theorem DateTime.nextMinute_second (d : DateTime) : d.nextMinute.second = 0 := by
  unfold DateTime.nextMinute
  split_ifs <;> rfl

/-- The last minute is followed by the first. -/
theorem DateTime.nextMinute_of_last {d : DateTime} (h : d.lastMinute = true) : d.nextMinute = .first := by
  rw [DateTime.lastMinute_iff] at h
  obtain ⟨h1, h2, h3, h4, h5⟩ := h
  unfold DateTime.nextMinute
  rw [if_neg (by omega), if_neg (by omega), if_neg (by omega), if_neg (by omega), if_neg (by omega)]

/-- A year on: 365 days, or 366 where it is divisible by 4. -/
theorem yearDays_succ {y : Nat} (hy : 2000 ≤ y) :
    365 * (y + 1 - 2000) + (y + 1 - 2000 + 3) / 4 = 365 * (y - 2000) + (y - 2000 + 3) / 4 + if y % 4 = 0 then 366 else 365 := by
  split <;> omega

/-- The days before a reading's, since 1 January 2000. -/
def DateTime.dayNumber (d : DateTime) : Nat :=
  365 * (d.year - 2000) + (d.year - 2000 + 3) / 4 + daysBefore d.year d.month + (d.day - 1)

theorem DateTime.seconds_eq (d : DateTime) : d.seconds = ((d.dayNumber * 24 + d.hour) * 60 + d.minute) * 60 + d.second := rfl

/-- The first day of the next month is the day after the last of this one. -/
theorem dayNumber_nextMonth {d : DateTime} (hm : 1 ≤ d.month) (hd : 1 ≤ d.day) (he : d.day = daysIn d.year d.month) :
    DateTime.dayNumber ⟨d.year, d.month + 1, 1, 0, 0, 0⟩ = d.dayNumber + 1 := by
  have := daysBefore_succ d.year hm
  simp only [DateTime.dayNumber, this]
  omega

/-- The first day of the next year is the day after 31 December. -/
theorem dayNumber_nextYear {d : DateTime} (hy : 2000 ≤ d.year) (hm : d.month = 12) (hd : d.day = 31) :
    DateTime.dayNumber ⟨d.year + 1, 1, 1, 0, 0, 0⟩ = d.dayNumber + 1 := by
  have := yearDays_succ hy
  simp only [DateTime.dayNumber, this, hm, hd, daysBefore_december, daysBefore_january]
  split <;> omega

/-- The next minute begins where the running one ends (R188). -/
theorem DateTime.nextMinute_seconds {d : DateTime} (hl : d.legal = true) (h : d.lastMinute = false) :
    d.nextMinute.seconds + d.second = d.seconds + 60 := by
  have hn := mt d.lastMinute_iff.mpr (Bool.eq_false_iff.mp h)
  simp only [DateTime.legal, decide_eq_true_eq] at hl
  obtain ⟨hy, hy', hm, hm', hd, hd', hh, hmin, hs⟩ := hl
  unfold DateTime.nextMinute
  simp only [DateTime.seconds_eq]
  by_cases h1 : d.minute < 59
  · rw [if_pos h1]
    show ((d.dayNumber * 24 + d.hour) * 60 + (d.minute + 1)) * 60 + 0 + _ = _
    omega
  rw [if_neg h1]
  by_cases h2 : d.hour < 23
  · rw [if_pos h2]
    show ((d.dayNumber * 24 + (d.hour + 1)) * 60 + 0) * 60 + 0 + _ = _
    omega
  rw [if_neg h2]
  by_cases h3 : d.day < daysIn d.year d.month
  · have next : DateTime.dayNumber { d with day := d.day + 1, hour := 0, minute := 0, second := 0 } = d.dayNumber + 1 := by
      simp only [DateTime.dayNumber]
      omega
    rw [if_pos h3, next]
    dsimp only
    omega
  rw [if_neg h3]
  by_cases h4 : d.month < 12
  · rw [if_pos h4, dayNumber_nextMonth hm hd (by omega)]
    dsimp only
    omega
  rw [if_neg h4]
  by_cases h5 : d.year < 2099
  · have month : d.month = 12 := by omega
    rw [month, daysIn_december] at hd' h3
    rw [if_pos h5, dayNumber_nextYear hy month (by omega)]
    dsimp only
    omega
  · exact absurd ⟨by omega, by omega, by omega, by omega, by omega⟩ hn

/-! ### The command (O49) -/

theorem exec_clockMinuteChange (s : State) : exec .clockMinuteChange s = .next s.minuteChange := rfl

/-- The sweep of a minute change, with all that it leaves. -/
theorem State.minuteChange_eq (s : State) : s.minuteChange = { s with rd := { s.rd.nextMinute with
    standIn := if s.power.phase = .running ∧ s.rd.nextMinute.clockValid = true then
      s.rd.standIn.filter fun e => !e.passed s.rd.nextMinute.clock s.standInWindow else s.rd.standIn } } := by
  unfold State.minuteChange
  simp only [State.working, Bool.and_eq_true, decide_eq_true_eq]
  split <;> rfl

/-- Settles O49: the next minute of a legal reading is legal, and begins where the running one ends; the rest is the sweep. -/
theorem minuteChangesMoveTheClock : Obligations.MinuteChangesMoveTheClock := by
  intro s hl
  refine ⟨_, exec_clockMinuteChange s, ?_⟩
  rw [State.minuteChange_eq]
  refine ⟨DateTime.nextMinute_legal hl, s.rd.clock.nextMinute_second, rfl, fun h => ⟨DateTime.nextMinute_seconds hl h, ?_⟩,
    fun h => ⟨DateTime.nextMinute_of_last h, ?_⟩, rfl, rfl⟩
  · show (s.rd.clockValid && !s.rd.clock.lastMinute) = _
    rw [h, Bool.not_false, Bool.and_true]
  · show (s.rd.clockValid && !s.rd.clock.lastMinute) = _
    rw [h, Bool.not_true, Bool.and_false]

end Sys2Proof.Machine
end

section
/-! The host's requests by their frames: numbers and pairs read from bodies, and the answers of the requests that leave no work. -/

namespace Sys2Proof

/-! ### Numbers of entries -/

theorem idOf_number {n : Nat} (i : Fin n) : idOf n (i.val + 1) = some i := by
  unfold idOf
  rw [dif_pos ⟨Nat.succ_pos _, i.isLt⟩]
  rfl

theorem idOf_eq_none {n m : Nat} (h : m < 1 ∨ n < m) : idOf n m = none := dif_neg (by omega)

theorem idOf_some {n m : Nat} {i : Fin n} (h : idOf n m = some i) : i.val + 1 = m := by
  unfold idOf at h
  split at h
  · cases h
    show m - 1 + 1 = m
    omega
  · cases h

/-- The byte that names an entry reads back as its number. -/
theorem toNat_number {n : Nat} (i : Fin n) (hn : n ≤ 255) : (BitVec.ofNat 8 (i.val + 1)).toNat = i.val + 1 := by
  have := i.isLt
  rw [BitVec.toNat_ofNat]
  omega

theorem idOf_byte {n : Nat} (i : Fin n) (hn : n ≤ 255) : idOf n (BitVec.ofNat 8 (i.val + 1)).toNat = some i := by
  rw [toNat_number i hn, idOf_number]

/-! ### Lists read entry by entry -/

section
variable {α β γ δ : Type}

/-- Every entry read, in order; none where one does not read. -/
def readAll (f : α → Option β) : List α → Option (List β)
  | [] => some []
  | x :: xs =>
    match f x, readAll f xs with
    | some y, some ys => some (y :: ys)
    | _, _ => none

theorem readAll_map {f : α → Option β} {g : γ → α} {h : γ → β} {xs : List γ} (e : ∀ x ∈ xs, f (g x) = some (h x)) :
    readAll f (xs.map g) = some (xs.map h) := by
  induction xs with
  | nil => rfl
  | cons x xs ih =>
    rw [List.map_cons, readAll, e x (List.mem_cons_self ..), ih fun y hy => e y (List.mem_cons_of_mem _ hy)]
    rfl

theorem readAll_cons_some {f : α → Option β} {x : α} {xs : List α} {ys : List β} (h : readAll f (x :: xs) = some ys) :
    ∃ y zs, f x = some y ∧ readAll f xs = some zs ∧ ys = y :: zs := by
  unfold readAll at h
  split at h
  · cases h
    exact ⟨_, _, by assumption, by assumption, rfl⟩
  · cases h

/-- One entry that does not read fails the list. -/
theorem readAll_eq_none {f : α → Option β} {xs : List α} {x : α} (hx : x ∈ xs) (hf : f x = none) : readAll f xs = none := by
  by_contra h
  obtain ⟨ys, hys⟩ := Option.ne_none_iff_exists'.mp h
  clear h
  induction xs generalizing ys with
  | nil => cases hx
  | cons y xs ih =>
    obtain ⟨z, zs, hy, hr, -⟩ := readAll_cons_some hys
    rcases List.mem_cons.mp hx with rfl | hx
    · rw [hf] at hy
      cases hy
    · exact ih hx zs hr

/-- What is read carries the keys of the entries. -/
theorem readAll_keys {f : α → Option β} {k : α → δ} {k' : β → δ} (e : ∀ x y, f x = some y → k' y = k x) {xs : List α} {ys : List β}
    (h : readAll f xs = some ys) : ys.map k' = xs.map k := by
  induction xs generalizing ys with
  | nil => cases h; rfl
  | cons x xs ih =>
    obtain ⟨y, zs, hy, hr, rfl⟩ := readAll_cons_some h
    rw [List.map_cons, List.map_cons, ih hr, e x y hy]

theorem readAll_length {f : α → Option β} {xs : List α} {ys : List β} (h : readAll f xs = some ys) : ys.length = xs.length := by
  have := congrArg List.length (readAll_keys (k := fun _ => ()) (k' := fun _ => ()) (fun _ _ _ => rfl) h)
  simpa using this

end

namespace Tab

variable {n : Nat} {α β : Type}

/-- An entry that no change names stays. -/
theorem foldl_modify_get_of_not_mem {k : β → Fin n} {f : β → α → α} {xs : List β} {i : Fin n} (h : i ∉ xs.map k) {t : Tab n α} :
    (xs.foldl (fun t x => t.modify (k x) (f x)) t).get i = t.get i := by
  induction xs generalizing t with
  | nil => rfl
  | cons x xs ih =>
    rw [List.map_cons, List.mem_cons, not_or] at h
    rw [List.foldl_cons, ih h.2, get_modify, if_neg (Ne.symm h.1)]

/-- An entry that one change alone names is changed by it. -/
theorem foldl_modify_get_of_mem {k : β → Fin n} {f : β → α → α} {xs : List β} (hd : (xs.map k).Nodup) {x : β} (hx : x ∈ xs)
    {t : Tab n α} : (xs.foldl (fun t x => t.modify (k x) (f x)) t).get (k x) = f x (t.get (k x)) := by
  induction xs generalizing t with
  | nil => cases hx
  | cons y xs ih =>
    rw [List.map_cons, List.nodup_cons] at hd
    rw [List.foldl_cons]
    rcases List.mem_cons.mp hx with rfl | hx
    · rw [foldl_modify_get_of_not_mem hd.1, get_modify, if_pos rfl]
    · rw [ih hd.2 hx, get_modify, if_neg fun e : k y = k x => hd.1 (by rw [e]; exact List.mem_map_of_mem hx)]

end Tab

namespace Machine

variable {s t : State}

/-! ### Commands that stand for frames -/

/-- A command of section 11.3 is the arrival of its frame. -/
theorem exec_commandOf {f : HostFrame} (h : ∀ code, f.request = .unknown code → code.toNat < 1 ∨ 24 < code.toNat) (s : State) :
    exec (commandOf f) s = s.arrive f := by
  obtain ⟨tag, length, q⟩ := f
  cases q
  case unknown code =>
    have : isUnknownCode code = true := decide_eq_true (h code rfl)
    exact if_pos this
  all_goals rfl

/-- A refusal by the block that owns the request. -/
theorem State.arrive_refused {f : HostFrame} {why : ReplyReason} (h : s.takes) (hf : lengthGood f = true)
    (hs : s.heard.serveRequest f.request = s.heard.refuse why) :
    s.arrive f = .next (s.heard.replied (answerCode (requestCode f.request)) f.tag ⟨.refused, why, .nothing⟩) :=
  State.arrive_served h hf hs

/-! ### SET EVENT LEVELS (O9) -/

/-- One pair of a SET EVENT LEVELS. -/
def levelPair (p : Byte × Byte) : Option (Fin 20 × Nat) :=
  match settableOf p.1.toNat with
  | some i => if p.2.toNat ≤ 6 then some (i, p.2.toNat) else none
  | none => none

theorem levelPairs_eq : ∀ ps : List (Byte × Byte), levelPairs ps = readAll levelPair ps
  | [] => rfl
  | (k, v) :: ps => by
    rw [levelPairs, readAll, ← levelPairs_eq ps, levelPair]
    dsimp only
    cases settableOf k.toNat with
    | none => rfl
    | some i => by_cases hv : v.toNat ≤ 6 <;> cases levelPairs ps <;> simp [hv]

theorem levelPair_key {p : Byte × Byte} {x : Fin 20 × Nat} (h : levelPair p = some x) : BitVec.ofNat 8 (x.1.val + 1) = p.1 := by
  unfold levelPair settableOf at h
  split at h
  · rename_i i hi
    split at hi
    · cases hi
      split at h
      · cases h
        rename_i hc _
        have : p.1.toNat - 1 + 1 = p.1.toNat := by omega
        simp only [this, BitVec.ofNat_toNat, BitVec.setWidth_eq]
      · cases h
    · cases hi
  · cases h

/-- A request that names a kind that is not settable, a level above 6, or a kind twice, or whose mask is above 7, is no good one. -/
theorem goodLevelPairs_eq_none {mask : Byte} {ps : List (Byte × Byte)}
    (h : 7 < mask.toNat ∨ (∃ p ∈ ps, p.1.toNat < 4 ∨ 20 < p.1.toNat ∨ 6 < p.2.toNat) ∨ ¬(ps.map (·.1)).Nodup) :
    goodLevelPairs mask ps = none := by
  by_contra hn
  obtain ⟨xs, hxs⟩ := Option.ne_none_iff_exists'.mp hn
  obtain ⟨hp, hm, hd⟩ := goodLevelPairs_some hxs
  rw [levelPairs_eq] at hp
  rcases h with h | ⟨p, hmem, hbad⟩ | h
  · omega
  · have : levelPair p = none := by
      unfold levelPair settableOf
      rcases hbad with hbad | hbad | hbad
      · rw [dif_neg (by omega)]
      · rw [dif_neg (by omega)]
      · split
        · rw [if_neg (by omega)]
        · rfl
    rw [readAll_eq_none hmem this] at hp
    cases hp
  · have keys := readAll_keys (k := Prod.fst) (k' := fun x => BitVec.ofNat 8 (x.1.val + 1)) (fun _ _ => levelPair_key) hp
    have inj : Function.Injective fun i : Fin 20 => (BitVec.ofNat 8 (i.val + 1) : Byte) := by decide
    have : xs.map (fun x => (BitVec.ofNat 8 (x.1.val + 1) : Byte)) = (xs.map (·.1)).map fun i : Fin 20 => BitVec.ofNat 8 (i.val + 1) := by
      rw [List.map_map]; rfl
    exact h (keys ▸ this ▸ hd.map inj)

/-- The place in the level table of a settable kind or condition. -/
def settablePlace (i : Fin 17) : Fin 20 := ⟨i.val + 3, by omega⟩

theorem settablePlace_injective : Function.Injective settablePlace := by decide

theorem goodLevelPairs_spelled {mask : Byte} {xs : List (Fin 17 × Fin 7)} (hm : mask.toNat ≤ 7) (hd : (xs.map (·.1)).Nodup) :
    goodLevelPairs mask (xs.map fun x => (BitVec.ofNat 8 (x.1.val + 4), BitVec.ofNat 8 x.2.val)) =
      some (xs.map fun x => (settablePlace x.1, x.2.val)) := by
  have one : ∀ x : Fin 17 × Fin 7, levelPair (BitVec.ofNat 8 (x.1.val + 4), BitVec.ofNat 8 x.2.val) = some (settablePlace x.1, x.2.val) := by
    rintro ⟨i, v⟩
    have kind : (BitVec.ofNat 8 (i.val + 4)).toNat = i.val + 4 := by rw [BitVec.toNat_ofNat]; omega
    have level : (BitVec.ofNat 8 v.val).toNat = v.val := by rw [BitVec.toNat_ofNat]; omega
    have settable : settableOf (i.val + 4) = some (settablePlace i) := dif_pos ⟨by omega, by omega⟩
    simp only [levelPair, kind, level, settable]
    exact if_pos (by omega)
  unfold goodLevelPairs
  rw [levelPairs_eq, readAll_map fun x _ => one x]
  dsimp only
  rw [if_pos ⟨hm, by simpa [List.map_map, Function.comp_def] using hd.map settablePlace_injective⟩]

/-- The level an event takes: that of its kind where the request names it. -/
theorem relevel_eq {xs : List (Fin 20 × Nat)} (hd : (xs.map (·.1)).Nodup) (levels : Tab 20 Nat) (e : Event) :
    relevel xs e = { e with level := if xs.any (fun x => decide (x.1 = e.kind.index)) then
      (xs.foldl (fun t x => t.set x.1 x.2) levels).get e.kind.index else e.level } := by
  unfold relevel
  split
  · rename_i x hx
    have hm := List.mem_of_find?_eq_some hx
    have hk : x.1 = e.kind.index := by simpa using List.find?_some hx
    have any : xs.any (fun x => decide (x.1 = e.kind.index)) = true := List.any_eq_true.mpr ⟨x, hm, decide_eq_true hk⟩
    have get := Tab.foldl_modify_get_of_mem (k := Prod.fst) (f := fun (x : Fin 20 × Nat) _ => x.2) hd hm (t := levels)
    rw [any, if_pos rfl, ← hk]
    exact congrArg (fun n => { e with level := n }) get.symm
  · rename_i hx
    rw [List.find?_eq_none] at hx
    have any : xs.any (fun x => decide (x.1 = e.kind.index)) = false := by simpa using hx
    rw [any]
    rfl

/-- Settles O9: the pairs read as places of the level table; every other request reads as none. -/
theorem setEventLevelsIsCheckedWhole : Obligations.SetEventLevelsIsCheckedWhole := by
  intro s tag mask h hl
  have good : ∀ ps : List (Byte × Byte), lengthGood ⟨tag, 2 + 2 * ps.length, .setEventLevels mask ps⟩ = true := fun ps => by
    simp [lengthGood, requiredLength]
  constructor
  · intro xs hm hd
    have hd' : ((xs.map fun x => (settablePlace x.1, x.2.val)).map (·.1)).Nodup := by
      simpa [List.map_map, Function.comp_def] using hd.map settablePlace_injective
    have served : s.heard.serveRequest (.setEventLevels mask (xs.map fun x => (BitVec.ofNat 8 (x.1.val + 4), BitVec.ofNat 8 x.2.val))) =
        ⟨{ s.heard with reu := s.reu.setLevels mask.toNat (xs.map fun x : Fin 17 × Fin 7 => (settablePlace x.1, x.2.val)) }.testAttn, [], .done .nothing⟩ := by
      simp only [State.serveRequest, State.serveSetEventLevels, State.heard_loading, State.loading_eq_false hl, goodLevelPairs_spelled hm hd]
      rfl
    have hlen := good (xs.map fun x : Fin 17 × Fin 7 => (BitVec.ofNat 8 (x.1.val + 4), BitVec.ofNat 8 x.2.val))
    rw [List.length_map] at hlen
    refine ⟨_, State.arrive_served h hlen served, rfl, rfl, rfl, rfl, fun x hx i hi => ?_, fun i hi => ?_, ?_⟩
    · have place : settablePlace x.1 = i := Fin.ext hi.symm
      have get := Tab.foldl_modify_get_of_mem (k := Prod.fst) (f := fun (x : Fin 20 × Nat) _ => x.2) hd'
        (List.mem_map_of_mem (f := fun x : Fin 17 × Fin 7 => (settablePlace x.1, x.2.val)) hx) (t := s.reu.levels)
      rw [← place]
      exact get
    · refine Tab.foldl_modify_get_of_not_mem (k := Prod.fst) (f := fun (x : Fin 20 × Nat) _ => x.2) ?_
      rw [List.map_map, List.mem_map]
      rintro ⟨x, hx, rfl⟩
      exact hi x hx rfl
    · refine List.map_congr_left fun e _ => ?_
      rw [relevel_eq hd' s.reu.levels e]
      have any : (xs.map fun x => (settablePlace x.1, x.2.val)).any (fun x => decide (x.1 = e.kind.index)) =
          xs.any fun x => decide (e.kind.code = x.1.val + 4) := by
        rw [List.any_map]
        refine List.any_congr rfl fun x => ?_
        have pos : 1 ≤ e.kind.code := by cases e.kind <;> decide
        simp only [Function.comp, settablePlace, EventKind.index, Fin.ext_iff]
        exact decide_eq_decide.mpr (by omega)
      rw [any]
      rfl
  · intro ps hbad
    refine State.arrive_refused (f := ⟨tag, 2 + 2 * ps.length, .setEventLevels mask ps⟩) h (good ps) ?_
    simp [State.serveRequest, State.serveSetEventLevels, State.loading_eq_false hl, goodLevelPairs_eq_none hbad]

/-! ### NEXT AUTH (O10) -/

theorem State.oldestOffered_split {front rest : List ContextId} {i : ContextId} (hr : s.ae.requests = front ++ i :: rest)
    (hf : ∀ j ∈ front, (s.ctx j).state ≠ .offered) (hi : (s.ctx i).state = .offered) : s.oldestOffered = some i := by
  rw [State.oldestOffered, hr, List.find?_append, List.find?_eq_none.mpr (by simpa using hf)]
  simp [hi]

/-- Settles O10. -/
theorem nextAuthTakesTheOldestOffered : Obligations.NextAuthTakesTheOldestOffered := by
  intro s tag h hl
  have loading : s.heard.loading = false := State.loading_eq_false (s := s.heard) hl
  refine ⟨fun front i rest tm hr hf hi hd => ?_, fun hn => ?_⟩
  · have oldest : s.heard.oldestOffered = some i := State.oldestOffered_split (s := s.heard) hr hf hi
    have age : (s.ctx i).age = (tm.full - tm.left) / 10 := by simp [Context.age, hd]
    have served : s.heard.serveRequest .nextAuth =
        ⟨(s.heard.modCtx i fun c => { c with state := .taken }).testAttn, [], .done (.authRequest (some (s.heard.authRequest i)))⟩ := by
      simp only [State.serveRequest, State.serveNextAuth, loading, oldest, Bool.false_eq_true, if_false]
    refine (State.arrive_served h (f := ⟨tag, 0, .nextAuth⟩) rfl served).trans ?_
    rw [← age]
    rfl
  · have oldest : s.heard.oldestOffered = none := List.find?_eq_none.mpr fun j hj => by rw [decide_eq_true_eq]; exact hn j hj
    refine State.arrive_served h (f := ⟨tag, 0, .nextAuth⟩) rfl ?_
    simp only [State.serveRequest, State.serveNextAuth, loading, oldest, Bool.false_eq_true, if_false]
    rfl

/-! ### SET SITE PARAMETERS (O19) -/

/-- One pair of a SET SITE PARAMETERS. -/
def parameterPair (p : Byte × BitVec 16) : Option (Fin 14 × Nat) := (idOf 14 p.1.toNat).map fun i => (i, p.2.toNat)

theorem parameterPairs_eq : ∀ ps : List (Byte × BitVec 16), parameterPairs ps = readAll parameterPair ps
  | [] => rfl
  | (p, v) :: ps => by
    rw [parameterPairs, readAll, ← parameterPairs_eq ps, parameterPair]
    cases idOf 14 p.toNat <;> cases parameterPairs ps <;> rfl

theorem parameterPair_key {p : Byte × BitVec 16} {x : Fin 14 × Nat} (h : parameterPair p = some x) :
    BitVec.ofNat 8 (x.1.val + 1) = p.1 := by
  unfold parameterPair at h
  obtain ⟨i, hi, rfl⟩ := Option.map_eq_some_iff.mp h
  rw [idOf_some hi, BitVec.ofNat_toNat, BitVec.setWidth_eq]

theorem goodParameterPairs_eq_none {ps : List (Byte × BitVec 16)}
    (h : ps.length < 1 ∨ 14 < ps.length ∨ (∃ p ∈ ps, p.1.toNat < 1 ∨ 14 < p.1.toNat) ∨ ¬(ps.map (·.1)).Nodup) :
    goodParameterPairs ps = none := by
  unfold goodParameterPairs
  split
  · rename_i xs hp
    refine if_neg ?_
    rintro ⟨h1, h2, hd⟩
    rw [parameterPairs_eq] at hp
    rw [readAll_length hp] at h1 h2
    rcases h with h | h | ⟨p, hmem, hbad⟩ | h
    · omega
    · omega
    · rw [readAll_eq_none hmem (by rw [parameterPair, idOf_eq_none hbad]; rfl)] at hp
      cases hp
    · have keys := readAll_keys (k := Prod.fst) (k' := fun x => BitVec.ofNat 8 (x.1.val + 1)) (fun _ _ => parameterPair_key) hp
      have inj : Function.Injective fun i : Fin 14 => (BitVec.ofNat 8 (i.val + 1) : Byte) := by decide
      have : xs.map (fun x => (BitVec.ofNat 8 (x.1.val + 1) : Byte)) = (xs.map (·.1)).map fun i : Fin 14 => BitVec.ofNat 8 (i.val + 1) := by
        rw [List.map_map]; rfl
      exact h (keys ▸ this ▸ hd.map inj)
  · rfl

theorem goodParameterPairs_spelled {xs : List (Fin 14 × BitVec 16)} (h1 : 1 ≤ xs.length) (hd : (xs.map (·.1)).Nodup) :
    goodParameterPairs (xs.map fun x => (BitVec.ofNat 8 (x.1.val + 1), x.2)) = some (xs.map fun x => (x.1, x.2.toNat)) := by
  unfold goodParameterPairs
  rw [parameterPairs_eq, readAll_map (h := fun x => (x.1, x.2.toNat)) fun x _ => by rw [parameterPair, idOf_byte x.1 (by decide)]; rfl]
  have small : xs.length ≤ 14 := by simpa using hd.length_le_card
  dsimp only
  rw [if_pos]
  exact ⟨by simpa using h1, by simpa using small, by simpa [List.map_map, Function.comp_def] using hd⟩

/-- The clamp of R197, as bounds. -/
theorem clampParameter_eq (i : Fin 14) (v : Nat) :
    clampParameter i v = max (Config.parameterLow i) (min (Config.parameterHigh i) v) := by
  have range : ∀ i : Fin 14, Config.parameterLow i ≤ Config.parameterHigh i := by decide
  have := range i
  unfold clampParameter
  split_ifs <;> omega

/-- Settles O19. -/
theorem siteParametersAreClamped : Obligations.SiteParametersAreClamped := by
  have good : ∀ (tag : Byte) (ps : List (Byte × BitVec 16)), lengthGood ⟨tag, 1 + 3 * ps.length, .setSiteParameters ps⟩ = true :=
    fun tag ps => by simp [lengthGood, requiredLength]
  constructor
  · intro s tag xs h hl h1 hd held
    have hheld : ∀ x : Fin 14 × BitVec 16, clampParameter x.1 x.2.toNat = held x := fun x => clampParameter_eq _ _
    have served : s.heard.serveRequest (.setSiteParameters (xs.map fun x => (BitVec.ofNat 8 (x.1.val + 1), x.2))) =
        ⟨s.heard.setParameters (xs.map fun x => (x.1, x.2.toNat)), [],
          ⟨if xs.all (fun x => decide (held x = x.2.toNat)) then .done else .partly,
           if xs.all (fun x => decide (held x = x.2.toNat)) then .none else .clamped,
           .parameters (xs.map fun x => (x.1.val + 1, held x))⟩⟩ := by
      simp only [State.serveRequest, State.serveSetSiteParameters, State.heard_loading, State.loading_eq_false hl,
        goodParameterPairs_spelled h1 hd, Bool.false_eq_true, if_false, List.all_map, List.map_map, Function.comp_def, hheld, numberOf]
      split <;> rfl
    have hlen := good tag (xs.map fun x => (BitVec.ofNat 8 (x.1.val + 1), x.2))
    rw [List.length_map] at hlen
    have hd' : ((xs.map fun x => (x.1, x.2.toNat)).map (·.1)).Nodup := by simpa [List.map_map, Function.comp_def] using hd
    refine ⟨_, State.arrive_served h hlen served, fun x hx => ?_, fun i hi => ?_, rfl, rfl⟩
    · rw [← hheld]
      exact Tab.foldl_modify_get_of_mem (k := Prod.fst) (f := fun (x : Fin 14 × Nat) _ => clampParameter x.1 x.2) hd'
        (List.mem_map_of_mem (f := fun x : Fin 14 × BitVec 16 => (x.1, x.2.toNat)) hx) (t := s.til.params)
    · refine Tab.foldl_modify_get_of_not_mem (k := Prod.fst) (f := fun (x : Fin 14 × Nat) _ => clampParameter x.1 x.2) ?_
      simpa [List.map_map, Function.comp_def] using hi
  · intro s tag ps h hl hbad
    refine State.arrive_refused (f := ⟨tag, 1 + 3 * ps.length, .setSiteParameters ps⟩) h (good tag ps) ?_
    simp [State.serveRequest, State.serveSetSiteParameters, State.loading_eq_false hl, goodParameterPairs_eq_none hbad]

end Machine
end Sys2Proof
end

section
/-! The step (O1, O2), the host link's receiver, holding and early refusals (O3 to O5), the reports and queues (O6, O8), and requests that leave no work: READ TABLE, SET LANE, SET CLOCK, SAVE TABLES, RESET LANE and RESTART (O16, O18, O20, O21, O25, O28). -/

namespace Sys2Proof.Machine

open Sys2Proof

variable {s t : State}

/-! ### The step -/

/-- Settles O1. -/
theorem stepRunsTheFrontCommand : Obligations.StepRunsTheFrontCommand := by
  intro s c rest h
  simp only [step, h]

theorem step_idle (h : s.pending = []) : step s = idle s := by simp only [step, h]

/-- A tick of the clock touches no timer. -/
theorem State.clockTick_contexts (s : State) : s.clockTick.rd.contexts = s.rd.contexts ∧ s.clockTick.ae = s.ae := by
  unfold State.clockTick
  split
  · exact ⟨rfl, rfl⟩
  · split
    · exact ⟨rfl, rfl⟩
    · rw [State.minuteChange_eq]
      exact ⟨rfl, rfl⟩

theorem State.working_of_running (hp : s.power.phase = .running) : s.working = true := decide_eq_true hp

theorem State.tick_of_running (hp : s.power.phase = .running) : s.tick = s.timersTick.clockTick := by
  unfold State.tick State.whenWorking
  rw [if_pos (State.working_of_running hp)]

/-- Settles O2. -/
theorem idleStepPassesATenth : Obligations.IdleStepPassesATenth := by
  intro s h
  rw [step_idle h]
  unfold idle
  refine ⟨fun c hc => by rw [hc], fun hn => ?_⟩
  rw [hn]
  refine ⟨rfl, fun hp => ?_⟩
  rw [State.tick_of_running hp]
  obtain ⟨hctx, hae⟩ := s.timersTick.clockTick_contexts
  refine ⟨by rw [hae]; rfl, fun i => ?_⟩
  simp only [State.ctx, hctx]
  simp only [State.timersTick, Tab.get_map]
  rfl

/-! ### The receiver -/

theorem State.listens_of_running (hp : s.power.phase = .running) (hr : s.hlu.restarting = false) : s.listens = true := by
  simp [State.listens, State.working, hp, hr]

/-- A frame discarded in its course. -/
theorem State.discardFrame_inFrame (hl : s.listens = true) (hi : s.hlu.receiver = .inFrame) (f : LinkErrors → LinkErrors) :
    s.discardFrame f = { s with hlu := { s.hlu with receiver := .hunting, errors := f s.hlu.errors } } := by
  simp [State.discardFrame, hl, hi, State.setReceiver, State.countError]

theorem State.discardFrame_hunting (hi : s.hlu.receiver = .hunting) (f : LinkErrors → LinkErrors) : s.discardFrame f = s := by
  simp [State.discardFrame, hi]

theorem countUp_eq (n : Nat) : countUp n = min 65535 (n + 1) := by
  unfold countUp saturating
  split <;> omega

/-- A code that spells no request is none of 1..24. -/
theorem readRequest_unknown {code c : Byte} {b : List Byte} (h : readRequest code b = .unknown c) : c.toNat < 1 ∨ 24 < c.toNat := by
  unfold readRequest at h
  by_contra hc
  have hcode : code = c → 1 ≤ code.toNat ∧ code.toNat ≤ 24 := by
    rintro rfl
    omega
  split at h
  case h_25 =>
    cases h
    obtain ⟨h1, h2⟩ := hcode rfl
    interval_cases hk : code.toNat <;> simp_all
  all_goals cases h

theorem execHostFrameComplete_good {f : RawFrame} (hl : s.listens = true) (hi : s.hlu.receiver = .inFrame)
    (hc : crc16 (coveredBytes f) = f.check) : exec (.hostFrameComplete f) s = s.arrive (frameOf f) := by
  show execHostFrameComplete f s = _
  unfold execHostFrameComplete checkGood
  rw [if_pos (by simp [hl, hi]), if_pos (decide_eq_true hc)]

theorem execHostFrameComplete_bad {f : RawFrame} (hl : s.listens = true) (hi : s.hlu.receiver = .inFrame)
    (hc : crc16 (coveredBytes f) ≠ f.check) :
    exec (.hostFrameComplete f) s = .next (s.discardFrame fun e => { e with check := countUp e.check }) := by
  show execHostFrameComplete f s = _
  unfold execHostFrameComplete checkGood
  rw [if_pos (by simp [hl, hi]), if_neg (by simpa using hc)]

/-- UPLINK STATE of value ONLINE. -/
theorem State.serveUplinkState_online (hl : s.til.load ≠ .loading) :
    s.serveUplinkState 1 = ⟨{ s with ae := { s.ae with online := true } }, [], .done .nothing⟩ := by
  unfold State.serveUplinkState
  rw [State.loading_eq_false hl, if_neg Bool.false_ne_true, if_pos rfl]

/-- Settles O3. -/
theorem receiverChecksFrames : Obligations.ReceiverChecksFrames := by
  constructor
  · intro s hp hr
    have hl := State.listens_of_running hp hr
    refine ⟨?_, fun hh => ?_, fun hi => ⟨?_, ?_, fun n hn => ?_⟩⟩
    · show Host.Outcome.next _ = _
      rw [if_pos hl]
      rfl
    · show Host.Outcome.next _ = _
      rw [State.discardFrame_hunting hh]
    · show Host.Outcome.next _ = _
      rw [State.discardFrame_inFrame hl hi, countUp_eq]
    · show Host.Outcome.next _ = _
      rw [State.discardFrame_inFrame hl hi, countUp_eq]
    · show Host.Outcome.next _ = _
      rw [if_pos hn, State.discardFrame_inFrame hl hi, countUp_eq]
  · intro s f hp hr hi
    have hl := State.listens_of_running hp hr
    refine ⟨fun hc => ?_, fun hc => ?_⟩
    · rw [execHostFrameComplete_bad hl hi hc, State.discardFrame_inFrame hl hi, countUp_eq]
    · rw [execHostFrameComplete_good hl hi hc]
      refine ⟨(exec_commandOf (f := frameOf f) (fun code h => readRequest_unknown h) s).symm, fun ha hload hcode hbody => ?_⟩
      have request : (frameOf f).request = .uplinkState 1 := by
        simp only [frameOf, hcode, hbody]
        rfl
      have good : lengthGood (frameOf f) = true := by
        unfold lengthGood
        rw [request]
        simp [requiredLength, frameOf, hbody]
      have served : s.heard.serveRequest (frameOf f).request = ⟨{ s.heard with ae := { s.heard.ae with online := true } }, [], .done .nothing⟩ := by
        rw [request]
        exact State.serveUplinkState_online (s := s.heard) hload
      rw [State.arrive_served ⟨hp, hr, ha⟩ good served, request]
      rfl

/-- A valid frame that arrives while a request is answered. -/
theorem State.receive_busy (ha : s.hlu.answering.isSome = true) (f : HostFrame) :
    s.receive f = if s.hlu.holding.length < 2
      then ({ s.heard with hlu := { s.heard.hlu with holding := s.hlu.holding ++ [f] } }, [])
      else ({ s.heard with hlu := { s.heard.hlu with
        errors := { s.heard.hlu.errors with overrun := countUp s.hlu.errors.overrun } } }, []) := by
  have busy : ¬ s.heard.hlu.answering.isNone = true := by
    rw [State.heard_hlu_answering]
    cases h : s.hlu.answering with
    | none => rw [h] at ha; cases ha
    | some _ => exact Bool.false_ne_true
  exact if_neg busy

/-- Settles O4. -/
theorem framesWaitWhileARequestIsAnswered : Obligations.FramesWaitWhileARequestIsAnswered := by
  intro s f hp hr ha hf
  have hl := State.listens_of_running hp hr
  rw [exec_commandOf hf]
  unfold State.arrive
  rw [if_pos hl, State.receive_busy ha]
  refine ⟨fun h => ?_, fun h => ?_⟩
  · rw [if_pos h]
    exact finish_nil _
  · rw [if_neg (Nat.not_lt.mpr h), ← countUp_eq]
    exact finish_nil _

/-! ### Refusals before the blocks -/

theorem answerCode_of_small {code : Byte} (h : code.toNat < 0x80) : answerCode code = code + 0x80 := if_pos h

/-- A request whose layout has a length has a code below 0x80. -/
theorem requestCode_small {q : Request} {n : Nat} (h : requiredLength q = some n) : (requestCode q).toNat < 0x80 := by
  cases q
  case unknown code => cases h
  all_goals simp [requestCode]

theorem requiredLength_known {q : Request} {n : Nat} (h : requiredLength q = some n) (code : Byte) : q ≠ .unknown code := by
  rintro rfl
  cases h

/-- What is not taken in LOADING is refused in it. -/
theorem State.serveRequest_loading (hl : s.til.load = .loading) {q : Request} (hq : takenInLoading q = false) :
    s.serveRequest q = s.refuse .loading := by
  have loading := State.loading_eq_true hl
  cases q <;> cases hq
  all_goals
    simp only [State.serveRequest, State.serveNextAuth, State.serveAuthResult, State.serveUplinkState,
      State.serveSetEventLevels, State.serveReadCapture, State.serveClearCapture, State.serveLoadTable,
      State.serveReadTable, State.serveSetPrices, State.serveSetLane, State.serveSetSiteParameters,
      State.serveSaveTables, State.serveStopLane, State.serveCancelTransaction, State.serveResetLane,
      State.serveAllStop, State.serveAllResume, State.serveRestart, loading, if_true]

/-- Settles O5. -/
theorem requestsAreRefusedBeforeTheirBlocks : Obligations.RequestsAreRefusedBeforeTheirBlocks := by
  intro s f h
  refine ⟨fun code hq hc => ?_, fun n hn hlen => ?_, fun hl hq hlen => ?_⟩
  · rw [exec_commandOf fun c hc' => by rw [hq] at hc'; cases hc'; exact hc]
    have good : lengthGood f = true := by rw [lengthGood, hq]; rfl
    refine (State.arrive_refused h good (why := .unknownRequest) (by rw [hq]; rfl)).trans ?_
    rw [hq]
    rfl
  · rw [exec_commandOf fun code hc => absurd hc (requiredLength_known hn code)]
    have bad : lengthGood f = false := by
      rw [lengthGood, hn]
      exact decide_eq_false hlen
    rw [State.arrive_takes h, State.serveFrame, bad, if_neg Bool.false_ne_true, answerCode_of_small (requestCode_small hn)]
    exact finish_nil _
  · rw [exec_commandOf fun code hc => absurd hc (requiredLength_known hlen code)]
    have good : lengthGood f = true := by
      rw [lengthGood, hlen]
      exact decide_eq_true rfl
    rw [State.arrive_refused h good (State.serveRequest_loading (s := s.heard) hl hq), answerCode_of_small (requestCode_small hlen)]

/-! ### Reports and queues -/

/-- Settles O6. -/
theorem reportsDescribeThePart : Obligations.ReportsDescribeThePart := by
  refine ⟨fun s tag h => ?_, fun s tag h => ⟨fun l => ?_, fun lane hlane => ?_, ?_⟩⟩
  · exact State.arrive_served (f := ⟨tag, 0, .status⟩) h rfl rfl
  · refine State.arrive_served (f := ⟨tag, 1, .laneState (BitVec.ofNat 8 (l.val + 1))⟩) h rfl ?_
    simp only [State.serveRequest, State.serveLaneState, idOf_byte l (by decide)]
    rfl
  · refine State.arrive_refused (f := ⟨tag, 1, .laneState lane⟩) h rfl ?_
    simp only [State.serveRequest, State.serveLaneState, idOf_eq_none hlane]
  · exact State.arrive_served (f := ⟨tag, 0, .linkState⟩) h rfl rfl

/-- Settles O8. -/
theorem queuesGiveTheirHeads : Obligations.QueuesGiveTheirHeads := by
  refine ⟨fun s tag h => ⟨fun r rest hr => ?_, fun hr => ?_⟩, fun s tag h => ⟨fun e rest he => ?_, fun he => ?_⟩⟩
  · refine State.arrive_served (f := ⟨tag, 0, .nextRecord⟩) h rfl ?_
    simp only [State.serveRequest, State.serveNextRecord, State.heard_rd, hr]
    rfl
  · refine State.arrive_served (f := ⟨tag, 0, .nextRecord⟩) h rfl ?_
    simp only [State.serveRequest, State.serveNextRecord, State.heard_rd, hr]
    rfl
  · refine State.arrive_served (f := ⟨tag, 0, .nextEvent⟩) h rfl ?_
    simp only [State.serveRequest, State.serveNextEvent, State.heard_reu, he]
    rfl
  · refine State.arrive_served (f := ⟨tag, 0, .nextEvent⟩) h rfl ?_
    simp only [State.serveRequest, State.serveNextEvent, State.heard_reu, he]
    rfl

/-! ### READ TABLE -/

theorem tableNameOf_eq_none {code : Nat} (h : code < 1 ∨ 4 < code) : tableNameOf code = none := by
  unfold tableNameOf
  split <;> first | omega | rfl

/-- The service of a READ TABLE of a known table. -/
theorem State.serveReadTable_known (hl : s.til.load ≠ .loading) {table start count : Byte} {name : TableName}
    (hn : tableNameOf table.toNat = some name) :
    s.serveReadTable table start count = ⟨s, [], if 1 ≤ count.toNat ∧ count.toNat ≤ 8 ∧ start.toNat < name.size then
      .done (.entries (s.tableEntries start.toNat count.toNat name)) else .refused .badValue⟩ := by
  unfold State.serveReadTable
  rw [State.loading_eq_false hl, if_neg Bool.false_ne_true, hn]
  by_cases hc : 1 ≤ count.toNat ∧ count.toNat ≤ 8 ∧ start.toNat < name.size
  · obtain ⟨h1, h8, hs⟩ := hc
    simp [h1, h8, hs]
  · rw [if_neg hc]
    refine if_neg fun e => hc ?_
    simpa [and_assoc] using e

/-- Settles O16. -/
theorem readTableReturnsEntries : Obligations.ReadTableReturnsEntries := by
  intro s tag start count h hl
  constructor
  · have read : ∀ (code size : Nat) (es : TableEntries) (name : TableName), tableNameOf (BitVec.ofNat 8 code).toNat = some name →
        name.size = size → s.tableEntries start.toNat count.toNat name = es →
        exec (.readTable tag 3 (BitVec.ofNat 8 code) start count) s = .next (s.heard.replied 0x8D tag
          (if 1 ≤ count.toNat ∧ count.toNat ≤ 8 ∧ start.toNat < size then ⟨.done, .none, .entries es⟩
           else ⟨.refused, .badValue, .nothing⟩)) := by
      rintro code size es name hn rfl rfl
      exact State.arrive_served (f := ⟨tag, 3, .readTable (BitVec.ofNat 8 code) start count⟩) h rfl
        (State.serveReadTable_known (s := s.heard) hl hn)
    intro code size es hmem
    simp only [List.mem_cons, List.not_mem_nil, or_false, Prod.mk.injEq] at hmem
    rcases hmem with ⟨rfl, rfl, rfl⟩ | ⟨rfl, rfl, rfl⟩ | ⟨rfl, rfl, rfl⟩ | ⟨rfl, rfl, rfl⟩
    · exact read _ _ _ .range rfl rfl rfl
    · exact read _ _ _ .program rfl rfl rfl
    · exact read _ _ _ .deny rfl rfl rfl
    · exact read _ _ _ .product rfl rfl rfl
  · intro code hc
    refine State.arrive_refused (f := ⟨tag, 3, .readTable code start count⟩) h rfl ?_
    simp [State.serveRequest, State.serveReadTable, State.loading_eq_false hl, tableNameOf_eq_none hc]

/-! ### SET LANE -/

theorem channelOf_eq_none {f : LaneChannelFields} (hp : f.present = true)
    (h : f.head.toNat < 1 ∨ 24 < f.head.toNat ∨ f.headChannel.toNat < 1 ∨ 2 < f.headChannel.toNat ∨ f.product.toNat < 1 ∨
      8 < f.product.toNat ∨ f.k.toNat < 10 ∨ 1000 < f.k.toNat) : channelOf f = none := by
  unfold channelOf
  rw [if_pos hp]
  split
  · rename_i hh hhc hpr
    refine if_neg ?_
    have head := idOf_some hh
    have product := idOf_some hpr
    have channel : 1 ≤ f.headChannel.toNat ∧ f.headChannel.toNat ≤ 2 := by
      unfold headChannelOf at hhc
      split at hhc <;> first | omega | cases hhc
    omega
  · rfl

theorem laneConfigOf_eq_none {b : SetLaneBody}
    (h : b.lane.toNat < 1 ∨ 12 < b.lane.toNat ∨ 8 < b.terminal.toNat ∨
      (∃ ch : Channel, (b.channels.get ch).present = true ∧
        ((b.channels.get ch).head.toNat < 1 ∨ 24 < (b.channels.get ch).head.toNat ∨ (b.channels.get ch).headChannel.toNat < 1 ∨
          2 < (b.channels.get ch).headChannel.toNat ∨ (b.channels.get ch).product.toNat < 1 ∨
          8 < (b.channels.get ch).product.toNat ∨ (b.channels.get ch).k.toNat < 10 ∨ 1000 < (b.channels.get ch).k.toNat))) :
    laneConfigOf b = none := by
  unfold laneConfigOf
  split
  · rename_i hl ht ha hb hc
    have lane := idOf_some hl
    have terminal : b.terminal.toNat ≤ 8 := by
      unfold terminalOf at ht
      split at ht
      · rename_i h0
        rw [h0]
        decide
      · obtain ⟨i, hi, -⟩ := Option.map_eq_some_iff.mp ht
        have := idOf_some hi
        omega
    rcases h with h | h | h | ⟨ch, hp, hbad⟩
    · omega
    · omega
    · omega
    · have bad := channelOf_eq_none hp hbad
      cases ch <;> simp_all [Triple.get]
  · rfl

theorem LaneState.busy_iff (x : LaneState) : x.busy = true ↔ x = .inUse ∨ x = .faultStop ∨ x = .locked := by
  cases x <;> simp [LaneState.busy]

theorem stateAfterOpen_eq (b : Bool) (x : LaneState) :
    stateAfterOpen b x = if x = .closed ∨ x = .idle then (if b = true then .idle else .closed) else x := by
  cases x <;> rfl

theorem LaneConfig.sameButOpen_iff (x y : LaneConfig) : x.sameButOpen y = true ↔ x.terminal = y.terminal ∧ x.channels = y.channels := by
  simp [LaneConfig.sameButOpen]

/-- The lane that a SET LANE leaves. -/
theorem Lane.configure_eq (x : Lane) (c : LaneConfig) : x.configure c = { x with
    config := c
    state := if x.state = .closed ∨ x.state = .idle then (if c.isOpen then .idle else .closed) else x.state
    channels := .build fun ch =>
      if (x.config.channels.get ch).map (fun z => (z.head, z.headChannel)) =
          (c.channels.get ch).map (fun z => (z.head, z.headChannel)) then x.channels.get ch
      else { x.channels.get ch with nozzle := .unknown, quiet := 0 } } := by
  simp only [Lane.configure, stateAfterOpen_eq, channelMoved, decide_eq_true_eq, ne_eq, ite_not]

/-- Settles O18. -/
theorem setLaneWritesTheConfiguration : Obligations.SetLaneWritesTheConfiguration := by
  constructor
  · intro s tag b l c h hl hs hc hd ht hstate x
    have calm : ((s.lane l).state.busy && !(s.lane l).config.sameButOpen c) = false := by
      rcases hstate with hstate | hstate | hstate
      · rw [hstate]; rfl
      · rw [hstate]; rfl
      · rw [((s.lane l).config.sameButOpen_iff c).mpr hstate, Bool.not_true, Bool.and_false]
    refine State.arrive_served (f := ⟨tag, 21, .setLane b⟩) h rfl (r := .done .nothing) ?_
    rw [← Lane.configure_eq]
    have hd' : channelsDistinct (s.heard.configsWith l c) = true := hd
    have ht' : terminalFits (s.heard.configsWith l c) c.terminal = true := ht
    have loading : s.heard.loading = false := State.loading_eq_false (s := s.heard) hl
    have saving : s.heard.saving = false := congrArg Option.isSome hs
    simp only [State.serveRequest, State.serveSetLane, loading, saving, hc, hd', ht', State.heard_lane, calm,
      Bool.false_eq_true, if_false, Bool.and_self, Bool.not_true]
    rfl
  · intro s tag b h hl refused
    have answer : ∀ why, s.heard.serveSetLane b = s.heard.refuse why → refused why := fun why hw =>
      State.arrive_refused (f := ⟨tag, 21, .setLane b⟩) h rfl hw
    have loading : s.heard.loading = false := State.loading_eq_false (s := s.heard) hl
    refine ⟨fun hs => answer _ ?_, fun hs => ?_⟩
    · have saving : s.heard.saving = true := hs
      simp [State.serveSetLane, loading, saving]
    · have saving : s.heard.saving = false := by rw [State.heard_saving, State.saving, hs]; rfl
      refine ⟨fun hbad => answer _ ?_, fun l c hc => ⟨fun hbad => answer _ ?_, fun hd ht hstate hmore => answer _ ?_⟩⟩
      · simp [State.serveSetLane, loading, saving, laneConfigOf_eq_none hbad]
      · have bad : (channelsDistinct (s.heard.configsWith l c) && terminalFits (s.heard.configsWith l c) c.terminal) = false := by
          rcases hbad with hbad | hbad
          · exact Bool.and_eq_false_iff.mpr (.inl hbad)
          · exact Bool.and_eq_false_iff.mpr (.inr hbad)
        simp [State.serveSetLane, loading, saving, hc, bad]
      · have good : (channelsDistinct (s.heard.configsWith l c) && terminalFits (s.heard.configsWith l c) c.terminal) = true := by
          rw [Bool.and_eq_true]
          exact ⟨hd, ht⟩
        have busy : ((s.heard.lane l).state.busy && !(s.heard.lane l).config.sameButOpen c) = true := by
          rw [State.heard_lane, ((s.lane l).state.busy_iff).mpr hstate, Bool.true_and, Bool.not_eq_true']
          exact Bool.eq_false_iff.mpr fun e => by
            obtain ⟨h1, h2⟩ := ((s.lane l).config.sameButOpen_iff c).mp e
            exact hmore.elim (· h1) (· h2)
        simp only [State.serveSetLane, loading, saving, hc, good, busy, Bool.false_eq_true, if_false, Bool.not_true, if_true]

/-! ### SET CLOCK -/

theorem daysIn_eq {y m : Nat} (h1 : 1 ≤ m) (h2 : m ≤ 12) :
    daysIn y m = if m = 2 then (if y % 4 = 0 then 29 else 28) else if m ∈ [4, 6, 9, 11] then 30 else 31 := by
  interval_cases m <;> rfl

/-- Settles O20. -/
theorem setClockIsChecked : Obligations.SetClockIsChecked := by
  intro s tag b h days legal
  have iff : (readingOf b).legal = true ↔ legal := by
    unfold DateTime.legal
    rw [decide_eq_true_iff]
    constructor
    · rintro ⟨h1, h2, h3, h4, h5, h6, h7⟩
      exact ⟨h1, h2, h3, h4, h5, h6.trans_eq (daysIn_eq h3 h4), h7⟩
    · rintro ⟨h1, h2, h3, h4, h5, h6, h7⟩
      exact ⟨h1, h2, h3, h4, h5, h6.trans_eq (daysIn_eq h3 h4).symm, h7⟩
  refine ⟨fun hg => ?_, fun hg => ?_⟩
  · exact State.arrive_served (f := ⟨tag, 7, .setClock b⟩) h rfl (if_pos (iff.mpr hg))
  · exact State.arrive_refused (f := ⟨tag, 7, .setClock b⟩) h rfl (if_neg (mt iff.mp hg))

/-! ### SAVE TABLES -/

/-- Settles O21. -/
theorem saveCopiesAndEnds : Obligations.SaveCopiesAndEnds := by
  intro s
  refine ⟨fun tag h hl hs => ?_, fun tag h hl hs => ?_, fun body hp hb => ⟨?_, fun why => ?_⟩⟩
  · have loading : s.heard.loading = false := State.loading_eq_false (s := s.heard) hl
    have saving : s.heard.saving = false := congrArg Option.isSome hs
    have served : s.heard.serveRequest .saveTables =
        ⟨{ s.heard with til := { s.heard.til with save := some s.heard.imageCopy, flash := none } }, [], .done .nothing⟩ := by
      simp only [State.serveRequest, State.serveSaveTables, loading, saving, Bool.false_eq_true, if_false]
    exact (State.arrive_served (f := ⟨tag, 0, .saveTables⟩) h rfl served).trans rfl
  · refine State.arrive_refused (f := ⟨tag, 0, .saveTables⟩) h rfl ?_
    have loading : s.heard.loading = false := State.loading_eq_false (s := s.heard) hl
    have saving : s.heard.saving = true := hs
    simp only [State.serveRequest, State.serveSaveTables, loading, saving, Bool.false_eq_true, if_false, if_true]
  · show Host.Outcome.next _ = _
    rw [State.whenWorking, if_pos (State.working_of_running hp), hb]
    dsimp only
    rw [State.saveDone, FlashImage.write_checkGood, if_pos rfl]
    rfl
  · show Host.Outcome.next _ = _
    rw [State.whenWorking, if_pos (State.working_of_running hp), State.saving, hb, Option.isSome_some, if_pos rfl]
    cases why <;> rfl

/-! ### RESET LANE -/

/-- The lane is safe: its present channels quiet, their heads ONLINE. -/
theorem State.laneSafe_iff (s : State) (l : LaneId) : (s.laneHeadsOnline l && s.laneQuiet l) = true ↔
    ∀ (ch : Channel) (y : ChannelSetup), s.setup l ch = some y →
      (s.head y.head).online = true ∧ ((s.lane l).channels.get ch).quiet = 2 := by
  have letters : ∀ ch, ch ∈ Channel.letters := by intro ch; cases ch <;> decide
  simp only [State.laneHeadsOnline, State.laneQuiet, Bool.and_eq_true, List.all_eq_true]
  constructor
  · rintro ⟨h1, h2⟩ ch y hy
    have on := h1 ch (letters ch)
    have quiet := h2 ch (letters ch)
    rw [hy] at on quiet
    exact ⟨by simpa using on, by simpa using quiet⟩
  · intro h
    refine ⟨fun ch _ => ?_, fun ch _ => ?_⟩
    · cases hy : s.setup l ch with
      | none => rfl
      | some y => simpa using (h ch y hy).1
    · cases hy : s.setup l ch with
      | none => rfl
      | some y => simpa using (h ch y hy).2

/-- Settles O25. -/
theorem resetLaneEndsASafeLock : Obligations.ResetLaneEndsASafeLock := by
  intro s tag h hl
  have loading : s.heard.loading = false := State.loading_eq_false (s := s.heard) hl
  refine ⟨fun n hn => ?_, fun l => ?_⟩
  · refine State.arrive_refused (f := ⟨tag, 1, .resetLane n⟩) h rfl ?_
    simp [State.serveRequest, State.serveResetLane, loading, idOf_eq_none hn]
  · intro x safe
    have byte := idOf_byte l (by decide)
    have hsafe := s.heard.laneSafe_iff l
    refine ⟨fun hx hs => ?_, fun hx hs => ?_, fun hx => ?_⟩
    · refine State.arrive_served (f := ⟨tag, 1, .resetLane (BitVec.ofNat 8 (l.val + 1))⟩) h rfl (r := .done .nothing) ?_
      have hx' : (s.heard.lane l).state = .locked := hx
      simp only [State.serveRequest, State.serveResetLane, loading, byte, hx', hsafe.mpr hs, Bool.false_eq_true, if_false, ne_eq,
        not_true_eq_false, if_true]
      have free : s.heard.freeLaneState l = if x.config.isOpen then .idle else .closed := by
        have : (decide (s.til.load ≠ .loading)) = true := decide_eq_true hl
        show (if x.config.isOpen && decide (s.til.load ≠ .loading) then LaneState.idle else .closed) = _
        rw [this, Bool.and_true]
      simp only [State.unlockLane, Lane.reset, Lane.clearFault, free]
      have channels : ((s.heard.lane l).channels.map fun y => { y with faultClose := .none, faultSettle := none }).map
          (fun y => { y with quiet := 0 }) = x.channels.map fun y => { y with quiet := 0, faultClose := .none, faultSettle := none } := rfl
      simp only [State.modLane, channels]
      rfl
    · refine State.arrive_refused (f := ⟨tag, 1, .resetLane (BitVec.ofNat 8 (l.val + 1))⟩) h rfl ?_
      have hx' : (s.heard.lane l).state = .locked := hx
      simp only [State.serveRequest, State.serveResetLane, loading, byte, hx', mt hsafe.mp hs, Bool.false_eq_true, if_false, ne_eq,
        not_true_eq_false]
    · refine State.arrive_refused (f := ⟨tag, 1, .resetLane (BitVec.ofNat 8 (l.val + 1))⟩) h rfl ?_
      have hx' : (s.heard.lane l).state ≠ .locked := hx
      simp only [State.serveRequest, State.serveResetLane, loading, byte, hx', Bool.false_eq_true, if_false, ne_eq,
        not_false_eq_true, if_true]

/-! ### RESTART and the reply sent -/

/-- A reply sent where no RESTART was taken. -/
theorem execHostReplySent_eq (hp : s.power.phase = .running) (ha : s.hlu.answering.isSome = true) (hr : s.hlu.restarting = false) :
    exec .hostReplySent s = finish ({ s with hlu := { s.hlu with answering := none } } : State).takeHeld.2
      ({ s with hlu := { s.hlu with answering := none } } : State).takeHeld.1 := by
  have busy : (s.working && s.hlu.answering.isSome) = true := by rw [State.working, decide_eq_true hp, ha]; rfl
  show execHostReplySent s = _
  simp only [execHostReplySent, State.setAnswering, busy, if_true, hr, Bool.false_eq_true, if_false]

/-- Settles O28. -/
theorem restartFollowsItsReply : Obligations.RestartFollowsItsReply := by
  intro s
  refine ⟨fun tag h hl => ⟨fun hs => ?_, fun hs => ?_⟩, fun hp hr f => ?_, fun hp ha => ⟨fun hr => ?_, fun hr hh => ?_, ?_⟩⟩
  · have loading : s.heard.loading = false := State.loading_eq_false (s := s.heard) hl
    have saving : s.heard.saving = false := congrArg Option.isSome hs
    have served : s.heard.serveRequest .restart =
        ⟨{ s.heard with hlu := { s.heard.hlu with restarting := true } }, [], .done .nothing⟩ := by
      simp only [State.serveRequest, State.serveRestart, loading, saving, Bool.false_eq_true, if_false]
    exact (State.arrive_served (f := ⟨tag, 0, .restart⟩) h rfl served).trans rfl
  · refine State.arrive_refused (f := ⟨tag, 0, .restart⟩) h rfl ?_
    have loading : s.heard.loading = false := State.loading_eq_false (s := s.heard) hl
    have saving : s.heard.saving = true := hs
    simp only [State.serveRequest, State.serveRestart, loading, saving, Bool.false_eq_true, if_false, if_true]
  · have deaf : s.listens = false := by simp [State.listens, hr]
    have arrive : ∀ f, s.arrive f = .next s := fun f => by simp [State.arrive, deaf]
    by_cases hf : ∀ code, f.request = .unknown code → code.toNat < 1 ∨ 24 < code.toNat
    · rw [exec_commandOf hf, arrive]
    · push Not at hf
      obtain ⟨code, hq, hc⟩ := hf
      have known : isUnknownCode code = false := decide_eq_false (by omega)
      obtain ⟨tag, length, q⟩ := f
      subst hq
      show execUnknownRequest tag length code s = _
      simp [execUnknownRequest, known]
  · have busy : (s.working && s.hlu.answering.isSome) = true := by rw [State.working, decide_eq_true hp, ha]; rfl
    show execHostReplySent s = _
    simp only [execHostReplySent, State.setAnswering, busy, if_true, hr]
    rfl
  · rw [execHostReplySent_eq hp ha hr]
    simp only [State.takeHeld, hh]
    exact finish_nil _
  · intro f rest hr hh r answered
    have sent : exec .hostReplySent s = finish r.works answered := by
      rw [execHostReplySent_eq hp ha hr]
      simp only [State.takeHeld, hh]
      rfl
    refine ⟨fun hw => by rw [sent, hw, finish_nil], sent, fun hs hf => ?_⟩
    rw [sent, exec_commandOf hf]
    have heard : ({ s with hlu := { s.hlu with answering := none, holding := rest } } : State).heard =
        { s with hlu := { s.hlu with answering := none, holding := rest } } := by
      have receiver : s.hlu.receiver = .hunting := (congrArg (fun u : State => u.hlu.receiver) hs).symm
      have silence : s.ae.silence = some ⟨10 * s.til.params.get 11, 10 * s.til.params.get 11⟩ :=
        (congrArg (fun u : State => u.ae.silence) hs).symm
      simp only [State.heard, ← silence, ← receiver]
    rw [State.arrive_takes (s := { s with hlu := { s.hlu with answering := none, holding := rest } }) ⟨hp, hr, rfl⟩, heard]

end Sys2Proof.Machine
end

section
/-! Power and starts: the pins and supplies (O47), the table load's end (O22), warm and cold starts (O48), and the state after reset (O60). -/

namespace Sys2Proof.Machine

open Sys2Proof

variable {s t : State}

/-! ### What the links touch as they begin -/

theorem State.chooseTerminal_only (s : State) : ∃ x, s.chooseTerminal = { s with tlu := x } := by
  unfold State.chooseTerminal
  split
  · exact ⟨_, rfl⟩
  · split
    · exact ⟨_, rfl⟩
    · split <;> exact ⟨_, rfl⟩

theorem State.pollHead_only (s : State) (h : HeadId) (active : Bool) (n : Nat) :
    ∃ x, s.pollHead h active n = { s with dlu := x } := by
  unfold State.pollHead
  dsimp only
  split <;> exact ⟨_, rfl⟩

theorem State.choosePoll_only (s : State) : ∃ x, s.choosePoll = { s with dlu := x } := by
  unfold State.choosePoll
  split <;> split <;> first | exact s.pollHead_only _ _ _ | exact ⟨_, rfl⟩

theorem State.choose_only (s : State) : ∃ x, s.choose.1 = { s with dlu := x } := by
  unfold State.choose
  split
  · exact ⟨_, rfl⟩
  · split
    · exact s.choosePoll_only
    · split
      · exact ⟨_, rfl⟩
      · split <;> exact ⟨_, rfl⟩

/-- The start of the links touches the two links alone. -/
theorem State.startLinks_only (s : State) : ∃ x y, s.startLinks = { s with tlu := x, dlu := y } := by
  obtain ⟨x, hx⟩ := s.chooseTerminal_only
  obtain ⟨y, hy⟩ := s.chooseTerminal.choose_only
  exact ⟨x, y, by rw [State.startLinks, hy, hx]⟩

/-! ### The pins and the supplies -/

theorem Retained.unmatched_check (r : Retained) : ∃ k, k ≠ r.crc ∧ r.unmatched = { r with check := k } := by
  have h := r.unmatched_matches
  refine ⟨r.unmatched.check, fun e => ?_, rfl⟩
  have : r.unmatched.matches = true := decide_eq_true e
  rw [h] at this
  cases this

theorem State.abandonSave_eq (s : State) : s.abandonSave =
    { s with til := if s.til.save.isSome = true then { s.til with save := none, flash := none } else s.til } := by
  unfold State.abandonSave
  split <;> rfl

theorem exec_powerUp_off (h : s.power.phase = .off) :
    exec .powerUp s = .next ({ s with power := { s.power with pfailLow := false } } : State).beginStart :=
  congrArg Host.Outcome.next (if_pos h)

theorem exec_pfailAssert_running (hp : s.power.phase = .running) : exec .pfailAssert s = .next { s with
    dlu := { s.dlu with line := .haltAll none, haltPending := true }
    tlu := { s.tlu with line := .quiet }
    hlu := { s.hlu with receiver := .hunting, answering := none }
    til := if s.til.save.isSome = true then { s.til with save := none, flash := none } else s.til
    rd := { s.rd with check := s.rd.crc }
    power := { s.power with pfailLow := true, phase := .frozen } } := by
  show execPfailAssert s = _
  simp only [execPfailAssert, hp, State.freeze, State.abandonSave_eq]
  rfl

theorem exec_mainPowerLoss_running (hp : s.power.phase = .running) :
    exec .mainPowerLoss s = .next s.abandonSave.lostUnwarned := by
  show execMainPowerLoss s = _
  simp only [execMainPowerLoss, hp]

/-- Settles O47. -/
theorem powerFollowsItsPins : Obligations.PowerFollowsItsPins := by
  intro s held til off
  obtain ⟨k, hk, unmatched⟩ := s.rd.unmatched_check
  refine ⟨fun hp => ?_, fun hp => ⟨?_, ?_⟩, fun hp => ⟨?_, k, hk, ?_⟩, fun hp => ⟨?_, fun hl => ⟨k, hk, ?_⟩⟩, fun hp => ?_,
    fun hp => ?_, fun hp => ?_, fun hp => ?_, fun hp => ?_, fun hp => ?_, fun hp => ?_, fun hp => ?_⟩
  · refine ⟨exec_powerUp_off hp, ?_, ?_⟩
    · exact congrArg Host.Outcome.next (if_pos hp)
    · show execMainPowerLoss s = _
      simp only [execMainPowerLoss, hp]
  · exact congrArg Host.Outcome.next (if_neg hp)
  · exact congrArg Host.Outcome.next (if_neg hp)
  · exact exec_pfailAssert_running hp
  · rw [exec_mainPowerLoss_running hp, State.abandonSave_eq, State.lostUnwarned, unmatched]
    rfl
  · show execPfailAssert s = _
    simp only [execPfailAssert, hp]
    rfl
  · show execMainPowerLoss s = _
    simp only [execMainPowerLoss, hp, hl, State.lostUnwarned, unmatched]
    rfl
  · show execMainPowerLoss s = _
    rcases hp with hp | ⟨hp, hl⟩
    · simp only [execMainPowerLoss, hp]
      rfl
    · simp only [execMainPowerLoss, hp, hl, if_true]
      rfl
  · show execPfailAssert s = _
    rcases hp with hp | hp <;> simp only [execPfailAssert, hp]
  · exact congrArg Host.Outcome.next (if_pos hp)
  · exact congrArg Host.Outcome.next (if_neg hp)
  · show execRstAssert s = _
    rcases hp with hp | hp <;> simp only [execRstAssert, hp, State.abandonSave_eq] <;> rfl
  · show execRstAssert s = _
    rcases hp with hp | hp <;> simp only [execRstAssert, hp]
  · exact congrArg Host.Outcome.next (if_pos hp)
  · exact congrArg Host.Outcome.next (if_neg hp)

/-! ### The end of the table load -/

theorem exec_tableLoadEnd (hp : s.power.phase = .running) (hl : s.til.load = .loading) (answered : Bool) :
    exec (.tableLoadEnd answered) s = .next (s.endLoad answered).startRecovery := by
  show Host.Outcome.next _ = _
  rw [State.whenWorking, if_pos (State.working_of_running hp), if_pos (State.loading_eq_true hl)]

/-- The recovery timers of contexts in RECOVERING. -/
theorem State.startRecovery_ctx (s : State) (i : ContextId) : s.startRecovery.ctx i =
    if (s.ctx i).state = .recovering then
      { s.ctx i with deadline := some ⟨10 * s.til.params.get 10, 10 * s.til.params.get 10⟩ } else s.ctx i := by
  simp only [State.startRecovery, State.ctx, Tab.get_map]
  rfl

theorem Lane.load_eq (x : Lane) (c : LaneConfig) (prices : Tab 8 Nat) (bound : Option ContextId) :
    x.load c prices bound.isSome = { x with
      config := c
      prices := prices
      state := if x.state = .closed ∧ bound = none ∧ c.isOpen = true then .idle else x.state } := by
  cases bound <;> simp [Lane.load]

/-- Settles O22. -/
theorem tableLoadEnds : Obligations.TableLoadEnds := by
  intro s hp hl
  refine ⟨fun f hf hlen hcrc => ?_, fun answered detail hd => ?_⟩
  · have good : f.checkGood = true := decide_eq_true hcrc
    have read : readImage true s.til.flash = .ok f.body := by
      rw [hf]
      simp only [readImage, Bool.not_true, Bool.false_eq_true, if_false, hlen, good, if_true]
      rfl
    have load : s.endLoad true = s.loadImage f.body := by rw [State.endLoad, read]
    refine ⟨(s.loadImage f.body).startRecovery, by rw [exec_tableLoadEnd hp hl, load], rfl, rfl, rfl, fun l => ?_, fun i => ?_, rfl⟩
    · show (Tab.build 12 fun l => (s.lane l).load (f.body.lanes.get l) (f.body.products.map (·.price)) (s.bound l).isSome).get l = _
      rw [Tab.get_build, Lane.load_eq]
    · exact State.startRecovery_ctx _ i
  · have read : readImage answered s.til.flash = .error detail := by
      rcases hd with ⟨rfl, rfl⟩ | ⟨rfl, hf, rfl⟩ | ⟨rfl, f, hf, ⟨hlen, rfl⟩ | ⟨hlen, hcrc, rfl⟩⟩
      · exact readImage_silent _
      · rw [hf]
        rfl
      · rw [hf]
        have wrong : f.length ≠ imageLength := hlen
        simp only [readImage, Bool.not_true, Bool.false_eq_true, if_false, ne_eq, wrong, not_false_eq_true, if_true]
      · rw [hf]
        have right : f.length = imageLength := hlen
        have bad : f.checkGood = false := decide_eq_false hcrc
        simp only [readImage, Bool.not_true, Bool.false_eq_true, if_false, ne_eq, right, not_true_eq_false, bad]
    have load : s.endLoad answered = s.loadNothing detail := by rw [State.endLoad, read]
    exact ⟨(s.loadNothing detail).startRecovery, by rw [exec_tableLoadEnd hp hl, load], rfl, rfl, rfl, rfl, rfl,
      fun i => State.startRecovery_ctx _ i, rfl⟩

/-! ### Starts -/

/-- A start with ESTOP high and the retained latch clear sets no latch. -/
theorem State.startLatch_calm (h1 : s.scc.estopHeld = false) (h2 : s.rd.latch = false) : s.startLatch = s := by
  simp [State.startLatch, h1, h2]

theorem State.startStopEvent_calm (h : s.rd.latch = false) : s.startStopEvent = s := by
  simp [State.startStopEvent, h]

/-- A cold start with ESTOP high. -/
theorem State.start_cold (hw : s.rd.warm = false) (he : s.power.estopLow = false) :
    s.start = ((State.startVolatile { s with rd := .cold s.rd.check }).queueEvent .coldStart .nothing
      (if s.rd.intact then 2 else 1)).startLinks := by
  unfold State.start
  rw [hw]
  dsimp only
  rw [State.startLatch_calm he rfl]
  rfl

theorem State.bound_none_of_free (h : ∀ i, (s.ctx i).state = .free) (l : LaneId) : s.bound l = none := by
  unfold State.bound
  exact List.find?_eq_none.mpr fun i _ => by simp [Context.inUse, h i]

theorem Retained.cold_free (check : BitVec 16) (i : ContextId) : (Retained.cold check).contexts.get i = .cleared :=
  Tab.get_fill _ _

theorem Retained.warm_eq_false {r : Retained} (h : r.intact = false ∨ r.check ≠ r.crc) : r.warm = false := by
  rcases h with h | h
  · rw [Retained.warm, h]
    rfl
  · rw [Retained.warm, Retained.matches, decide_eq_false h, Bool.and_false]

theorem Retained.warm_eq_true {r : Retained} (hi : r.intact = true) (hc : r.check = r.crc) : r.warm = true := by
  rw [Retained.warm, hi, Retained.matches, decide_eq_true hc]
  rfl

theorem Retained.atStart_warm {r : Retained} (hi : r.intact = true) : r.atStart true = r := by
  obtain ⟨⟩ := r
  cases hi
  rfl

/-- What a cold start leaves. -/
theorem State.start_of_cold (hw : s.rd.warm = false) (he : s.power.estopLow = false) :
    s.start.rd = .cold s.rd.check ∧ s.start.scc = ⟨false, .fill 12 false, false⟩ ∧
      s.start.til = ⟨.loading, none, Config.defaultParameters, s.til.flash⟩ ∧
      s.start.reu.events =
        [⟨.coldStart, 7, .nothing, if s.rd.intact = true then 2 else 1, 1, ⟨⟨2000, 1, 1, 0, 0, 0⟩, false⟩⟩] ∧
      s.start.reu.attn = true ∧ (∀ l, (s.start.lane l).state = .closed) ∧ s.start.power.phase = .running := by
  rw [State.start_cold hw he]
  obtain ⟨x, y, hxy⟩ := ((State.startVolatile { s with rd := .cold s.rd.check }).queueEvent .coldStart .nothing
      (if s.rd.intact then 2 else 1)).startLinks_only
  rw [hxy]
  refine ⟨rfl, congrArg (StopUnit.mk false (.fill 12 false)) he, rfl, rfl, rfl, fun l => ?_, rfl⟩
  have unbound : State.bound { s with rd := .cold s.rd.check } l = none :=
    State.bound_none_of_free (s := { s with rd := .cold s.rd.check }) (fun i => congrArg Context.state (Retained.cold_free s.rd.check i)) l
  have unlocked : (Retained.cold s.rd.check).locks.get l = false := Tab.get_fill _ _
  show ((Tab.build 12 (State.startLane { s with rd := .cold s.rd.check })).get l).state = _
  rw [Tab.get_build, State.startLane, unbound]
  show (Lane.starting (if (Retained.cold s.rd.check).locks.get l = true then _ else _)).state = _
  rw [unlocked]
  rfl

/-! ### The walk of a warm start -/

theorem State.walkContext_free {i : ContextId} (h : (s.ctx i).state = .free) : s.walkContext i = s := by
  simp [State.walkContext, Context.inUse, h]

theorem State.walk_free (h : ∀ i, (s.ctx i).state = .free) : s.walk = s := by
  have all : ∀ is : List ContextId, is.foldl State.walkContext s = s := by
    intro is
    induction is with
    | nil => rfl
    | cons i is ih => rw [List.foldl_cons, State.walkContext_free (h i), ih]
  exact all _

@[simp] theorem State.outside_walkContext (s : State) (i : ContextId) : (s.walkContext i).outside = s.outside := by
  unfold State.walkContext
  dsimp only
  repeat' split
  all_goals simp

theorem State.outside_walk (s : State) : s.walk.outside = s.outside := by
  have all : ∀ (is : List ContextId) (u : State), (is.foldl State.walkContext u).outside = u.outside := by
    intro is
    induction is with
    | nil => exact fun _ => rfl
    | cons i is ih => exact fun u => (ih _).trans (u.outside_walkContext i)
  exact all _ s

theorem State.setCtx_setCtx (s : State) (i : ContextId) (c d : Context) : (s.setCtx i c).setCtx i d = s.setCtx i d := by
  have twice : (s.rd.contexts.set i c).set i d = s.rd.contexts.set i d := by
    ext j
    simp only [Tab.get_set]
    split <;> rfl
  simp only [State.setCtx, twice]

theorem State.outside_latch (s : State) : s.outside.latch = s.rd.latch := rfl

theorem State.walk_latch (s : State) : s.walk.rd.latch = s.rd.latch := by
  rw [← State.outside_latch, State.outside_walk, State.outside_latch]

theorem State.walk_startStopEvent (h : s.rd.latch = false) : s.walk.startStopEvent = s.walk :=
  State.startStopEvent_calm (by rw [State.walk_latch, h])

theorem State.modCtx_setCtx (s : State) (i : ContextId) (c : Context) (f : Context → Context) :
    (s.setCtx i c).modCtx i f = s.setCtx i (f c) := by
  have read : (s.setCtx i c).ctx i = c := Tab.get_set_self _ _ _
  rw [State.modCtx, read, State.setCtx_setCtx]

theorem State.walkContext_before {i : ContextId} (h : (s.ctx i).beforeDelivery) :
    s.walkContext i = (s.setCtx i { s.ctx i with held := false }).cancel i .restart := by
  have used : (!(s.ctx i).inUse) = false := by
    rcases h with h | h | h | ⟨h, -⟩ <;> simp [Context.inUse, h]
  have read : (s.setCtx i { s.ctx i with held := false }).ctx i = { s.ctx i with held := false } := Tab.get_set_self _ _ _
  have stays : ({ s.ctx i with held := false } : Context).recovers = false := by
    rcases h with h | h | h | ⟨h, hc⟩ <;> simp only [Context.recovers, h]
    exact hc
  unfold State.walkContext
  rw [used, if_neg Bool.false_ne_true]
  dsimp only
  rw [State.modCtx, read, stays, if_neg Bool.false_ne_true]

/-- A context in delivery goes on into RECOVERING, or closes where nothing of it is to recover. -/
theorem State.walkContext_delivery {i : ContextId}
    (h : (s.ctx i).state = .delivering ∨ (s.ctx i).state = .ending ∨ (s.ctx i).state = .stopping ∨ (s.ctx i).state = .recovering ∨
        ((s.ctx i).state = .armed ∧ (s.ctx i).anyPastIdle = true)) :
    s.walkContext i =
      if (Context.toRecovering { s.ctx i with held := false }).recovered = true
      then (s.setCtx i (Context.toRecovering { s.ctx i with held := false })).closeContext i .byVolume false
      else s.setCtx i (Context.toRecovering { s.ctx i with held := false }) := by
  have used : (!(s.ctx i).inUse) = false := by
    rcases h with h | h | h | h | ⟨h, -⟩ <;> simp [Context.inUse, h]
  have read : ∀ c : Context, (s.setCtx i c).ctx i = c := fun c => Tab.get_set_self _ _ _
  have goes : ({ s.ctx i with held := false } : Context).recovers = true := by
    rcases h with h | h | h | h | ⟨h, hc⟩ <;> simp only [Context.recovers, h]
    exact hc
  unfold State.walkContext
  rw [used, if_neg Bool.false_ne_true]
  dsimp only
  rw [State.modCtx, read, goes, if_pos rfl, State.modCtx_setCtx, read]

/-- The states of delivery that a warm start has to recover. -/
def ChannelState.recovers (x : ChannelState) : Bool := decide (x ∈ [ChannelState.allocating, .opening, .flowing, .closing, .settling])

theorem ChannelRecord.toRecovering_pending (r : ChannelRecord) :
    (r.toRecovering.awaiting || decide (r.toRecovering.state = .closing) || decide (r.toRecovering.state = .settling)) = true ↔
      r.state.recovers = true ∨ (r.awaiting = true ∧ r.state ≠ .zeroing) := by
  obtain ⟨setup, st⟩ := r
  cases st <;> simp [ChannelRecord.toRecovering, ChannelRecord.toIdle, ChannelState.recovers]

theorem Context.toRecovering_recovered {c : Context} {rs : Triple ChannelRecord} (h : c.channels = some rs) :
    c.toRecovering.recovered = true ↔
      ∀ ch, (rs.get ch).state.recovers = false ∧ ((rs.get ch).awaiting = false ∨ (rs.get ch).state = .zeroing) := by
  have any : c.toRecovering.recovered = !(rs.map ChannelRecord.toRecovering).any
      fun r => r.awaiting || decide (r.state = .closing) || decide (r.state = .settling) := by
    simp [Context.recovered, Context.anyChannel, Context.toRecovering, Context.mapChannels, h]
  rw [any, Bool.not_eq_true', Bool.eq_false_iff, Ne, Triple.any_iff, not_exists]
  refine forall_congr' fun ch => ?_
  rw [Triple.get_map, ChannelRecord.toRecovering_pending, not_or, Bool.not_eq_true, not_and_or, Bool.not_eq_true, not_not]

theorem ChannelRecord.toRecovering_eq (r : ChannelRecord) : r.toRecovering =
    (let r := { r with noFlow := none, settle := none, closeQueued := none }
     match r.state with
     | .zeroing => { r with state := .idle, points := none, endCause := none, awaiting := false }
     | .allocating | .opening | .flowing | .closing | .settling =>
       { r with state := .closing, endCause := some (r.endCause.getD .stopped), awaiting := true }
     | .idle | .done | .refused | .failed => r) := by
  obtain ⟨setup, st⟩ := r
  cases st <;> rfl

/-! ### Warm starts -/

theorem State.startLatch_high (h : s.scc.estopHeld = false) : s.startLatch =
    if s.rd.latch = true then
      { s.assertHalt with rd := { s.rd with contexts := s.rd.contexts.map fun c => if c.inUse then c.flagAllStop else c } }
    else s := by
  simp only [State.startLatch, h, Bool.false_eq_true, if_false]

theorem State.start_warm (hw : s.rd.warm = true) (hi : s.rd.intact = true) :
    s.start = (s.startVolatile.startLatch.startEvent true (if s.rd.intact then 2 else 1)).startStopEvent.startLinks := by
  have calm : ({ s with rd := s.rd.atStart true } : State) = s := by rw [Retained.atStart_warm hi]
  unfold State.start
  rw [hw]
  dsimp only
  rw [calm]

theorem State.startEvent_warm (s : State) (d : Nat) :
    s.startEvent true d = (s.queueEvent .warmStart .nothing s.walk.recoveringCount).walk := if_pos rfl

/-- What step 3 of a start touches where no context is in use. -/
theorem State.startLatch_free (he : s.scc.estopHeld = false) (hf : ∀ i, (s.ctx i).state = .free) (hh : s.scc.halt = false) :
    s.startLatch.rd = s.rd ∧ s.startLatch.scc = { s.scc with halt := s.rd.latch } ∧ s.startLatch.dcu = s.dcu := by
  have calm : (s.rd.contexts.map fun c => if c.inUse then c.flagAllStop else c) = s.rd.contexts := by
    ext i
    have free : (s.rd.contexts.get i).state = .free := hf i
    simp [Tab.get_map, Context.inUse, free]
  rw [State.startLatch_high he]
  split
  · rename_i hl
    rw [calm]
    exact ⟨rfl, by rw [hl]; rfl, rfl⟩
  · rename_i hl
    exact ⟨rfl, by rw [Bool.not_eq_true] at hl; rw [hl, ← hh], rfl⟩

theorem State.startStopEvent_only (s : State) :
    s.startStopEvent.rd = s.rd ∧ s.startStopEvent.scc = s.scc ∧ s.startStopEvent.dcu = s.dcu := by
  unfold State.startStopEvent
  split <;> exact ⟨rfl, rfl, rfl⟩

/-- A warm start of a part whose contexts are all FREE. -/
theorem State.start_of_warm (hw : s.rd.warm = true) (hi : s.rd.intact = true) (he : s.power.estopLow = false)
    (hf : ∀ i, (s.ctx i).state = .free) :
    s.start.rd = s.rd ∧ (∀ l, (s.start.lane l).state = if s.rd.locks.get l = true then .locked else .closed) ∧
      s.start.scc.halt = s.rd.latch ∧ s.start.scc.cut = s.rd.locks := by
  obtain ⟨hrd, hscc, hdcu⟩ := State.startLatch_free (s := s.startVolatile) he hf rfl
  have free : ∀ (k : EventKind) (sub : Subject) (d : Nat) (i : ContextId), ((s.startVolatile.startLatch.queueEvent k sub d).ctx i).state = .free := by
    intro k sub d i
    have : ((s.startVolatile.startLatch.queueEvent k sub d).ctx i) = s.ctx i := by
      show s.startVolatile.startLatch.rd.contexts.get i = _
      rw [hrd]
      rfl
    rw [this]
    exact hf i
  have event : s.startVolatile.startLatch.startEvent true (if s.rd.intact then 2 else 1) =
      s.startVolatile.startLatch.queueEvent .warmStart .nothing s.startVolatile.startLatch.walk.recoveringCount := by
    rw [State.startEvent_warm, State.walk_free (free _ _ _)]
  have begun : s.start = (s.startVolatile.startLatch.queueEvent .warmStart .nothing
      s.startVolatile.startLatch.walk.recoveringCount).startStopEvent.startLinks := by
    rw [State.start_warm hw hi, event]
  rw [begun]
  generalize s.startVolatile.startLatch.walk.recoveringCount = n
  obtain ⟨h1, h2, h3⟩ := (s.startVolatile.startLatch.queueEvent .warmStart .nothing n).startStopEvent_only
  obtain ⟨x, y, hxy⟩ := (s.startVolatile.startLatch.queueEvent .warmStart .nothing n).startStopEvent.startLinks_only
  rw [hxy]
  refine ⟨h1.trans hrd, fun l => ?_, ?_, ?_⟩
  · have lane : (s.startVolatile.startLatch.queueEvent .warmStart .nothing n).startStopEvent.lane l = s.startLane l := by
      show Tab.get (DeliveryUnit.lanes _) l = _
      rw [h3]
      show Tab.get (DeliveryUnit.lanes s.startVolatile.startLatch.dcu) l = _
      rw [hdcu]
      exact Tab.get_build _ _
    show ((s.startVolatile.startLatch.queueEvent .warmStart .nothing n).startStopEvent.lane l).state = _
    rw [lane, State.startLane, State.bound_none_of_free hf l]
    rfl
  · show (s.startVolatile.startLatch.queueEvent .warmStart .nothing n).startStopEvent.scc.halt = _
    rw [h2]
    exact congrArg StopUnit.halt hscc
  · show (s.startVolatile.startLatch.queueEvent .warmStart .nothing n).startStopEvent.scc.cut = _
    rw [h2]
    exact congrArg StopUnit.cut hscc

theorem exec_powerUp_start (hp : s.power.phase = .off) (hr : s.power.rstLow = false) :
    exec .powerUp s = .next ({ s with power := { s.power with pfailLow := false } } : State).start := by
  rw [exec_powerUp_off hp, State.beginStart]
  exact congrArg Host.Outcome.next (if_neg (by rw [hr]; exact Bool.false_ne_true))

/-- Settles O48. -/
theorem startsAreWarmOrCold : Obligations.StartsAreWarmOrCold := by
  refine ⟨fun s hp hr he hc => ?_, fun s hp hr he hi hf => ⟨?_, ?_⟩, fun s hp hr he hi hc hl => ?_, fun s i => ⟨fun h => ?_, fun h => ?_, fun rs hrs h => ?_⟩⟩
  · exact ⟨_, exec_powerUp_start hp hr, State.start_of_cold (s := { s with power := { s.power with pfailLow := false } })
      (Retained.warm_eq_false hc) he⟩
  · refine ⟨_, _, _, exec_pfailAssert_running hp, rfl, exec_powerUp_start rfl hr, ?_⟩
    exact State.start_of_warm (Retained.warm_eq_true hi rfl) hi he hf
  · have cold : ∀ v : State, v.rd = s.rd.unmatched → v.power.estopLow = false →
        v.start.rd.counter = 1 ∧ v.start.rd.records = [] ∧ v.start.rd.clockValid = false ∧ v.start.rd.locks = .fill 12 false := by
      intro v hv hve
      obtain ⟨hrd, -⟩ := State.start_of_cold (s := v) (by rw [hv, Retained.warm, s.rd.unmatched_matches, Bool.and_false]) hve
      rw [hrd]
      exact ⟨rfl, rfl, rfl, rfl⟩
    rw [exec_mainPowerLoss_running hp, State.abandonSave_eq]
    exact ⟨_, _, rfl, exec_powerUp_start rfl hr, cold _ rfl he⟩
  · intro v walk
    have begun : ({ s with power := { s.power with pfailLow := false } } : State).start =
        (v.startLatch.startEvent true (if s.rd.intact then 2 else 1)).startStopEvent.startLinks :=
      State.start_warm (Retained.warm_eq_true hi hc) hi
    rw [exec_powerUp_start hp hr, begun, State.startLatch_calm (s := v) he hl, State.startEvent_warm]
    have after : (v.queueEvent .warmStart .nothing v.walk.recoveringCount).rd.latch = false := hl
    rw [State.walk_startStopEvent after, State.walk, State.recoveringCount, State.walk]
  · exact State.walkContext_free h
  · exact State.walkContext_before h
  · intro recover u
    have channels : ({ s.ctx i with held := false } : Context).channels = some rs := hrs
    have entered : s.setCtx i (Context.toRecovering { s.ctx i with held := false }) = u := by
      have map : rs.map ChannelRecord.toRecovering = rs.map recover := by
        rw [show ChannelRecord.toRecovering = recover from funext ChannelRecord.toRecovering_eq]
      show s.setCtx i (Context.mapChannels _ _) = s.setCtx i _
      rw [Context.mapChannels, ← map]
      show s.setCtx i { s.ctx i with
        held := false, state := .recovering, deadline := none, allocation := .clear,
        flags := { (s.ctx i).flags with recovered := true }, channels := (s.ctx i).channels.map _ } = _
      rw [hrs]
      rfl
    have ended := Context.toRecovering_recovered channels
    rw [State.walkContext_delivery h, entered]
    refine ⟨fun ⟨ch, hch⟩ => if_neg fun all => ?_, fun all => if_pos (ended.mpr fun ch => ?_)⟩
    · obtain ⟨no, -⟩ := ended.mp all ch
      rw [ChannelState.recovers, decide_eq_false_iff_not] at no
      exact no hch
    · obtain ⟨no, none⟩ := all ch
      exact ⟨decide_eq_false none, .inl no⟩

/-! ### The state after reset -/

/-- Settles O60. -/
theorem resetMeetsTheInvariants : Obligations.ResetMeetsTheInvariants := by
  refine ⟨by decide, by decide, by decide, by decide, by decide, by decide, rfl⟩

end Sys2Proof.Machine
end

section
/-! LOAD TABLE: what its entries are checked for and read as, what it writes, and its refusals (O14, O15). -/

namespace Sys2Proof

/-! ### Writing at successive indices -/

theorem Machine.writeFrom_get {n : Nat} {α : Type} (t : Tab n α) (first : Nat) (es : List α) (i : Fin n) :
    (Machine.writeFrom t first es).get i = if first ≤ i.val then es.getD (i.val - first) (t.get i) else t.get i := by
  induction es generalizing t first with
  | nil => simp [Machine.writeFrom]
  | cons x xs ih =>
    rw [Machine.writeFrom, ih]
    have head : ∀ h : first < n, (t.set ⟨first, h⟩ x).get i = if first = i.val then x else t.get i := fun h => by
      rw [Tab.get_set]
      simp only [Fin.ext_iff]
    rcases Nat.lt_trichotomy i.val first with h | h | h
    · have before : ¬ first + 1 ≤ i.val := by omega
      have before' : ¬ first ≤ i.val := by omega
      have ne : ¬ first = i.val := by omega
      rw [if_neg before, if_neg before']
      split
      · rw [head, if_neg ne]
      · rfl
    · have here : first < n := h ▸ i.isLt
      have before : ¬ first + 1 ≤ i.val := by omega
      rw [if_neg before, dif_pos here, head, if_pos h.symm, if_pos h.ge, h, Nat.sub_self]
      rfl
    · have ne : ¬ first = i.val := by omega
      have index : i.val - first = i.val - (first + 1) + 1 := by omega
      have same : (if h : first < n then t.set ⟨first, h⟩ x else t).get i = t.get i := by
        split
        · rw [head, if_neg ne]
        · rfl
      rw [if_pos (show first + 1 ≤ i.val from h), if_pos (Nat.le_of_lt h), same, index, List.getD_cons_succ]

end Sys2Proof

namespace Sys2Proof.Machine

open Sys2Proof

variable {s t : State}

/-! ### Digits and prompts read one by one -/

theorem digitsOf_eq : ∀ bs : List Byte, digitsOf bs = readAll digitOf bs
  | [] => rfl
  | b :: bs => by
    rw [digitsOf, readAll, digitsOf_eq bs]
    cases digitOf b <;> cases readAll digitOf bs <;> rfl

theorem promptsOf_eq : ∀ bs : List Byte, promptsOf bs = readAll (fun b => promptKindOf b.toNat) bs
  | [] => rfl
  | b :: bs => by
    rw [promptsOf, readAll, promptsOf_eq bs]
    cases promptKindOf b.toNat <;> cases readAll (fun b : Byte => promptKindOf b.toNat) bs <;> rfl

theorem digitOf_asciiOf (d : Fin 10) : digitOf (asciiOf d) = some d := by
  revert d
  decide

theorem digitOf_eq_none {b : Byte} (h : b.toNat < 0x30 ∨ 0x39 < b.toNat) : digitOf b = none := dif_neg (by omega)

theorem digitsOf_asciiOf (ds : Digits) : digitsOf (ds.map asciiOf) = some ds := by
  rw [digitsOf_eq, readAll_map (h := id) fun d _ => digitOf_asciiOf d, List.map_id]

theorem digitsOf_eq_none {bs : List Byte} {b : Byte} (hb : b ∈ bs) (h : b.toNat < 0x30 ∨ 0x39 < b.toNat) : digitsOf bs = none := by
  rw [digitsOf_eq]
  exact readAll_eq_none hb (digitOf_eq_none h)

theorem digitsOf_length {bs : List Byte} {ds : Digits} (h : digitsOf bs = some ds) : ds.length = bs.length :=
  readAll_length (digitsOf_eq bs ▸ h)

theorem promptKindOf_code (k : PromptKind) : promptKindOf (BitVec.ofNat 8 (promptCode k)).toNat = some k := by
  cases k <;> rfl

theorem promptKindOf_key {b : Byte} {k : PromptKind} (h : promptKindOf b.toNat = some k) : BitVec.ofNat 8 (promptCode k) = b := by
  have code : promptCode k = b.toNat := by
    unfold promptKindOf at h
    split at h <;> cases h <;> symm <;> assumption
  rw [code]
  exact BitVec.eq_of_toNat_eq (by rw [BitVec.toNat_ofNat, Nat.mod_eq_of_lt b.isLt])

theorem promptsOf_codes (ks : List PromptKind) : promptsOf (ks.map fun k => BitVec.ofNat 8 (promptCode k)) = some ks := by
  rw [promptsOf_eq, readAll_map (f := fun b : Byte => promptKindOf b.toNat)
    (g := fun k : PromptKind => BitVec.ofNat 8 (promptCode k)) (h := id) fun k _ => promptKindOf_code k, List.map_id]

/-- Prompts that were read carry their codes. -/
theorem promptsOf_keys {bs : List Byte} {ks : List PromptKind} (h : promptsOf bs = some ks) :
    (ks.map fun k => BitVec.ofNat 8 (promptCode k)) = bs := by
  rw [promptsOf_eq] at h
  have keys := readAll_keys (k := id) (k' := fun k : PromptKind => BitVec.ofNat 8 (promptCode k)) (fun _ _ => promptKindOf_key) h
  rwa [List.map_id] at keys

/-! ### The entries' checks -/

theorem rangeGood_eq_false {e : RangeEntry} (h : rangeRefused e) : rangeGood e = false := by
  obtain ⟨h0, h⟩ := h
  unfold rangeGood
  rw [decide_eq_false h0, Bool.false_or]
  rcases h with h | h | ⟨b, hb, h⟩ | ⟨n, hn, h⟩
  · rw [decide_eq_false (by omega), Bool.false_and, Bool.false_and]
  · rw [decide_eq_false (by omega), Bool.false_and, Bool.false_and]
  · rw [digitsOf_eq_none hb h]
    simp
  · rw [hn]
    simp [idOf_eq_none h]

theorem denyOf_eq_none {bs : List Byte} (h : denyRefused bs) : denyOf bs = none := by
  obtain ⟨h0, h⟩ := h
  unfold denyOf
  split
  · rename_i ds hds
    have len := digitsOf_length hds
    refine if_neg fun good => ?_
    rcases good with rfl | good
    · exact h0 (List.eq_nil_of_length_eq_zero len.symm)
    · rcases h with h | h | ⟨b, hb, h⟩
      · omega
      · omega
      · rw [digitsOf_eq_none hb h] at hds
        cases hds
  · rfl

theorem denyOf_digits {ds : Digits} (h : ds = [] ∨ 12 ≤ ds.length ∧ ds.length ≤ 19) : denyOf (ds.map asciiOf) = some ds := by
  rw [denyOf, digitsOf_asciiOf]
  exact if_pos h

theorem productClassOf_eq_none {n : Nat} (h : n < 1 ∨ 2 < n) : productClassOf n = none := by
  unfold productClassOf
  split <;> first | omega | rfl

theorem productOf_eq_none {f : ProductFields} (h : productRefused f) : productOf f = none := by
  unfold productOf
  split
  · rename_i k hk
    refine if_neg ?_
    rcases h with h | h | h
    · rw [productClassOf_eq_none (.inl h)] at hk
      cases hk
    · rw [productClassOf_eq_none (.inr h)] at hk
      cases hk
    · exact Nat.not_le.mpr h
  · rfl

/-- What a good PROGRAM entry of a kind other than NONE has passed. -/
theorem programOf_some {f : ProgramFields} {p : Program} (h : programOf f = some p) (hk : f.kind ≠ 0) :
    ∃ ks, promptsOf f.prompts = some ks ∧ promptListGood ks = true ∧ (f.kind = 2 → ks = []) ∧ amountGood f.requested = true ∧
      limitGood (f.limits.getLsbD 0) f.dieselLimit = true ∧ limitGood (f.limits.getLsbD 1) f.defLimit = true ∧
      amountGood f.standInAmount = true ∧ 1 ≤ f.standInUses.toNat ∧ f.standInUses.toNat ≤ 15 := by
  unfold programOf at h
  split at h
  · cases h
  · rename_i unused
    refine absurd (BitVec.eq_of_toNat_eq ?_) hk
    unfold programKindOf at unused
    split at unused
    · rename_i zero
      exact zero
    all_goals cases unused
  · rename_i kind hkind
    split at h
    · cases h
    · rename_i ks hks
      split at h
      · rename_i good
        simp only [Bool.and_eq_true, decide_eq_true_eq] at good
        obtain ⟨⟨⟨⟨⟨⟨g1, g2⟩, g3⟩, g4⟩, g5⟩, g6⟩, g7⟩ := good
        refine ⟨ks, hks, g1, fun two => ?_, g3, g4, g5, g6, g7⟩
        rw [two] at hkind
        cases hkind
        simpa using g2
      · cases h

theorem programKindOf_eq_none {n : Nat} (h : 3 < n) : programKindOf n = none := by
  unfold programKindOf
  split <;> first | omega | rfl

theorem amountGood_iff (v : BitVec 32) : amountGood v = true ↔ 1 ≤ v.toNat ∧ v.toNat ≤ 999999 := by
  unfold amountGood
  exact decide_eq_true_iff

theorem limitGood_iff (present : Bool) (v : BitVec 32) :
    limitGood present v = true ↔ (present = true → 100 ≤ v.toNat ∧ v.toNat ≤ 200000) := by
  cases present <;> simp [limitGood]

theorem programOf_eq_none {f : ProgramFields} (h : programRefused f) : programOf f = none := by
  rcases h with h | ⟨hk, h⟩
  · rw [programOf, programKindOf_eq_none h]
  · by_contra hp
    obtain ⟨p, hp⟩ := Option.ne_none_iff_exists'.mp hp
    obtain ⟨ks, hks, list, bank, requested, diesel, fluid, standIn, uses⟩ := programOf_some hp hk
    have keys := promptsOf_keys hks
    simp only [promptListGood, Bool.and_eq_true, decide_eq_true_eq, Bool.not_eq_true'] at list
    obtain ⟨⟨len, nodup⟩, noLane⟩ := list
    obtain ⟨r1, r2⟩ := (amountGood_iff _).mp requested
    obtain ⟨a1, a2⟩ := (amountGood_iff _).mp standIn
    have injective : Function.Injective fun k : PromptKind => (BitVec.ofNat 8 (promptCode k) : Byte) := by
      intro a b e
      have read := promptKindOf_code a
      rw [show (BitVec.ofNat 8 (promptCode a) : Byte) = BitVec.ofNat 8 (promptCode b) from e, promptKindOf_code b] at read
      exact (Option.some.inj read).symm
    rcases h with h | h | ⟨b, hb, h⟩ | ⟨two, h⟩ | h | h | ⟨present, h⟩ | ⟨present, h⟩ | h | h | h | h
    · rw [← keys, List.length_map] at h
      omega
    · exact h (keys ▸ nodup.map injective)
    · rw [← keys] at hb
      obtain ⟨k, hmem, rfl⟩ := List.mem_map.mp hb
      have notLane : k ≠ .lane := fun e => by
        have := List.any_eq_false.mp noLane k hmem
        simp [e] at this
      cases k <;> first | exact notLane rfl | (revert h; decide)
    · rw [bank two] at keys
      exact h keys.symm
    · omega
    · omega
    · have := (limitGood_iff _ _).mp diesel present
      omega
    · have := (limitGood_iff _ _).mp fluid present
      omega
    all_goals omega

/-! ### Programs that read back -/

theorem toNat_ofNat_long {n : Nat} (h : n ≤ 999999) : (BitVec.ofNat 32 n).toNat = n := by
  rw [BitVec.toNat_ofNat]
  omega

theorem limitsByte_bits (a b : Bool) :
    (BitVec.ofNat 8 (flagBit a 1 + flagBit b 2) : Byte).getLsbD 0 = a ∧ (BitVec.ofNat 8 (flagBit a 1 + flagBit b 2) : Byte).getLsbD 1 = b := by
  revert a b
  decide

theorem limit_back {x : Option Nat} (h : ∀ v ∈ x, 100 ≤ v ∧ v ≤ 200000) :
    limitGood x.isSome (BitVec.ofNat 32 (x.getD 0)) = true ∧ limitOf x.isSome (BitVec.ofNat 32 (x.getD 0)) = x := by
  cases x with
  | none => exact ⟨rfl, rfl⟩
  | some v =>
    obtain ⟨h1, h2⟩ := h v rfl
    have back : (BitVec.ofNat 32 v).toNat = v := toNat_ofNat_long (by omega)
    simp [limitGood, limitOf, back, h1, h2]

theorem amount_back {n : Nat} (h1 : 1 ≤ n) (h2 : n ≤ 999999) : amountGood (BitVec.ofNat 32 n) = true := by
  simp [amountGood, toNat_ofNat_long h2, Config.maxAmount, h1, h2]

theorem programKindOf_code (k : ProgramKind) : programKindOf k.code.toNat = some k := by cases k <;> rfl

theorem programOf_unused {f : ProgramFields} (h : f.kind = 0) : programOf f = some emptyProgram := by
  rw [programOf, h]
  rfl

theorem programOf_fields {p : Program} (h : p = emptyProgram ∨ p.loadable) : programOf p.fields = some p := by
  rcases h with rfl | ⟨kind, len, nodup, lane, bank, r1, r2, diesel, fluid, a1, a2, u1, u2⟩
  · exact programOf_unused rfl
  · obtain ⟨bit0, bit1⟩ := limitsByte_bits p.dieselLimit.isSome p.defLimit.isSome
    obtain ⟨good0, back0⟩ := limit_back diesel
    obtain ⟨good1, back1⟩ := limit_back fluid
    have list : promptListGood p.prompts = true := by
      have : (p.prompts.any fun k => decide (k = .lane)) = false := List.any_eq_false.mpr fun k hk => by
        rw [decide_eq_true_eq]
        rintro rfl
        exact lane hk
      simp [promptListGood, len, nodup, this]
    have uses : (BitVec.ofNat 8 p.standInUses : Byte).toNat = p.standInUses := by
      rw [BitVec.toNat_ofNat]
      omega
    have bankGood : (decide (p.kind ≠ .bank) || p.prompts.isEmpty) = true := by
      by_cases hb : p.kind = .bank
      · rw [bank hb]
        simp
      · simp [hb]
    unfold programOf
    rw [show p.fields.kind = p.kind.code from rfl, programKindOf_code]
    have prompts : promptsOf p.fields.prompts = some p.prompts := promptsOf_codes p.prompts
    simp only [prompts]
    have checks : (promptListGood p.prompts && (decide (p.kind ≠ .bank) || p.prompts.isEmpty) && amountGood p.fields.requested &&
        limitGood (p.fields.limits.getLsbD 0) p.fields.dieselLimit && limitGood (p.fields.limits.getLsbD 1) p.fields.defLimit &&
        amountGood p.fields.standInAmount && decide (1 ≤ p.fields.standInUses.toNat ∧ p.fields.standInUses.toNat ≤ 15)) = true := by
      simp only [Program.fields, list, bankGood, amount_back r1 r2, bit0, bit1, good0, good1, amount_back a1 a2, uses, u1, u2,
        Bool.and_self, and_self, decide_true]
    cases hk : p.kind with
    | unused => exact absurd hk kind
    | fleet | bank | site =>
      rw [hk] at checks
      refine (if_pos checks).trans ?_
      simp only [Program.fields, bit0, bit1, back0, back1, toNat_ofNat_long r2, toNat_ofNat_long a2, uses, ← hk]

theorem filterMap_readBack {α β : Type} {f : α → Option β} {g : β → α} {xs : List β} (h : ∀ x ∈ xs, f (g x) = some x) :
    (xs.map g).filterMap f = xs := by
  induction xs with
  | nil => rfl
  | cons x xs ih =>
    rw [List.map_cons, List.filterMap_cons, h x (List.mem_cons_self ..), ih fun y hy => h y (List.mem_cons_of_mem _ hy)]

theorem all_readBack {α β : Type} {f : α → Option β} {g : β → α} {xs : List β} (h : ∀ x ∈ xs, f (g x) = some x) :
    ((xs.map g).all fun x => (f x).isSome) = true := by
  rw [List.all_map, List.all_eq_true]
  intro x hx
  show (f (g x)).isSome = true
  rw [h x hx]
  rfl

/-! ### The request -/

/-- Where the load pointer stands for a table. -/
def CardUnit.pointerAt (u : CardUnit) (t : TableName) : Nat :=
  match u.pointer with
  | some (t', n) => if t' = t then n else 0
  | none => 0

theorem CardUnit.startIndex_eq (u : CardUnit) (t : TableName) (start : StartField) :
    u.startIndex t start = if start.mode = 1 then start.index.toNat else u.pointerAt t := by
  have : start.mode = 1 ↔ start.mode.toNat = 1 := BitVec.toNat_inj.symm
  simp only [this]
  rfl

theorem startGood_of {t : TableName} {start : StartField} (h : start.mode = 1 ∧ start.index.toNat < t.size ∨ start.mode = 2) :
    startGood t start = true := by
  unfold startGood
  rcases h with ⟨h, hi⟩ | h
  · rw [h]
    exact (if_pos rfl).trans (decide_eq_true hi)
  · rw [h]
    rfl

theorem startGood_beyond {t : TableName} {start : StartField} (h : start.mode = 1 ∧ t.size ≤ start.index.toNat) :
    startGood t start = false := by
  unfold startGood
  rw [h.1]
  exact (if_pos rfl).trans (decide_eq_false (by omega))

theorem State.serveLoadTable_loads {start : StartField} {es : LoadEntries} {name : TableName} (hl : s.til.load ≠ .loading)
    (hs : s.til.save = none) (ht : tableOf es = some name) (h1 : 1 ≤ entryCount es) (h8 : entryCount es ≤ 8)
    (hg : startGood name start = true) (he : entriesGood es = true) (hf : name = .product → s.someBound = false) :
    s.serveLoadTable start es = s.loadEntries name start es := by
  have saving : s.saving = false := congrArg Option.isSome hs
  have free : (decide (name = .product) && s.someBound) = false := by
    by_cases hn : name = .product
    · rw [hf hn, Bool.and_false]
    · rw [decide_eq_false hn, Bool.false_and]
  have count : decide (1 ≤ entryCount es ∧ entryCount es ≤ 8) = true := decide_eq_true ⟨h1, h8⟩
  unfold State.serveLoadTable
  rw [State.loading_eq_false hl, if_neg Bool.false_ne_true, saving, if_neg Bool.false_ne_true, ht]
  dsimp only
  rw [count, hg, he, free]
  rfl

theorem lengthGood_loadTable {tag : Byte} {n : Nat} {start : StartField} {es : LoadEntries}
    (h : requiredLength (.loadTable start es) = none ∨ requiredLength (.loadTable start es) = some n) :
    lengthGood ⟨tag, n, .loadTable start es⟩ = true := by
  unfold lengthGood
  rcases h with h | h <;> rw [h]
  · rfl
  · exact decide_eq_true rfl

/-- A LOAD TABLE that passes its checks. -/
theorem exec_loadTable {start : StartField} {es : LoadEntries} {name : TableName} {n first : Nat} {tag : Byte} (h : s.takes)
    (hl : s.til.load ≠ .loading) (hs : s.til.save = none) (hn : requiredLength (.loadTable start es) = some n)
    (ht : tableOf es = some name) (h1 : 1 ≤ entryCount es) (h8 : entryCount es ≤ 8)
    (hg : start.mode = 1 ∧ start.index.toNat < name.size ∨ start.mode = 2) (he : entriesGood es = true)
    (hf : name = .product → s.someBound = false) (hfirst : s.csu.startIndex name start = first) :
    exec (.loadTable tag n start es) s =
      .next (((s.heard.writeEntries first es).setPointer name (first + min (entryCount es) (name.size - first))).replied 0x8C tag
        (if min (entryCount es) (name.size - first) < entryCount es
          then ⟨.partly, .tableEnd, .loaded (min (entryCount es) (name.size - first)) (first + min (entryCount es) (name.size - first))⟩
          else ⟨.done, .none, .loaded (min (entryCount es) (name.size - first)) (first + min (entryCount es) (name.size - first))⟩)) := by
  subst hfirst
  exact State.arrive_served (f := ⟨tag, n, .loadTable start es⟩) h (lengthGood_loadTable (.inr hn))
    (State.serveLoadTable_loads (s := s.heard) hl hs ht h1 h8 (startGood_of hg) he hf)

/-- Settles O14. -/
theorem loadTableWritesFromItsStart : Obligations.LoadTableWritesFromItsStart := by
  refine ⟨fun n t first es i => writeFrom_get t first es i, fun s tag start h hl hs => ⟨?_, ?_, ?_, ?_⟩, fun s tag start h hl => ?_⟩
  · intro es h1 h8 good hg first fit
    have at_first : s.csu.startIndex .range start = first := by
      rw [CardUnit.startIndex_eq]
      unfold first CardUnit.pointerAt
      rcases s.csu.pointer with _ | ⟨_ | _ | _ | _, n⟩ <;> rfl
    exact exec_loadTable (name := .range) h hl hs rfl rfl h1 h8 hg good (fun e => by cases e) at_first
  · intro cards h1 h8 good hg first fit
    have at_first : s.csu.startIndex .deny start = first := by
      rw [CardUnit.startIndex_eq]
      unfold first CardUnit.pointerAt
      rcases s.csu.pointer with _ | ⟨_ | _ | _ | _, n⟩ <;> rfl
    have back : ∀ d ∈ cards, denyOf (d.map asciiOf) = some d := fun d hd => denyOf_digits (good d hd)
    have count : entryCount (.deny (cards.map fun d => d.map asciiOf)) = cards.length := List.length_map _
    refine (exec_loadTable (name := .deny) (es := .deny (cards.map fun d => d.map asciiOf)) h hl hs (by rw [requiredLength, entriesLength, List.length_map]; rfl) rfl
      (count ▸ h1) (count ▸ h8) hg (all_readBack back) (fun e => by cases e) at_first).trans ?_
    rw [count, State.writeEntries, filterMap_readBack back]
    rfl
  · intro ps h1 h8 good hg first fit
    have at_first : s.csu.startIndex .program start = first := by
      rw [CardUnit.startIndex_eq]
      unfold first CardUnit.pointerAt
      rcases s.csu.pointer with _ | ⟨_ | _ | _ | _, n⟩ <;> rfl
    have back : ∀ p ∈ ps, programOf p.fields = some p := fun p hp => programOf_fields (good p hp)
    have count : entryCount (.program (ps.map Program.fields)) = ps.length := List.length_map _
    refine (exec_loadTable (name := .program) (es := .program (ps.map Program.fields)) h hl hs (by rw [requiredLength, entriesLength, List.length_map]; rfl) rfl
      (count ▸ h1) (count ▸ h8) hg (all_readBack back) (fun e => by cases e) at_first).trans ?_
    rw [count, State.writeEntries, filterMap_readBack back]
    rfl
  · intro f hf
    have same : ∀ u : State, u.serveLoadTable start (.program [f]) = u.serveLoadTable start (.program [emptyProgram.fields]) := by
      have entry : programOf f = programOf emptyProgram.fields := by rw [programOf_unused hf, programOf_unused rfl]
      have good : entriesGood (.program [f]) = entriesGood (.program [emptyProgram.fields]) := by
        simp only [entriesGood, List.all_cons, entry]
      have writes : ∀ (v : State) (i : Nat), v.writeEntries i (.program [f]) = v.writeEntries i (.program [emptyProgram.fields]) :=
        fun v i => by simp only [State.writeEntries, List.filterMap_cons, entry]
      intro u
      simp only [State.serveLoadTable, State.loadEntries, good, writes]
      rfl
    have arrives : ∀ g : ProgramFields, exec (.loadTable tag 33 start (.program [g])) s =
        finish (s.heard.serveLoadTable start (.program [g])).works
          ((s.heard.serveLoadTable start (.program [g])).state.replied 0x8C tag (s.heard.serveLoadTable start (.program [g])).reply) :=
      fun g => State.arrive_good (f := ⟨tag, 33, .loadTable start (.program [g])⟩) h (lengthGood_loadTable (.inr rfl))
    rw [arrives, arrives, same]
  · have loading : s.heard.loading = false := State.loading_eq_false (s := s.heard) hl
    intro refused beyond
    have answer : ∀ (n : Nat) (es : LoadEntries) (why : ReplyReason),
        requiredLength (.loadTable start es) = none ∨ requiredLength (.loadTable start es) = some n →
        s.heard.serveLoadTable start es = s.heard.refuse why → refused n es why := fun n es why hn hw =>
      State.arrive_refused (f := ⟨tag, n, .loadTable start es⟩) h (lengthGood_loadTable hn) hw
    refine ⟨fun hs n es hn => answer n es _ hn ?_, fun hs => ?_⟩
    · have saving : s.heard.saving = true := hs
      simp only [State.serveLoadTable, loading, saving, Bool.false_eq_true, if_false, if_true]
    · have saving : s.heard.saving = false := congrArg Option.isSome hs
      have bad : ∀ (es : LoadEntries) (name : TableName), tableOf es = some name →
          (entryCount es < 1 ∨ 8 < entryCount es ∨ startGood name start = false ∨ entriesGood es = false) →
          s.heard.serveLoadTable start es = s.heard.refuse .badValue := by
        intro es name hn hbad
        have fails : (decide (1 ≤ entryCount es ∧ entryCount es ≤ 8) && startGood name start && entriesGood es) = false := by
          rcases hbad with hbad | hbad | hbad | hbad
          · rw [decide_eq_false (by omega), Bool.false_and, Bool.false_and]
          · rw [decide_eq_false (by omega), Bool.false_and, Bool.false_and]
          · rw [hbad, Bool.and_false, Bool.false_and]
          · rw [hbad, Bool.and_false]
        simp only [State.serveLoadTable, loading, saving, hn, fails, Bool.false_eq_true, if_false, Bool.not_false, if_true]
      have all_false : ∀ {α : Type} {es : List α} {p : α → Bool} {e : α}, e ∈ es → p e = false → es.all p = false :=
        fun he hp => List.all_eq_false.mpr ⟨_, he, by rw [hp]; exact Bool.false_ne_true⟩
      refine ⟨fun n code => answer n _ _ (.inl rfl) ?_, fun es hbad => answer _ _ _ (.inr rfl) (bad _ .range rfl ?_),
        fun es hbad => answer _ _ _ (.inr rfl) (bad _ .program rfl ?_), fun es hbad => answer _ _ _ (.inr rfl) (bad _ .deny rfl ?_),
        fun es hbad => answer _ _ _ (.inr rfl) (bad _ .product rfl ?_)⟩
      · simp only [State.serveLoadTable, loading, saving, tableOf, Bool.false_eq_true, if_false]
      · rcases hbad with hbad | hbad | hbad | ⟨e, he, hbad⟩
        · exact .inl hbad
        · exact .inr (.inl hbad)
        · exact .inr (.inr (.inl (startGood_beyond hbad)))
        · exact .inr (.inr (.inr (all_false he (rangeGood_eq_false hbad))))
      · rcases hbad with hbad | hbad | hbad | ⟨e, he, hbad⟩
        · exact .inl hbad
        · exact .inr (.inl hbad)
        · exact .inr (.inr (.inl (startGood_beyond hbad)))
        · exact .inr (.inr (.inr (all_false he (by rw [programOf_eq_none hbad]; rfl))))
      · rcases hbad with hbad | hbad | ⟨e, he, hbad⟩
        · exact .inl hbad
        · exact .inr (.inl hbad)
        · exact .inr (.inr (.inr (all_false he (by rw [denyOf_eq_none hbad]; rfl))))
      · rcases hbad with hbad | hbad | hbad | ⟨e, he, hbad⟩
        · exact .inl hbad
        · exact .inr (.inl hbad)
        · exact .inr (.inr (.inl (startGood_beyond hbad)))
        · exact .inr (.inr (.inr (all_false he (by rw [productOf_eq_none hbad]; rfl))))

/-! ### LOAD TABLE of products -/

/-- A product entry as LOAD TABLE carries it. -/
def ProductEntry.fields (e : ProductEntry) : ProductFields :=
  ⟨match e.cls with
    | .diesel => 1
    | .exhaustFluid => 2, BitVec.ofNat 32 e.price⟩

theorem productOf_fields {e : ProductEntry} (h : e.price ≤ 99999 ∧ e.pending = none) : productOf e.fields = some e := by
  obtain ⟨cls, price, pending⟩ := e
  obtain ⟨hprice, rfl⟩ := h
  have back : (BitVec.ofNat 32 price).toNat = price := toNat_ofNat_long (le_trans hprice (by decide))
  have good : price ≤ Config.maxPrice := hprice
  cases cls <;> simp [productOf, ProductEntry.fields, productClassOf, back, good]

theorem State.someBound_iff (s : State) : s.someBound = true ↔ ∃ l : LaneId, s.bound l ≠ none := by
  simp [State.someBound, Option.isSome_iff_ne_none]

/-- Settles O15. -/
theorem loadedProductsArePricedAtOnce : Obligations.LoadedProductsArePricedAtOnce := by
  intro s tag start es h hl hs h1 h8 good hg body first fit
  have at_first : s.csu.startIndex .product start = first := by
    rw [CardUnit.startIndex_eq]
    unfold first CardUnit.pointerAt
    rcases s.csu.pointer with _ | ⟨_ | _ | _ | _, n⟩ <;> rfl
  have spelled : body = .product (es.map ProductEntry.fields) := rfl
  have back : ∀ e ∈ es, productOf e.fields = some e := fun e he => productOf_fields (good e he)
  have count : entryCount body = es.length := List.length_map _
  have length : requiredLength (.loadTable start body) = some (4 + 5 * es.length) := by
    rw [spelled, requiredLength, entriesLength, List.length_map]
    rfl
  refine ⟨fun free => ?_, fun bound => ?_⟩
  · have unbound : s.someBound = false := by
      rw [Bool.eq_false_iff, Ne, State.someBound_iff]
      rintro ⟨l, hb⟩
      exact hb (free l)
    refine (exec_loadTable (name := .product) h hl hs length rfl (count ▸ h1) (count ▸ h8) hg (all_readBack back) (fun _ => unbound)
      at_first).trans ?_
    rw [count, spelled, State.writeEntries, filterMap_readBack back]
    rfl
  · have bound : s.heard.someBound = true := s.someBound_iff.mpr bound
    have loading : s.heard.loading = false := State.loading_eq_false (s := s.heard) hl
    have saving : s.heard.saving = false := congrArg Option.isSome hs
    refine State.arrive_refused (f := ⟨tag, _, .loadTable start body⟩) h (lengthGood_loadTable (.inr length)) ?_
    have passes : (decide (1 ≤ entryCount body ∧ entryCount body ≤ 8) && startGood .product start && entriesGood body) = true := by
      rw [count, startGood_of (t := .product) hg, decide_eq_true ⟨h1, h8⟩]
      exact all_readBack back
    show s.heard.serveLoadTable start body = _
    have name : tableOf body = some .product := rfl
    simp only [State.serveLoadTable, loading, saving, name, passes, bound, Bool.false_eq_true, if_false, Bool.not_true, decide_true,
      Bool.and_self, if_true]

end Sys2Proof.Machine
end

section
/-! SET PRICES (O17) and AUTH RESULT (O12, O13). -/

namespace Sys2Proof.Machine

open Sys2Proof

variable {s t : State}

/-! ### The pairs of a SET PRICES -/

/-- One pair of a SET PRICES. -/
def pricePair (p : Byte × BitVec 32) : Option (Product × Nat) :=
  match idOf 8 p.1.toNat with
  | some q => if p.2.toNat ≤ Config.maxPrice then some (q, p.2.toNat) else none
  | none => none

theorem pricePairs_eq : ∀ ps : List (Byte × BitVec 32), pricePairs ps = readAll pricePair ps
  | [] => rfl
  | (p, v) :: ps => by
    rw [pricePairs, readAll, ← pricePairs_eq ps, pricePair]
    dsimp only
    cases idOf 8 p.toNat with
    | none => rfl
    | some q => by_cases hv : v.toNat ≤ Config.maxPrice <;> cases pricePairs ps <;> simp [hv]

theorem pricePair_key {p : Byte × BitVec 32} {x : Product × Nat} (h : pricePair p = some x) : BitVec.ofNat 8 (x.1.val + 1) = p.1 := by
  unfold pricePair at h
  split at h
  · rename_i q hq
    split at h
    · cases h
      rw [idOf_some hq, BitVec.ofNat_toNat, BitVec.setWidth_eq]
    · cases h
  · cases h

theorem pricePair_eq_none {p : Byte × BitVec 32} (h : p.1.toNat < 1 ∨ 8 < p.1.toNat ∨ 99999 < p.2.toNat) : pricePair p = none := by
  unfold pricePair
  split
  · rename_i q hq
    refine if_neg ?_
    rcases h with h | h | h
    · rw [idOf_eq_none (.inl h)] at hq
      cases hq
    · rw [idOf_eq_none (.inr h)] at hq
      cases hq
    · exact Nat.not_le.mpr h
  · rfl

theorem goodPricePairs_eq_none {ps : List (Byte × BitVec 32)}
    (h : ps.length < 1 ∨ 8 < ps.length ∨ (∃ p ∈ ps, p.1.toNat < 1 ∨ 8 < p.1.toNat ∨ 99999 < p.2.toNat) ∨ ¬(ps.map (·.1)).Nodup) :
    goodPricePairs ps = none := by
  unfold goodPricePairs
  split
  · rename_i xs hp
    refine if_neg ?_
    rintro ⟨h1, h2, hd⟩
    rw [pricePairs_eq] at hp
    rw [readAll_length hp] at h1 h2
    rcases h with h | h | ⟨p, hmem, hbad⟩ | h
    · omega
    · omega
    · rw [readAll_eq_none hmem (pricePair_eq_none hbad)] at hp
      cases hp
    · have keys := readAll_keys (k := Prod.fst) (k' := fun x => BitVec.ofNat 8 (x.1.val + 1)) (fun _ _ => pricePair_key) hp
      have inj : Function.Injective fun i : Fin 8 => (BitVec.ofNat 8 (i.val + 1) : Byte) := by decide
      have : xs.map (fun x => (BitVec.ofNat 8 (x.1.val + 1) : Byte)) = (xs.map (·.1)).map fun i : Fin 8 => BitVec.ofNat 8 (i.val + 1) := by
        rw [List.map_map]; rfl
      exact h (keys ▸ this ▸ hd.map inj)
  · rfl

/-- The pairs that a request spells. -/
def spelledPrices (qs : List (Product × Fin 100000)) : List (Byte × BitVec 32) :=
  qs.map fun q => (BitVec.ofNat 8 (q.1.val + 1), BitVec.ofNat 32 q.2.val)

/-- The pairs that it names. -/
def namedPrices (qs : List (Product × Fin 100000)) : List (Product × Nat) := qs.map fun q => (q.1, q.2.val)

theorem namedPrices_products (qs : List (Product × Fin 100000)) : (namedPrices qs).map Prod.fst = qs.map (·.1) := by
  simp [namedPrices, List.map_map, Function.comp_def]

theorem goodPricePairs_spelled {qs : List (Product × Fin 100000)} (h1 : 1 ≤ qs.length) (hd : (qs.map (·.1)).Nodup) :
    goodPricePairs (spelledPrices qs) = some (namedPrices qs) := by
  have one : ∀ q : Product × Fin 100000, pricePair (BitVec.ofNat 8 (q.1.val + 1), BitVec.ofNat 32 q.2.val) = some (q.1, q.2.val) := by
    intro q
    have back : (BitVec.ofNat 32 q.2.val).toNat = q.2.val := toNat_ofNat_long (by have := q.2.isLt; omega)
    have good : q.2.val ≤ Config.maxPrice := Nat.le_of_lt_succ q.2.isLt
    rw [pricePair, idOf_byte q.1 (by decide)]
    simp only [back]
    exact if_pos good
  unfold goodPricePairs
  rw [pricePairs_eq, spelledPrices, readAll_map fun q _ => one q]
  have small : qs.length ≤ 8 := by simpa using hd.length_le_card
  dsimp only
  refine if_pos ⟨by simpa using h1, by simpa using small, ?_⟩
  exact (namedPrices_products qs).symm ▸ hd

/-! ### Adoption -/

/-- Lanes that adopt, one after another: each takes the newest prices and leaves the list, and nothing but lanes, prices and events changes. -/
theorem State.adoptAll (ls : List LaneId) (s : State) :
    (ls.foldl State.adopt s).lau.products = s.lau.products ∧
    (∀ l, (ls.foldl State.adopt s).lau.adoption.get l = if l ∈ ls then false else s.lau.adoption.get l) ∧
    (∀ l, (ls.foldl State.adopt s).lane l = if l ∈ ls then { s.lane l with prices := s.lau.newestPrices } else s.lane l) ∧
    { ls.foldl State.adopt s with lau := s.lau, dcu := s.dcu, reu := s.reu } = s := by
  induction ls generalizing s with
  | nil => exact ⟨rfl, fun _ => rfl, fun _ => rfl, rfl⟩
  | cons l ls ih =>
    obtain ⟨products, adoption, lanes, rest⟩ := ih (s.adopt l)
    have lane : ∀ k, (s.adopt l).lane k = if l = k then { s.lane k with prices := s.lau.newestPrices } else s.lane k := fun k =>
      Tab.get_modify s.dcu.lanes l k fun x => { x with prices := s.lau.newestPrices }
    have listed : ∀ k, (s.adopt l).lau.adoption.get k = if l = k then false else s.lau.adoption.get k := fun k => Tab.get_set _ _ _ _
    have newest : (s.adopt l).lau.newestPrices = s.lau.newestPrices := rfl
    rw [List.foldl_cons]
    refine ⟨products, fun k => ?_, fun k => ?_, ?_⟩
    · rw [adoption, listed]
      by_cases hk : k ∈ ls
      · rw [if_pos hk, if_pos (List.mem_cons_of_mem _ hk)]
      · by_cases e : l = k
        · rw [if_neg hk, if_pos e, if_pos (List.mem_cons.mpr (.inl e.symm))]
        · rw [if_neg hk, if_neg e, if_neg fun hm => (List.mem_cons.mp hm).elim (fun h => e h.symm) hk]
    · rw [lanes, lane, newest]
      by_cases hk : k ∈ ls
      · rw [if_pos hk, if_pos (List.mem_cons_of_mem _ hk)]
        split <;> rfl
      · by_cases e : l = k
        · rw [if_neg hk, if_pos e, if_pos (List.mem_cons.mpr (.inl e.symm))]
        · rw [if_neg hk, if_neg e, if_neg fun hm => (List.mem_cons.mp hm).elim (fun h => e h.symm) hk]
    · exact congrArg (fun u : State => { u with lau := s.lau, dcu := s.dcu, reu := s.reu }) rest

theorem State.settlePrices_all (h : ∀ l, s.lau.adoption.get l = false) :
    s.settlePrices = { s with lau := { s.lau with products := s.lau.products.map ProductEntry.settle } } := by
  unfold State.settlePrices
  refine if_pos (List.all_eq_true.mpr fun b hb => ?_)
  obtain ⟨l, rfl⟩ := Tab.mem_items.mp hb
  rw [h l]
  rfl

theorem State.settlePrices_some {l : LaneId} (h : s.lau.adoption.get l = true) : s.settlePrices = s := by
  unfold State.settlePrices
  refine if_neg fun all => ?_
  have := List.all_eq_true.mp all _ (Tab.mem_items.mpr ⟨l, rfl⟩)
  rw [h] at this
  cases this

/-- The lanes that adopt at once. -/
def State.freeLanes (s : State) : List LaneId := (List.finRange 12).filter fun l => (s.bound l).isNone

theorem State.mem_freeLanes (s : State) (l : LaneId) : l ∈ s.freeLanes ↔ s.bound l = none := by
  simp [State.freeLanes]

/-- What a SET PRICES that passes leaves before pending prices settle. -/
def State.priced (s : State) (qs : List (Product × Nat)) : State := ({ s with lau := s.lau.setPending qs } : State).listBusyLanes.freeLanesAdopt

theorem State.setPrices_eq (s : State) (qs : List (Product × Nat)) : s.setPrices qs = (s.priced qs).settlePrices := rfl

theorem State.priced_spec (s : State) (qs : List (Product × Nat)) :
    (s.priced qs).lau.products = (s.lau.setPending qs).products ∧
    (∀ l, (s.priced qs).lau.adoption.get l = if s.bound l = none then false else true) ∧
    (∀ l, (s.priced qs).lane l = if s.bound l = none then { s.lane l with prices := (s.lau.setPending qs).newestPrices } else s.lane l) ∧
    { s.priced qs with lau := s.lau, dcu := s.dcu, reu := s.reu } = s := by
  obtain ⟨products, adoption, lanes, rest⟩ :=
    State.adoptAll s.freeLanes ({ s with lau := s.lau.setPending qs } : State).listBusyLanes
  refine ⟨products, fun l => ?_, fun l => ?_, ?_⟩
  · refine (adoption l).trans ?_
    simp only [State.mem_freeLanes]
    split
    · rfl
    · rename_i hb
      show (Tab.build 12 fun l => s.lau.adoption.get l || (s.bound l).isSome).get l = true
      rw [Tab.get_build, Option.isSome_iff_ne_none.mpr hb, Bool.or_true]
  · refine (lanes l).trans ?_
    simp only [State.mem_freeLanes]
    rfl
  · exact congrArg (fun u : State => { u with lau := s.lau, dcu := s.dcu, reu := s.reu }) rest

theorem PriceUnit.setPending_of_mem {u : PriceUnit} {qs : List (Product × Nat)} (hd : (qs.map Prod.fst).Nodup) {q : Product × Nat}
    (hq : q ∈ qs) : (u.setPending qs).products.get q.1 = { u.products.get q.1 with pending := some q.2 } :=
  Tab.foldl_modify_get_of_mem (k := Prod.fst) (f := fun (q : Product × Nat) (e : ProductEntry) => { e with pending := some q.2 }) hd hq (t := u.products)

theorem PriceUnit.setPending_of_not_mem {u : PriceUnit} {qs : List (Product × Nat)} {p : Product} (h : p ∉ qs.map Prod.fst) :
    (u.setPending qs).products.get p = u.products.get p :=
  Tab.foldl_modify_get_of_not_mem (k := Prod.fst) (f := fun (q : Product × Nat) (e : ProductEntry) => { e with pending := some q.2 }) h

/-- No change of the pending prices touches a class. -/
theorem PriceUnit.setPending_cls (u : PriceUnit) {qs : List (Product × Nat)} (hd : (qs.map Prod.fst).Nodup) (p : Product) :
    ((u.setPending qs).products.get p).cls = (u.products.get p).cls := by
  by_cases hp : p ∈ qs.map Prod.fst
  · obtain ⟨q, hq, rfl⟩ := List.mem_map.mp hp
    rw [PriceUnit.setPending_of_mem hd hq]
  · rw [PriceUnit.setPending_of_not_mem hp]

/-- The marks of a table counted. -/
theorem Tab.count_marks {n : Nat} {t : Tab n Bool} {f : Fin n → Bool} (h : ∀ i, t.get i = f i) :
    (t.items.filter id).length = ((List.finRange n).filter f).length := by
  have items : t.items = (List.finRange n).map f := by
    apply List.ext_getElem (by simp [t.size])
    intro k h1 h2
    have hk : k < n := by rw [← t.size]; exact h1
    rw [List.getElem_map, List.getElem_finRange]
    exact h ⟨k, hk⟩
  rw [items, List.filter_map, List.length_map]
  rfl

theorem State.serveSetPrices_good {qs : List (Product × Fin 100000)} (hl : s.til.load = .run) (hs : s.til.save = none)
    (h1 : 1 ≤ qs.length) (hd : (qs.map (·.1)).Nodup) :
    s.serveSetPrices (spelledPrices qs) =
      ⟨s.setPrices (namedPrices qs), [], .done (.adopting (s.setPrices (namedPrices qs)).adoptingCount)⟩ := by
  have loading : s.loading = false := State.loading_eq_false (by rw [hl]; decide)
  have saving : s.saving = false := congrArg Option.isSome hs
  have tables : ¬ s.til.load = .noTables := by rw [hl]; decide
  simp only [State.serveSetPrices, loading, saving, tables, goodPricePairs_spelled h1 hd, Bool.false_eq_true, if_false]

theorem exec_setPrices {qs : List (Product × Fin 100000)} {tag : Byte} (h : s.takes) (hl : s.til.load = .run) (hs : s.til.save = none)
    (h1 : 1 ≤ qs.length) (hd : (qs.map (·.1)).Nodup) :
    exec (.setPrices tag (1 + 5 * qs.length) (spelledPrices qs)) s =
      .next ((s.heard.setPrices (namedPrices qs)).replied 0x8E tag
        (.done (.adopting (s.heard.setPrices (namedPrices qs)).adoptingCount))) := by
  have good : lengthGood ⟨tag, 1 + 5 * qs.length, .setPrices (spelledPrices qs)⟩ = true := by
    simp [lengthGood, requiredLength, spelledPrices]
  exact State.arrive_served (f := ⟨tag, 1 + 5 * qs.length, .setPrices (spelledPrices qs)⟩) h good
    (State.serveSetPrices_good (s := s.heard) hl hs h1 hd)

/-- Settles O17. -/
theorem setPricesIsAdoptedLaneByLane : Obligations.SetPricesIsAdoptedLaneByLane := by
  refine ⟨fun s tag qs h hl hs h1 hd free => ?_, fun s tag qs h hl hs h1 hd ⟨b, hb⟩ => ?_, fun s tag ps h hl => ?_⟩
  · obtain ⟨products, adoption, lanes, rest⟩ := s.heard.priced_spec (namedPrices qs)
    have hd' : ((namedPrices qs).map Prod.fst).Nodup := (namedPrices_products qs).symm ▸ hd
    have none : ∀ l, (s.heard.priced (namedPrices qs)).lau.adoption.get l = false := fun l => (adoption l).trans (if_pos (free l))
    have settled := State.settlePrices_all none
    have count : (s.heard.setPrices (namedPrices qs)).adoptingCount = 0 := by
      rw [State.setPrices_eq, settled]
      refine (Tab.count_marks (f := fun _ => false) none).trans ?_
      simp
    refine ⟨_, exec_setPrices h hl hs h1 hd, ?_⟩
    rw [count, State.setPrices_eq, settled]
    have price : ∀ p, ((s.heard.priced (namedPrices qs)).lau.products.map ProductEntry.settle).get p =
        ((s.lau.setPending (namedPrices qs)).products.get p).settle := fun p => by rw [Tab.get_map, products]; rfl
    refine ⟨fun q hq => ?_, fun p hp => ?_, fun p => ⟨?_, ?_⟩, fun l => ⟨none l, ?_⟩, ?_⟩
    · refine (congrArg ProductEntry.price (price q.1)).trans ?_
      rw [PriceUnit.setPending_of_mem hd' (List.mem_map_of_mem (f := fun q : Product × Fin 100000 => (q.1, q.2.val)) hq)]
      rfl
    · refine (congrArg ProductEntry.price (price p)).trans ?_
      rw [PriceUnit.setPending_of_not_mem (by rwa [namedPrices_products])]
      rfl
    · exact congrArg ProductEntry.pending (price p)
    · exact (congrArg ProductEntry.cls (price p)).trans (s.lau.setPending_cls hd' p)
    · refine ((lanes l).trans (if_pos (free l))).trans ?_
      have same : (s.lau.setPending (namedPrices qs)).newestPrices =
          ((s.heard.priced (namedPrices qs)).lau.products.map ProductEntry.settle).map (·.price) := by
        ext p
        rw [Tab.get_map, price, PriceUnit.newestPrices, Tab.get_map]
        rfl
      exact congrArg (fun x => ({ s.lane l with prices := x } : Lane)) same
    · exact congrArg (fun u : State => u.replied 0x8E tag ⟨.done, .none, .adopting 0⟩) rest
  · obtain ⟨products, adoption, lanes, rest⟩ := s.heard.priced_spec (namedPrices qs)
    have hd' : ((namedPrices qs).map Prod.fst).Nodup := (namedPrices_products qs).symm ▸ hd
    have listed : (s.heard.priced (namedPrices qs)).lau.adoption.get b = true := (adoption b).trans (if_neg hb)
    have waits := State.settlePrices_some listed
    have count : (s.heard.setPrices (namedPrices qs)).adoptingCount = ((List.finRange 12).filter fun l => (s.bound l).isSome).length := by
      rw [State.setPrices_eq, waits]
      refine Tab.count_marks (f := fun l => (s.bound l).isSome) fun l => (adoption l).trans ?_
      show (if s.bound l = none then false else true) = _
      cases s.bound l <;> rfl
    refine ⟨_, exec_setPrices h hl hs h1 hd, ?_⟩
    rw [count, State.setPrices_eq, waits]
    refine ⟨fun q hq => ?_, fun p hp => ?_, fun l hb => ⟨(lanes l).trans (if_neg hb), (adoption l).trans (if_neg hb)⟩,
      fun l hb => ⟨?_, (adoption l).trans (if_pos hb)⟩, ?_⟩
    · refine (congrArg (fun x => Tab.get x q.1) products).trans ?_
      exact PriceUnit.setPending_of_mem hd' (List.mem_map_of_mem (f := fun q : Product × Fin 100000 => (q.1, q.2.val)) hq)
    · refine (congrArg (fun x => Tab.get x p) products).trans ?_
      exact PriceUnit.setPending_of_not_mem (by rwa [namedPrices_products])
    · refine ((lanes l).trans (if_pos hb)).trans ?_
      exact congrArg (fun x => ({ s.lane l with prices := Tab.map ProductEntry.newest x } : Lane)) products.symm
    · exact congrArg (fun u : State => u.replied 0x8E tag _) rest
  · have loading : s.heard.loading = false := State.loading_eq_false (s := s.heard) hl
    intro refused
    have answer : ∀ why, s.heard.serveSetPrices ps = s.heard.refuse why → refused why := fun why hw =>
      State.arrive_refused (f := ⟨tag, 1 + 5 * ps.length, .setPrices ps⟩) h (by simp [lengthGood, requiredLength]) hw
    have run : s.til.load = .run → ¬ s.heard.til.load = .noTables := fun e => by
      show ¬ s.til.load = .noTables
      rw [e]
      decide
    refine ⟨fun hn => answer _ ?_, fun hr hs => answer _ ?_, fun hr hs hbad => answer _ ?_⟩
    · have none : s.heard.til.load = .noTables := hn
      simp only [State.serveSetPrices, loading, none, Bool.false_eq_true, if_false, if_true]
    · have saving : s.heard.saving = true := hs
      simp only [State.serveSetPrices, loading, run hr, saving, Bool.false_eq_true, if_false, if_true]
    · have saving : s.heard.saving = false := congrArg Option.isSome hs
      simp only [State.serveSetPrices, loading, run hr, saving, goodPricePairs_eq_none hbad, Bool.false_eq_true, if_false]

/-! ### AUTH RESULT -/

theorem exec_authResult {b : AuthResultBody} {tag : Byte} {r : Reply} (h : s.takes) (hl : s.til.load ≠ .loading)
    (hg : authResultGood b = true) (hm : s.heard.matchResult b = ⟨t, [], r⟩) :
    exec (.authResult tag 28 b) s = .next (t.replied 0x85 tag r) := by
  refine State.arrive_served (f := ⟨tag, 28, .authResult b⟩) h rfl ?_
  have loading : s.heard.loading = false := State.loading_eq_false (s := s.heard) hl
  show s.heard.serveAuthResult b = _
  simp only [State.serveAuthResult, loading, hg, Bool.false_eq_true, if_false, if_true, hm]

/-- The limit of a class in a host decision, with the program's limit written out. -/
theorem hostLimit_eq (present : Bool) (v : BitVec 32) (own : Option Nat) :
    hostLimit present v own = if present then some (match own with
        | some p => min (min (max v.toNat 100) 200000) p
        | none => min (max v.toNat 100) 200000)
      else own := by
  cases own <;> rfl

theorem limitMoved_eq_false {present : Bool} {v : BitVec 32} {own : Option Nat} :
    limitMoved present v own = false ↔ (present = true → hostLimit present v own = some v.toNat) := by
  cases present <;> simp [limitMoved, hostLimit]

theorem approvalClamped_eq_false (c : Context) (b : AuthResultBody) : approvalClamped c b = false ↔
    (hostApproval c b).amount = b.amount.toNat ∧ (hostApproval c b).permitted = b.products ∧
      (b.limits.getLsbD 0 = true → (hostApproval c b).dieselLimit = some b.dieselLimit.toNat) ∧
      (b.limits.getLsbD 1 = true → (hostApproval c b).defLimit = some b.defLimit.toNat) := by
  simp only [approvalClamped, Bool.or_eq_false_iff, limitMoved_eq_false, decide_eq_false_iff_not, ne_eq, not_not, and_assoc]
  rfl

theorem authResultGood_approve {b : AuthResultBody} (h0 : b.transaction ≠ 0) (h1 : b.result = 1) (ha : b.amount.toNat ≤ 999999)
    (hc : b.codeLength.toNat ≤ 8) (hp : ∀ x ∈ b.codeChars.take b.codeLength.toNat, 0x20 ≤ x.toNat ∧ x.toNat ≤ 0x7E) :
    authResultGood b = true := by
  have amount : b.amount.toNat ≤ Config.maxAmount := ha
  have chars : (codeOf b).all printable = true := List.all_eq_true.mpr fun x hx => decide_eq_true (hp x hx)
  have named : decide (b.transaction ≠ 0) = true := decide_eq_true h0
  simp only [authResultGood, named, approves, h1, amount, hc, chars, decide_true, Bool.and_self, Bool.or_true]

theorem authResultGood_decline {b : AuthResultBody} (h0 : b.transaction ≠ 0) (h2 : b.result = 2) : authResultGood b = true := by
  have named : decide (b.transaction ≠ 0) = true := decide_eq_true h0
  simp only [authResultGood, named, h2, decide_true, Bool.true_or, Bool.and_self]

/-- Settles O12. -/
theorem approveIsBroughtWithinTheRequest : Obligations.ApproveIsBroughtWithinTheRequest := by
  intro s tag b i h hl hf hst h0 h1 ha hc hp c limit diesel fluid amount products kept
  have good := authResultGood_approve h0 h1 ha hc hp
  have matched : s.heard.matchResult b = s.heard.applyApprove i b := by
    have found : s.heard.findTransaction b.transaction.toNat = some i := hf
    have yes : approves b = true := decide_eq_true h1
    have state : (s.heard.ctx i).state = .offered ∨ (s.heard.ctx i).state = .taken := hst
    rw [State.matchResult, found]
    rcases state with e | e <;> simp only [e, State.applyResult, yes, if_true]
  have approval : hostApproval c b = ⟨amount, products, diesel, fluid,
      if b.codeChars.take b.codeLength.toNat = [] then none else some (b.codeChars.take b.codeLength.toNat)⟩ := by
    rw [hostApproval, hostLimit_eq, hostLimit_eq]
    rfl
  have clamped : approvalClamped c b = false ↔ kept := by
    rw [approvalClamped_eq_false, approval]
  refine ⟨fun ⟨h3, h4⟩ => ?_, fun hz => ?_⟩
  · have some : ¬ ((hostApproval c b).amount = 0 ∨ (hostApproval c b).permitted = 0) := by
      rw [approval]
      exact not_or.mpr ⟨h3, h4⟩
    have applied : s.heard.applyApprove i b = ⟨s.heard.approve i .host (hostApproval c b), [],
        if approvalClamped c b then .partly .clamped .nothing else .done .nothing⟩ := if_neg some
    refine (exec_authResult h hl good (matched.trans applied)).trans ?_
    rw [approval]
    by_cases hk : kept
    · rw [if_pos hk, clamped.mpr hk]
      rfl
    · rw [if_neg hk, Bool.eq_true_of_not_eq_false (mt clamped.mp hk)]
      rfl
  · have none : (hostApproval c b).amount = 0 ∨ (hostApproval c b).permitted = 0 := by
      rw [approval]
      exact hz
    have applied : s.heard.applyApprove i b = ⟨s.heard.declineBy i .host .hostDeclined, [], .partly .clamped .nothing⟩ := if_pos none
    exact exec_authResult h hl good (matched.trans applied)

/-- Settles O13. -/
theorem declineByWhereTheTransactionStands : Obligations.DeclineByWhereTheTransactionStands := by
  intro s tag b h hl h0 h2
  have good := authResultGood_decline h0 h2
  have no : approves b = false := decide_eq_false (by rw [h2]; decide)
  refine ⟨fun i hf => ?_, fun hf => ⟨fun r hr => ?_, fun hr => ?_⟩⟩
  · have found : s.heard.findTransaction b.transaction.toNat = some i := hf
    refine ⟨fun hst => exec_authResult h hl good (r := .done .nothing) ?_,
      fun hst => exec_authResult h hl good (r := .refused .unknownTransaction) ?_, fun hst => ?_⟩
    · have state : (s.heard.ctx i).state = .offered ∨ (s.heard.ctx i).state = .taken := hst
      rw [State.matchResult, found]
      rcases state with e | e <;> simp only [e, State.applyResult, no, Bool.false_eq_true, if_false]
    · have state : (s.heard.ctx i).state = .prompting := hst
      rw [State.matchResult, found]
      simp only [state]
      rfl
    · have decided : s.heard.matchResult b = if decide ((s.heard.ctx i).source = some .standIn) && !approves b
          then ⟨s.heard.lateDecline i, [], .refused .tooLate⟩ else s.heard.refuse .tooLate := by
        have state : (s.heard.ctx i).state ∈ [ContextState.armed, .delivering, .ending, .stopping, .recovering] := hst
        simp only [List.mem_cons, List.not_mem_nil, or_false] at state
        rw [State.matchResult, found]
        rcases state with e | e | e | e | e <;> simp only [e]
      refine ⟨fun hsrc => exec_authResult h hl good (decided.trans ?_), fun hsrc => ?_⟩
      · have other : decide ((s.heard.ctx i).source = some .standIn) = false := decide_eq_false hsrc
        rw [other]
        rfl
      · have own : decide ((s.heard.ctx i).source = some .standIn) = true := decide_eq_true hsrc
        have late : s.heard.matchResult b = ⟨s.heard.lateDecline i, [], .refused .tooLate⟩ := by
          rw [decided, own, no]
          rfl
        have marked : (s.heard.modCtx i Context.flagLateDecline).ctx i = (s.ctx i).flagLateDecline := Tab.get_set_self _ _ _
        refine (exec_authResult h hl good late).trans ?_
        simp only [State.lateDecline, marked]
        rfl
  · have found : s.heard.findTransaction b.transaction.toNat = none := hf
    have record : s.heard.findRecord b.transaction.toNat = some r := hr
    refine exec_authResult h hl good (r := .refused .tooLate) ?_
    rw [State.matchResult, found]
    simp only [record, no, Bool.false_eq_true, if_false]
    rfl
  · have found : s.heard.findTransaction b.transaction.toNat = none := hf
    have record : s.heard.findRecord b.transaction.toNat = none := hr
    refine exec_authResult h hl good (r := .refused .unknownTransaction) ?_
    rw [State.matchResult, found]
    simp only [record]
    rfl

end Sys2Proof.Machine
end

section
/-! The uplink (O11), and the stops of contexts before delivery (O23). -/

namespace Sys2Proof.Machine

open Sys2Proof

variable {s t : State}

/-! ### Decisions touch nothing outside -/

@[simp] theorem State.outside_sayLift (s : State) (i : ContextId) : (s.sayLift i).outside = s.outside := by
  unfold State.sayLift
  split
  · exact s.outside_showOn _ _
  · rfl

@[simp] theorem State.outside_decline (s : State) (i : ContextId) (r : Reason) : (s.decline i r).outside = s.outside := by
  simp [State.decline]

@[simp] theorem State.outside_declineBy (s : State) (i : ContextId) (x : DecisionSource) (r : Reason) :
    (s.declineBy i x r).outside = s.outside := by
  simp [State.declineBy]

@[simp] theorem State.outside_approve (s : State) (i : ContextId) (x : DecisionSource) (a : Approval) :
    (s.approve i x a).outside = s.outside := by
  simp only [State.approve, State.outside_testAttn, State.outside_sayLift]
  rfl

@[simp] theorem State.outside_useStandIn (s : State) (i : ContextId) : (s.useStandIn i).outside = s.outside := by
  simp only [State.useStandIn, State.outside_queueEvent]
  split
  · exact State.outside_queueEvent _ _ _ _
  · rfl

@[simp] theorem State.outside_standInCheck (s : State) (i : ContextId) (o : Origin) : (s.standInCheck i o).outside = s.outside := by
  simp only [State.standInCheck]
  split
  · exact State.outside_declineBy _ _ _ _
  · rw [State.outside_approve, State.outside_useStandIn]
    rfl

/-! ### The walk of an uplink loss -/

/-- The stand-in check leaves its own context decided. -/
theorem State.standInCheck_decides (s : State) (i : ContextId) (o : Origin) : ((s.standInCheck i o).ctx i).state ≠ .offered := by
  rw [State.standInCheck_ctx, if_pos rfl]
  split
  · decide
  · exact fun h => by cases h

theorem State.walkOffered_outside (is : List ContextId) (s : State) : (s.walkOffered is).outside = s.outside := by
  induction is generalizing s with
  | nil => rfl
  | cons i is ih =>
    rw [State.walkOffered, ih]
    split
    · exact State.outside_standInCheck _ _ _
    · rfl

/-- A context that is not OFFERED is not checked. -/
theorem State.walkOffered_ctx_of_not_offered {j : ContextId} (is : List ContextId) {s : State} (h : (s.ctx j).state ≠ .offered) :
    (s.walkOffered is).ctx j = s.ctx j := by
  induction is generalizing s with
  | nil => rfl
  | cons i is ih =>
    have step : (if (s.ctx i).state = .offered then s.standInCheck i .uplinkLoss else s).ctx j = s.ctx j := by
      split
      · rename_i hi
        rw [State.standInCheck_ctx, if_neg]
        rintro rfl
        exact h hi
      · rfl
    rw [State.walkOffered, ih (by rw [step]; exact h), step]

/-- A context outside the list is not checked. -/
theorem State.walkOffered_ctx_of_not_mem {j : ContextId} {is : List ContextId} (h : j ∉ is) (s : State) :
    (s.walkOffered is).ctx j = s.ctx j := by
  induction is generalizing s with
  | nil => rfl
  | cons i is ih =>
    obtain ⟨hi, hr⟩ := not_or.mp (mt List.mem_cons.mpr h)
    rw [State.walkOffered, ih hr]
    split
    · rw [State.standInCheck_ctx, if_neg (Ne.symm hi)]
    · rfl

theorem State.walkOffered_decides {i : ContextId} {is : List ContextId} (h : i ∈ is) (s : State) :
    ((s.walkOffered is).ctx i).state ≠ .offered := by
  induction is generalizing s with
  | nil => cases h
  | cons j is ih =>
    rw [State.walkOffered]
    rcases List.mem_cons.mp h with rfl | h
    · have decided : ((if (s.ctx i).state = .offered then s.standInCheck i .uplinkLoss else s).ctx i).state ≠ .offered := by
        split
        · exact s.standInCheck_decides i _
        · assumption
      rw [State.walkOffered_ctx_of_not_offered is decided]
      exact decided
    · exact ih h _

/-- The walk checks the contexts found OFFERED, in order. -/
theorem State.walkOffered_eq {is : List ContextId} (hd : is.Nodup) (s : State) :
    s.walkOffered is = (is.filter fun i => decide ((s.ctx i).state = .offered)).foldl
      (fun (u : State) i => u.standInCheck i .uplinkLoss) s := by
  induction is generalizing s with
  | nil => rfl
  | cons i is ih =>
    obtain ⟨hi, hd⟩ := List.nodup_cons.mp hd
    rw [State.walkOffered, List.filter_cons]
    by_cases h : (s.ctx i).state = .offered
    · have same : (is.filter fun j => decide (((s.standInCheck i .uplinkLoss).ctx j).state = .offered)) =
          is.filter fun j => decide ((s.ctx j).state = .offered) := by
        refine List.filter_congr fun j hj => ?_
        rw [State.standInCheck_ctx, if_neg]
        rintro rfl
        exact hi hj
      rw [if_pos h, if_pos (decide_eq_true h), ih hd, same, List.foldl_cons]
    · have no : ¬ decide ((s.ctx i).state = .offered) = true := by simpa using h
      rw [if_neg h, if_neg no, ih hd]

/-- What the loss of an uplink that is ONLINE comes to, in the terms of the state it finds. -/
theorem State.loseUplink_spec (h : s.ae.online = true) :
    s.loseUplink.outside = ({ s with ae := { s.ae with online := false } } : State).outside ∧
    (∀ i ∈ s.ae.requests, (s.loseUplink.ctx i).state ≠ .offered) ∧
    (∀ i, i ∉ s.ae.requests ∨ (s.ctx i).state ≠ .offered → s.loseUplink.ctx i = s.ctx i) ∧
    (s.ae.requests.Nodup → s.loseUplink = (s.ae.requests.filter fun i => decide ((s.ctx i).state = ContextState.offered)).foldl
      (fun (u : State) i => u.standInCheck i .uplinkLoss) { s with ae := { s.ae with online := false } }) := by
  have lost : s.loseUplink = State.walkOffered { s with ae := { s.ae with online := false } } s.ae.requests := if_pos h
  rw [lost]
  refine ⟨State.walkOffered_outside _ _, fun i hi => State.walkOffered_decides hi _, fun i hi => ?_, fun hd => State.walkOffered_eq hd _⟩
  rcases hi with hi | hi
  · exact State.walkOffered_ctx_of_not_mem hi _
  · exact State.walkOffered_ctx_of_not_offered _ (s := { s with ae := { s.ae with online := false } }) hi

theorem State.loseUplink_offline (h : s.ae.online = false) : s.loseUplink = s := if_neg (by rw [h]; exact Bool.false_ne_true)

theorem exec_uplinkOffline (h : s.takes) (hl : s.til.load ≠ .loading) (tag : Byte) :
    exec (.uplinkState tag 1 2) s = .next (s.heard.loseUplink.replied 0x86 tag ⟨.done, .none, .nothing⟩) := by
  refine State.arrive_served (f := ⟨tag, 1, .uplinkState 2⟩) h rfl ?_
  have loading : s.heard.loading = false := State.loading_eq_false (s := s.heard) hl
  show s.heard.serveUplinkState 2 = _
  rw [State.serveUplinkState, loading]
  rfl

theorem exec_hostSilence (hp : s.power.phase = .running) (h : s.ae.silence.isSome = true) :
    exec .hostSilenceTimerExpiry s = .next ({ s with ae := { s.ae with silence := none } } : State).loseUplink := by
  show Host.Outcome.next _ = _
  rw [State.whenWorking, if_pos (State.working_of_running hp), if_pos h]

/-- Settles O11. -/
theorem uplinkFollowsTheHostAndItsSilence : Obligations.UplinkFollowsTheHostAndItsSilence := by
  refine ⟨fun s tag h hl => ⟨?_, fun ho => ?_, fun v h1 h2 => ?_⟩, fun s hp => ⟨fun ho hs => ?_, fun ho tag h hl => ?_, fun ho hs => ?_⟩⟩
  · exact (State.arrive_served (f := ⟨tag, 1, .uplinkState 1⟩) h rfl (State.serveUplinkState_online (s := s.heard) hl)).trans rfl
  · rw [exec_uplinkOffline h hl, State.loseUplink_offline (s := s.heard) ho]
  · refine State.arrive_refused (f := ⟨tag, 1, .uplinkState v⟩) h rfl ?_
    have loading : s.heard.loading = false := State.loading_eq_false (s := s.heard) hl
    show s.heard.serveUplinkState v = _
    simp only [State.serveUplinkState, loading, h1, h2, Bool.false_eq_true, if_false]
  · obtain ⟨outside, decided, others, walk⟩ := State.loseUplink_spec (s := { s with ae := { s.ae with silence := none } }) ho
    exact ⟨_, exec_hostSilence hp hs, congrArg Outside.online outside, congrArg Outside.silence outside, decided, others, walk⟩
  · obtain ⟨outside, decided, others, walk⟩ := State.loseUplink_spec (s := s.heard) ho
    exact ⟨_, exec_uplinkOffline h hl tag, congrArg Outside.online outside, rfl, decided, others, fun hd => by rw [walk hd]; rfl⟩
  · rw [exec_hostSilence hp hs, State.loseUplink_offline (s := { s with ae := { s.ae with silence := none } }) ho]

/-! ### Stops before delivery -/

/-- The lists and the latch of two states agree. -/
theorem LatchClean.congr (h : s.LatchClean) (hl : t.rd.latch = s.rd.latch) (hd : t.dlu.heads = s.dlu.heads) : t.LatchClean := by
  intro hlatch hd' c hc
  refine h (hl ▸ hlatch) hd' c ?_
  have same : t.head hd' = s.head hd' := congrArg (fun x => Tab.get x hd') hd
  exact same ▸ hc

theorem LatchClean.replied (h : s.LatchClean) (code tag : Byte) (r : Reply) : (s.replied code tag r).LatchClean :=
  LatchClean.congr h rfl rfl

theorem LatchClean.cancel (h : s.LatchClean) (i : ContextId) (r : Reason) : (s.cancel i r).LatchClean := by
  refine LatchClean.congr h ?_ (by rw [State.cancel_dlu])
  rw [← State.outside_latch, State.outside_cancel, State.outside_latch]

/-- The reply that a stop of a context gets, with what it leaves to do. -/
theorem State.stopContext_before {i : ContextId} (h : (s.ctx i).beforeDelivery) (r : Reason) (c : Contents) :
    s.stopContext i r c = ⟨s.cancel i r, [.arbitrate], .done c⟩ := by
  have going : ¬ (s.ctx i).state = .recovering := by
    rcases h with h | h | h | ⟨h, -⟩ <;> rw [h] <;> decide
  rw [State.stopContext, if_neg going, State.hostStop]
  simp only [(Context.cancellable_iff _).mpr h, if_true, List.nil_append]

theorem State.stopContext_stopping {i : ContextId} (h : (s.ctx i).state = .stopping) (r : Reason) (c : Contents) :
    s.stopContext i r c = ⟨s, [.arbitrate], .done c⟩ := by
  have going : ¬ (s.ctx i).state = .recovering := by rw [h]; decide
  rw [State.stopContext, if_neg going, State.hostStop]
  simp only [Context.cancellable, Context.stoppable, h, Bool.false_eq_true, if_false, List.nil_append]

theorem State.stopContext_recovering {i : ContextId} (h : (s.ctx i).state = .recovering) (r : Reason) (c : Contents) :
    s.stopContext i r c = ⟨s, [], ⟨.refused, .wrongState, c⟩⟩ := if_pos h

theorem State.serveStopLane_bound {l : LaneId} {i : ContextId} (hl : s.til.load ≠ .loading) (hb : s.bound l = some i) :
    s.serveStopLane (BitVec.ofNat 8 (l.val + 1)) = s.stopContext i .hostStop (.transaction (s.ctx i).transaction) := by
  rw [State.serveStopLane, State.loading_eq_false hl, if_neg Bool.false_ne_true, idOf_byte l (by decide)]
  simp only [hb]

theorem State.serveCancelTransaction_found {n : BitVec 32} {i : ContextId} (hl : s.til.load ≠ .loading) (hn : n ≠ 0)
    (hf : s.findTransaction n.toNat = some i) : s.serveCancelTransaction n = s.stopContext i .hostCancel .nothing := by
  rw [State.serveCancelTransaction, State.loading_eq_false hl, if_neg Bool.false_ne_true, if_neg hn, hf]

/-- A request that leaves the arbiter's choice alone. -/
theorem State.arrive_arbitrates {f : HostFrame} {r : Reply} (h : s.takes) (hf : lengthGood f = true)
    (hs : s.heard.serveRequest f.request = ⟨t, [.arbitrate], r⟩) (hc : t.LatchClean) :
    s.arrive f = .next (t.replied (answerCode (requestCode f.request)) f.tag r).arbitrate.1 := by
  rw [State.arrive_good h hf, hs]
  exact finish_arbitrate (LatchClean.replied hc _ _ _)

theorem State.findTransaction_none {n : Nat} (h : ∀ i, (s.ctx i).state = .free ∨ (s.ctx i).transaction ≠ n) :
    s.findTransaction n = none := by
  refine List.find?_eq_none.mpr fun i _ => ?_
  rcases h i with h | h <;> simp [State.holds, Context.inUse, h]

theorem State.findRecord_isSome (s : State) (n : Nat) :
    (s.findRecord n).isSome = s.rd.records.any fun r => decide (r.transaction = n) := by
  rw [State.findRecord, Bool.eq_iff_iff, List.find?_isSome, List.any_eq_true]

/-- Settles O23. -/
theorem stopsCancelBeforeDelivery : Obligations.StopsCancelBeforeDelivery := by
  refine ⟨fun s tag i l n h hl hc => ⟨fun hb => ?_, fun hn hf => ?_⟩, fun s tag h hl => ⟨fun lane hlane => ?_, fun l hb => ?_, ?_, fun n hn hi => ?_⟩⟩
  · have clean : s.heard.LatchClean := LatchClean.congr hc rfl rfl
    have served := State.serveStopLane_bound (s := s.heard) hl hb
    refine ⟨fun hst => ?_, fun hst => ?_, fun hst => ?_⟩
    · exact State.arrive_arbitrates (f := ⟨tag, 1, .stopLane _⟩) h rfl
        (served.trans (State.stopContext_before (s := s.heard) hst _ _)) (LatchClean.cancel clean _ _)
    · exact State.arrive_arbitrates (f := ⟨tag, 1, .stopLane _⟩) h rfl
        (served.trans (State.stopContext_stopping (s := s.heard) hst _ _)) clean
    · exact State.arrive_served (f := ⟨tag, 1, .stopLane _⟩) h rfl
        (served.trans (State.stopContext_recovering (s := s.heard) hst _ _))
  · have clean : s.heard.LatchClean := LatchClean.congr hc rfl rfl
    have served := State.serveCancelTransaction_found (s := s.heard) hl hn hf
    refine ⟨fun hst => ?_, fun hst => ?_, fun hst => ?_⟩
    · exact State.arrive_arbitrates (f := ⟨tag, 4, .cancelTransaction n⟩) h rfl
        (served.trans (State.stopContext_before (s := s.heard) hst _ _)) (LatchClean.cancel clean _ _)
    · exact State.arrive_arbitrates (f := ⟨tag, 4, .cancelTransaction n⟩) h rfl
        (served.trans (State.stopContext_stopping (s := s.heard) hst _ _)) clean
    · exact State.arrive_served (f := ⟨tag, 4, .cancelTransaction n⟩) h rfl
        (served.trans (State.stopContext_recovering (s := s.heard) hst _ _))
  all_goals have loading : s.heard.loading = false := State.loading_eq_false (s := s.heard) hl
  · refine State.arrive_refused (f := ⟨tag, 1, .stopLane lane⟩) h rfl ?_
    simp only [State.serveRequest, State.serveStopLane, loading, idOf_eq_none hlane, Bool.false_eq_true, if_false]
  · refine State.arrive_refused (f := ⟨tag, 1, .stopLane _⟩) h rfl ?_
    have unbound : s.heard.bound l = none := hb
    simp only [State.serveRequest, State.serveStopLane, loading, idOf_byte l (by decide), unbound, Bool.false_eq_true, if_false]
  · refine State.arrive_refused (f := ⟨tag, 4, .cancelTransaction 0⟩) h rfl ?_
    simp only [State.serveRequest, State.serveCancelTransaction, loading, Bool.false_eq_true, if_false, if_true]
  · refine State.arrive_refused (f := ⟨tag, 4, .cancelTransaction n⟩) h rfl ?_
    have none : s.heard.findTransaction n.toNat = none := State.findTransaction_none (s := s.heard) hi
    have records := s.heard.findRecord_isSome n.toNat
    simp only [State.serveRequest, State.serveCancelTransaction, loading, hn, none, records, Bool.false_eq_true, if_false]
    rfl

end Sys2Proof.Machine
end

section
/-! The island terminals: polls and replies, failures, the link's rotation, and the items of ONLINE terminals (O29 to O33, O35 to O38). -/

namespace Sys2Proof

theorem Tab.set_set {n : Nat} {α : Type} (t : Tab n α) (i : Fin n) (a b : α) : (t.set i a).set i b = t.set i b := by
  ext j
  simp only [Tab.get_set]
  split <;> rfl

namespace Machine

variable {s : State}

/-! ### Terminals changed twice -/

theorem State.setTerm_setTerm (s : State) (t : TerminalId) (x y : Terminal) : (s.setTerm t x).setTerm t y = s.setTerm t y := by
  simp only [State.setTerm, Tab.set_set]

@[simp] theorem State.setTerm_term_self (s : State) (t : TerminalId) (x : Terminal) : (s.setTerm t x).term t = x :=
  Tab.get_set_self _ _ _

theorem State.setCtx_ctx_self (s : State) (i : ContextId) (c : Context) : (s.setCtx i c).ctx i = c := Tab.get_set_self _ _ _

theorem State.modTerm_setTerm (s : State) (t : TerminalId) (x : Terminal) (f : Terminal → Terminal) :
    (s.setTerm t x).modTerm t f = s.setTerm t (f x) := by
  rw [State.modTerm, State.setTerm_term_self, State.setTerm_setTerm]

theorem State.modTerm_eq {t : TerminalId} {x : Terminal} (h : s.term t = x) (f : Terminal → Terminal) :
    s.modTerm t f = s.setTerm t (f x) := by rw [State.modTerm, h]

@[simp] theorem State.itemFrom_term (s : State) (t : TerminalId) (seq : Bool) :
    (s.itemFrom t seq).term t = { s.term t with failures := 0, lastTaken := some seq } := Tab.get_set_self _ _ _

/-! ### Replies taken and discarded -/

theorem State.takeReply_of_online {t : TerminalId} (h : s.awaitsTerminal t) (act : State → State) :
    s.takeReply t act = (act (s.replyFrom t)).chooseTerminal := by
  obtain ⟨hp, ⟨m, k, hline⟩, hon⟩ := h
  have awaited : (s.working && decide (s.tlu.line.awaits = some t)) = true := by
    rw [State.working_of_running hp, hline]
    simp [TerminalLine.awaits]
  have valid : s.validReply t = s.replyFrom t := if_pos hon
  rw [State.takeReply, if_pos awaited, valid]

/-- An OFFLINE terminal as a valid reply brings it back. -/
def Terminal.back (x : Terminal) : Terminal :=
  { x with online := true, failures := 0, offlinePoll := .stopped, mode := .idle, current := none, attempts := 0,
           display := .welcome, displayTimer := none, interjection := none }

theorem State.takeReply_of_offline {t : TerminalId} {m : Message} {k : Option Bool} (hp : s.power.phase = .running)
    (hline : s.tlu.line = .window ⟨t, k, m⟩) (hoff : (s.term t).online = false) (act : State → State) :
    s.takeReply t act =
      (act (((s.setTermLine .quiet).setTerm t (s.term t).back).queueEvent .terminalOnline (.terminal t) 0)).chooseTerminal := by
  have awaited : (s.working && decide (s.tlu.line.awaits = some t)) = true := by
    rw [State.working_of_running hp, hline]
    simp [TerminalLine.awaits]
  have valid : s.validReply t = ((s.setTermLine .quiet).setTerm t (s.term t).back).queueEvent .terminalOnline (.terminal t) 0 :=
    if_neg (by show ¬ (s.term t).online = true; rw [hoff]; exact Bool.false_ne_true)
  rw [State.takeReply, if_pos awaited, valid]

theorem State.takeReply_discarded {t : TerminalId} (h : ∀ m k, s.tlu.line ≠ .window ⟨t, k, m⟩) (act : State → State) :
    s.takeReply t act = s := by
  refine if_neg fun e => ?_
  rw [Bool.and_eq_true, decide_eq_true_eq] at e
  obtain ⟨-, e⟩ := e
  unfold TerminalLine.awaits at e
  split at e
  · rename_i p hline
    cases e
    exact h _ _ hline
  · cases e

theorem State.takeItem_fresh {t : TerminalId} {seq : Bool} (h : (s.term t).lastTaken ≠ some seq) (act : State → State) :
    (s.replyFrom t).takeItem t seq act = act (s.itemFrom t seq) := by
  have read : (s.replyFrom t).term t = { s.term t with failures := 0 } := Tab.get_set_self _ _ _
  have fresh : ¬ ((s.replyFrom t).term t).lastTaken = some seq := by rw [read]; exact h
  have taken : (s.replyFrom t).modTerm t (fun x => { x with lastTaken := some seq }) = s.itemFrom t seq := by
    rw [State.modTerm, read]
    simp only [State.setTerm, State.replyFrom, State.itemFrom, Tab.set_set]
  rw [State.takeItem, if_neg fresh, taken]

theorem State.takeItem_repeated {t : TerminalId} {seq : Bool} (h : (s.term t).lastTaken = some seq) (act : State → State) :
    (s.replyFrom t).takeItem t seq act = s.replyFrom t := by
  have read : (s.replyFrom t).term t = { s.term t with failures := 0 } := Tab.get_set_self _ _ _
  exact if_pos (by rw [read]; exact h)

/-- An item that is no repeat, in the reply of an ONLINE terminal. -/
theorem State.takeReply_item {t : TerminalId} {seq : Bool} (h : s.awaitsTerminal t) (hs : (s.term t).lastTaken ≠ some seq)
    (act : State → State) : (s.takeReply t fun u => u.takeItem t seq act) = (act (s.itemFrom t seq)).chooseTerminal := by
  rw [State.takeReply_of_online h, State.takeItem_fresh hs]

theorem State.item_outcome {t : TerminalId} {seq : Bool} (h : s.awaitsTerminal t) (hs : (s.term t).lastTaken ≠ some seq)
    (act : State → State) : (Host.Outcome.next (s.takeReply t fun u => u.takeItem t seq act) : Host.Outcome State Fault Refusal) =
      .next (act (s.itemFrom t seq)).chooseTerminal := by
  rw [State.takeReply_item h hs]

/-- The reply of an OFFLINE terminal is that of one that is ONLINE in IDLE mode already. -/
theorem State.takeReply_back {t : TerminalId} {m : Message} {k : Option Bool} (hp : s.power.phase = .running)
    (hline : s.tlu.line = .window ⟨t, k, m⟩) (hoff : (s.term t).online = false) (act : State → State) :
    s.takeReply t act = ((s.setTerm t (s.term t).back).queueEvent .terminalOnline (.terminal t) 0).takeReply t act := by
  have read : ((s.setTerm t (s.term t).back).queueEvent .terminalOnline (.terminal t) 0).term t = (s.term t).back := Tab.get_set_self _ _ _
  have awaits : ((s.setTerm t (s.term t).back).queueEvent .terminalOnline (.terminal t) 0).awaitsTerminal t :=
    ⟨hp, ⟨m, k, hline⟩, by rw [read]; rfl⟩
  have same : ((s.setTerm t (s.term t).back).queueEvent .terminalOnline (.terminal t) 0).replyFrom t =
      ((s.setTermLine .quiet).setTerm t (s.term t).back).queueEvent .terminalOnline (.terminal t) 0 := by
    rw [State.replyFrom, read]
    show State.mk .. = State.mk ..
    congr 1
    show TerminalUnit.mk .. = TerminalUnit.mk ..
    congr 1
    exact Tab.set_set _ _ _ _
  rw [State.takeReply_of_offline hp hline hoff, State.takeReply_of_online awaits, same]

/-- Settles O29. -/
theorem terminalPollsAndReplies : Obligations.TerminalPollsAndReplies := by
  intro s hp
  refine ⟨fun p hline => ?_, fun t h => ?_, fun t m k hline hoff => ?_, fun t m k hline hoff => ?_, fun t hne => ?_⟩
  · show Host.Outcome.next _ = _
    rw [State.whenWorking, if_pos (State.working_of_running hp), hline]
    rfl
  · exact congrArg Host.Outcome.next (State.takeReply_of_online h id)
  · exact congrArg Host.Outcome.next (State.takeReply_of_offline hp hline hoff id)
  · intro back seq
    have same : ∀ act : State → State,
        (Host.Outcome.next (s.takeReply t act) : Host.Outcome State Fault Refusal) = .next (back.takeReply t act) := fun act => congrArg Host.Outcome.next (State.takeReply_back hp hline hoff act)
    exact ⟨fun card => same _, same _, fun chars => same _, same _⟩
  · have discarded : ∀ act : State → State, (Host.Outcome.next (s.takeReply t act) : Host.Outcome State Fault Refusal) = .next s :=
      fun act => congrArg Host.Outcome.next (State.takeReply_discarded hne act)
    exact ⟨discarded _, fun seq => ⟨fun card => discarded _, discarded _, fun chars => discarded _, discarded _⟩⟩

/-- Settles O32. -/
theorem repeatedItemsAreNotTaken : Obligations.RepeatedItemsAreNotTaken := by
  intro s t seq h hs
  have repeated : ∀ act : State → State,
      (Host.Outcome.next (s.takeReply t fun u => u.takeItem t seq act) : Host.Outcome State Fault Refusal) = .next (s.replyFrom t).chooseTerminal := fun act => by
    rw [State.takeReply_of_online h, State.takeItem_repeated hs]
  exact ⟨fun card => repeated _, repeated _, fun chars => repeated _, repeated _⟩

/-! ### Failures -/

theorem saturating_eq_min (max n : Nat) : saturating max n = min max n := by
  unfold saturating
  split <;> omega

/-- Settles O30. -/
theorem terminalFailuresAreCounted : Obligations.TerminalFailuresAreCounted := by
  intro s t m k e hp hline x put
  have counted : (s.term t).addErrors e = x := by
    simp only [Terminal.addErrors, saturating_eq_min]
    rfl
  have expires : exec (.terminalReplyWindowExpiry e) s = .next ((s.setTermLine .quiet).terminalFails t e).chooseTerminal := by
    show Host.Outcome.next _ = _
    rw [State.whenWorking, if_pos (State.working_of_running hp), hline]
    rfl
  have added : (s.setTermLine .quiet).modTerm t (fun y => y.addErrors e) = put x := by
    rw [← counted]
    rfl
  have read : (put x).term t = x := Tab.get_set_self _ _ _
  have twice : ∀ f : Terminal → Terminal, (put x).modTerm t f = put (f x) := fun f => State.modTerm_setTerm (s.setTermLine .quiet) t x f
  rw [expires, State.terminalFails, added, read]
  refine ⟨fun hoff => ?_, fun hon hf => ?_, fun hon hf => ?_⟩
  · rw [if_neg (by rw [hoff]; exact Bool.false_ne_true)]
  · have below : ¬ Config.terminalFailureLimit ≤ x.failures + 1 := by
      show ¬ 3 ≤ x.failures + 1
      omega
    rw [if_pos hon, if_neg below, twice]
  · intro gone
    have limit : Config.terminalFailureLimit ≤ x.failures + 1 := by
      show 3 ≤ x.failures + 1
      omega
    have lost : (put x).modTerm t Terminal.goOffline = gone := twice _
    have held : (put x).heldContext t = s.heldContext t := rfl
    rw [if_pos hon, if_pos limit, State.terminalOffline, held, lost]
    cases s.heldContext t with
    | none => rfl
    | some i =>
      have freed : gone.modCtx i (fun c => { c with held := false }) = gone.setCtx i { s.ctx i with held := false } := rfl
      have state : ((gone.setCtx i { s.ctx i with held := false }).ctx i).state = (s.ctx i).state := by
        rw [State.setCtx_ctx_self]
      simp only [State.loseTerminal, freed, state]

/-! ### The rotation of the link -/

theorem Terminal.shows_eq (x : Terminal) : x.shows = if x.mode = .offline then .welcome
    else match x.interjection with
      | some (m, _) => m
      | none => x.display := by
  obtain ⟨_, _, _, _, mode, _, _, display, _, interjection⟩ := x
  cases mode <;> rcases interjection with _ | ⟨m, tm⟩ <;> rfl

theorem State.pollOf_eq (s : State) (t : TerminalId) : s.pollOf t = ⟨t, (s.term t).lastTaken, (s.term t).shows⟩ := rfl

/-- Settles O31. -/
theorem terminalLinkChoosesInRotation : Obligations.TerminalLinkChoosesInRotation := by
  intro s
  refine ⟨fun hq => ⟨fun t ht => ?_, fun hdue => ⟨fun t ht => ?_, fun hoff => ?_⟩⟩, fun hline => if_pos hline, fun t tm hp hpoll => ?_⟩
  all_goals try have free : ¬ s.tlu.line ≠ .quiet := not_not.mpr hq
  · rw [State.chooseTerminal, if_neg free, ht]
    show State.pollOffline s t = _
    have read : (s.modTerm t fun x => { x with offlinePoll := .running (.start Config.offlinePollTime) }).term t =
        { s.term t with offlinePoll := .running (.start Config.offlinePollTime) } := Tab.get_set_self _ _ _
    simp only [State.pollOffline, State.pollOf_eq, read, Terminal.shows_eq] <;> rfl
  · have noneDue : (rotateFrom s.tlu.lastOffline).find? (fun t => (s.term t).due) = none :=
      List.find?_eq_none.mpr fun u _ => by rw [hdue u]; exact Bool.false_ne_true
    rw [State.chooseTerminal, if_neg free, noneDue, ht]
    simp only [State.pollOnline, State.pollOf_eq, Terminal.shows_eq] <;> rfl
  · have noneDue : (rotateFrom s.tlu.lastOffline).find? (fun t => (s.term t).due) = none :=
      List.find?_eq_none.mpr fun u _ => by rw [hdue u]; exact Bool.false_ne_true
    have noneOnline : (rotateFrom s.tlu.lastOnline).find? (fun t => (s.term t).online) = none :=
      List.find?_eq_none.mpr fun u _ => Bool.eq_false_iff.mp (hoff u)
    rw [State.chooseTerminal, if_neg free, noneDue, noneOnline]
  · show Host.Outcome.next _ = _
    rw [State.whenWorking, if_pos (State.working_of_running hp), hpoll]
    rfl

/-! ### Cards refused, card errors -/

theorem State.roomRefusal_eq (s : State) : s.roomRefusal =
    if s.rd.freeList = [] ∨ 48 ≤ s.rd.records.length + s.inUseCount then some .stationBusy else none := by
  unfold State.roomRefusal
  by_cases h1 : s.rd.freeList = []
  · rw [if_pos h1, if_pos (.inl h1)]
  · rw [if_neg h1]
    by_cases h2 : 48 ≤ s.rd.records.length + s.inUseCount
    · have full : s.rd.freeList = [] ∨ 48 ≤ s.rd.records.length + s.inUseCount := .inr h2
      exact (if_pos h2).trans (if_pos full).symm
    · have room : ¬(s.rd.freeList = [] ∨ 48 ≤ s.rd.records.length + s.inUseCount) := not_or.mpr ⟨h1, h2⟩
      exact (if_neg h2).trans (if_neg room).symm

/-- R3's conditions in their order, each written out. -/
theorem State.cardRefusal_eq (s : State) (t : TerminalId) : s.cardRefusal t =
    (if s.til.load ≠ .run then some .stationClosed
     else if s.rd.latch = true then some .stationClosed
     else if (s.terminalLanes t).all (fun l => !(s.lane l).config.isOpen) then some .stationClosed
     else match s.terminalLanes t with
       | [l] => if (s.lane l).state ≠ .idle then some (.laneInUse l)
         else if s.rd.freeList = [] ∨ 48 ≤ s.rd.records.length + s.inUseCount then some .stationBusy else none
       | _ => if s.rd.freeList = [] ∨ 48 ≤ s.rd.records.length + s.inUseCount then some .stationBusy else none) := by
  rw [State.cardRefusal, List.not_any_eq_all_not, State.roomRefusal_eq] <;> rfl

/-- Settles O33. -/
theorem cardReadsAreRefusedInOrder : Obligations.CardReadsAreRefusedInOrder := by
  intro s t seq card data m h hs hmode hread lanes hm
  have refusal : (s.itemFrom t seq).cardRefusal t = some m := ((s.itemFrom t seq).cardRefusal_eq t).trans hm
  have mode : ((s.itemFrom t seq).term t).mode = .idle := by rw [State.itemFrom_term]; exact hmode
  have shown : (s.itemFrom t seq).takeCardItem t card = (s.itemFrom t seq).showOn t m := by
    rw [State.takeCardItem, hread]
    simp only [mode, if_true, State.takeCard, refusal]
  refine congrArg Host.Outcome.next ((State.takeReply_item h hs _).trans ?_)
  rw [shown, State.showOn, State.modTerm_eq (State.itemFrom_term s t seq)]
  rfl

/-- Settles O35. -/
theorem cardErrorsAreShown : Obligations.CardErrorsAreShown := by
  intro s t seq card h hs time base again wait
  have item := State.item_outcome h hs
  have mode : ((s.itemFrom t seq).term t).mode = (s.term t).mode := by rw [State.itemFrom_term]
  have interjected : (s.itemFrom t seq).interjectOn t .pleaseWait = (s.itemFrom t seq).setTerm t { base with interjection := some (.pleaseWait, time) } :=
    State.modTerm_eq (State.itemFrom_term s t seq) _
  refine ⟨fun hm => ?_, fun hm => ?_⟩
  · have error : (s.itemFrom t seq).takeCardError t = (s.itemFrom t seq).setTerm t { base with
        mode := .shown, current := none, attempts := 0, display := .readAgain, displayTimer := some time, interjection := none } := by
      rw [State.takeCardError, if_pos (mode.trans hm), State.showOn, State.modTerm_eq (State.itemFrom_term s t seq)]
      rfl
    refine ⟨(item _).trans (by rw [error]), fun hread => (item _).trans ?_⟩
    rw [State.takeCardItem, hread, error]
  · have error : (s.itemFrom t seq).takeCardError t = (s.itemFrom t seq).setTerm t { base with interjection := some (.pleaseWait, time) } := by
      rw [State.takeCardError, if_neg (by rw [mode]; exact hm), interjected]
    refine ⟨(item _).trans (by rw [error]), (item _).trans ?_⟩
    rw [State.takeCardItem]
    cases readCard card with
    | none => rw [error]
    | some d =>
      exact congrArg (fun u : State => (Host.Outcome.next u.chooseTerminal : Host.Outcome State Fault Refusal))
        ((if_neg (by rw [mode]; exact hm)).trans interjected)

/-! ### Entries -/

/-- A counted attempt that is not the third. -/
theorem State.countAttempt_below {t : TerminalId} {i : ContextId} {x : Terminal} (hx : s.term t = x) (h : x.attempts < 2)
    (k : PromptKind) (m : Message) :
    s.countAttempt i t k m = (s.setTerm t { x with
        attempts := x.attempts + 1
        interjection := some (m, ⟨10 * s.til.params.get 6, 10 * s.til.params.get 6⟩) }).setCtx i
      { s.ctx i with deadline := some ⟨10 * s.til.params.get 0, 10 * s.til.params.get 0⟩ } := by
  have below : ¬ 3 ≤ (s.term t).attempts + 1 := by rw [hx]; omega
  rw [State.countAttempt, if_neg below, State.modTerm_eq hx]
  simp only [State.interjectOn, State.modTerm_setTerm]
  rfl

/-- The third attempt. -/
theorem State.countAttempt_third {t : TerminalId} {i : ContextId} {x : Terminal} (hx : s.term t = x) (h : 2 ≤ x.attempts)
    (k : PromptKind) (m : Message) :
    s.countAttempt i t k m = (s.setTerm t { x with attempts := 3 }).cancel i (attemptReason k) := by
  have third : 3 ≤ (s.term t).attempts + 1 := by rw [hx]; omega
  rw [State.countAttempt, if_pos third, State.modTerm_eq hx]

theorem acceptsEntry_lanes {k : PromptKind} (hk : k ≠ .lane) (lanes : List LaneId) (ds : Digits) :
    acceptsEntry k lanes ds = acceptsEntry k [] ds := by
  cases k with
  | lane => exact absurd rfl hk
  | _ => rfl

theorem attemptReason_prompt {k : PromptKind} (hk : k ≠ .lane) : attemptReason k = .prompt := by
  cases k with
  | lane => exact absurd rfl hk
  | _ => rfl

theorem State.takeValid_prompt {k : PromptKind} (hk : k ≠ .lane) (s : State) (i : ContextId) (t : TerminalId) (ds : Digits) :
    s.takeValid i t k ds = (s.modTerm t fun x => { x with interjection := none }).takeEntry i k ds := by
  cases k with
  | lane => exact absurd rfl hk
  | _ => rfl

theorem State.takeEntryItem_prompt {t : TerminalId} {k : PromptKind} {i : ContextId} (hm : (s.term t).mode = .prompt)
    (hc : (s.term t).current = some k) (hi : s.heldContext t = some i) (chars : List Byte) :
    s.takeEntryItem t chars = s.checkEntry i t k chars := by
  rw [State.takeEntryItem, hm, hc, hi]

/-- An entry that no digits spell, or that its prompt does not accept, is a counted attempt. -/
theorem State.checkEntry_refused {i : ContextId} {t : TerminalId} {k : PromptKind} {chars : List Byte}
    (h : ∀ ds, digitsOf chars = some ds → acceptsEntry k (s.terminalLanes t) ds = false) :
    s.checkEntry i t k chars = s.countAttempt i t k .invalidEntry := by
  rw [State.checkEntry]
  cases hd : digitsOf chars with
  | none => rfl
  | some ds => simp only [h ds hd, Bool.false_eq_true, if_false]

/-- Settles O36. -/
theorem entriesAreCheckedAndCounted : Obligations.EntriesAreCheckedAndCounted := by
  intro s t seq chars i k h hs u x
  have item := State.item_outcome h hs
  have term : u.term t = x := State.itemFrom_term s t seq
  refine ⟨fun hm hc hk hi => ?_, fun hm => ?_⟩
  · have checked : u.takeEntryItem t chars = u.checkEntry i t k chars :=
      State.takeEntryItem_prompt (s := u) (k := k) (by rw [term]; exact hm) (by rw [term]; exact hc) hi chars
    refine ⟨fun ds hd ha => (item _).trans ?_, fun hbad => ?_⟩
    · have accepted : acceptsEntry k (u.terminalLanes t) ds = true := (acceptsEntry_lanes hk _ ds).trans ha
      rw [checked, State.checkEntry, hd]
      simp only [accepted, if_true, State.takeValid_prompt hk, State.modTerm_eq term]
      rfl
    · have counted : u.takeEntryItem t chars = u.countAttempt i t k .invalidEntry :=
        checked.trans (State.checkEntry_refused fun ds hd => (acceptsEntry_lanes hk _ ds).trans (hbad ds hd))
      refine ⟨fun ha => (item _).trans ?_, fun ha => (item _).trans ?_⟩
      · rw [counted, State.countAttempt_below term ha]
        rfl
      · rw [counted, State.countAttempt_third term ha, attemptReason_prompt hk]
  · have discarded : u.takeEntryItem t chars = u := by
      have mode : (u.term t).mode ≠ .prompt := by rw [term]; exact hm
      unfold State.takeEntryItem
      split
      · rename_i hm' _ _
        exact absurd hm' mode
      · rfl
    refine (item _).trans ?_
    rw [discarded]

/-! ### LANE entries -/

theorem State.mem_terminalLanes (s : State) (t : TerminalId) (l : LaneId) :
    l ∈ s.terminalLanes t ↔ (s.lane l).config.terminal = some t := by
  simp [State.terminalLanes]

theorem laneNamed_eq {lanes : List LaneId} {l : LaneId} {ds : Digits} (hl : l ∈ lanes) (hv : valueOf ds = l.val + 1) :
    laneNamed lanes ds = some l := by
  have unique : ∀ k : LaneId, numberOf k = valueOf ds → k = l := fun k hk => Fin.ext (by rw [hv, numberOf] at hk; omega)
  cases hf : laneNamed lanes ds with
  | none =>
    have := List.find?_eq_none.mp hf l hl
    rw [decide_eq_true_eq] at this
    exact absurd hv.symm this
  | some k => rw [unique k (by simpa using List.find?_some hf)]

/-- Settles O37. -/
theorem laneEntriesBindOrCount : Obligations.LaneEntriesBindOrCount := by
  refine ⟨fun s t seq chars ds i l h hs hm hc hi hd h1 h2 hl hv => ?_, fun s t seq chars i h hs hm hc hi hbad => ?_⟩
  · intro x u
    have item := State.item_outcome h hs
    have term := State.itemFrom_term s t seq
    have mem : l ∈ s.terminalLanes t := (s.mem_terminalLanes t l).mpr hl
    have named : laneNamed (s.terminalLanes t) ds = some l := laneNamed_eq mem hv
    have accepted : acceptsEntry .lane (s.terminalLanes t) ds = true := by
      have some : (s.terminalLanes t).any (fun l => decide (numberOf l = valueOf ds)) = true :=
        List.any_eq_true.mpr ⟨l, mem, decide_eq_true hv.symm⟩
      rw [acceptsEntry, some, decide_eq_true ⟨h1, h2⟩]
      rfl
    have taken : (s.itemFrom t seq).takeEntryItem t chars = u.takeLane i t l := by
      rw [State.takeEntryItem_prompt (s := s.itemFrom t seq) (k := .lane) (by rw [term]; exact hm) (by rw [term]; exact hc) hi, State.checkEntry, hd]
      have accepted' : acceptsEntry .lane ((s.itemFrom t seq).terminalLanes t) ds = true := accepted
      have cleared : (s.itemFrom t seq).modTerm t (fun x => { x with interjection := none }) = u := State.modTerm_eq term _
      have named' : laneNamed (u.terminalLanes t) ds = some l := named
      simp only [accepted', if_true, State.takeValid, cleared, named']
    have uterm : u.term t = x := State.setTerm_term_self _ _ _
    refine ⟨fun hst ho => (item _).trans ?_, fun hbad => ⟨fun ha => (item _).trans ?_, fun ha => (item _).trans ?_⟩⟩
    · have free : (u.lane l).state = .idle ∧ (u.lane l).config.isOpen = true := ⟨hst, ho⟩
      rw [taken, State.takeLane, if_pos free]
      rfl
    all_goals
      have busy : ¬((u.lane l).state = .idle ∧ (u.lane l).config.isOpen = true) := by
        rintro ⟨h1, h2⟩
        exact hbad.elim (· h1) fun h3 => Bool.false_ne_true (h3.symm.trans h2)
      rw [taken, State.takeLane, if_neg busy]
    · rw [State.countAttempt_below uterm ha]
      rfl
    · rw [State.countAttempt_third uterm ha]
      rfl
  · intro x u
    have item := State.item_outcome h hs
    have term : u.term t = x := State.itemFrom_term s t seq
    have counted : u.takeEntryItem t chars = u.countAttempt i t .lane .invalidEntry := by
      rw [State.takeEntryItem_prompt (s := u) (k := .lane) (by rw [term]; exact hm) (by rw [term]; exact hc) hi]
      refine State.checkEntry_refused fun ds hd => ?_
      rw [acceptsEntry, Bool.and_eq_false_iff]
      by_cases hlen : 1 ≤ ds.length ∧ ds.length ≤ 2
      · refine .inr (List.any_eq_false.mpr fun l hl => ?_)
        rw [decide_eq_true_eq]
        exact fun e => hbad ds hd hlen.1 hlen.2 l ((s.mem_terminalLanes t l).mp hl) e.symm
      · exact .inl (decide_eq_false hlen)
    refine ⟨fun ha => (item _).trans ?_, fun ha => (item _).trans ?_⟩
    · rw [counted, State.countAttempt_below term ha]
      rfl
    · rw [counted, State.countAttempt_third term ha]
      rfl

/-! ### The CANCEL key and the display -/

/-- Settles O38. -/
theorem cancelKeyAndDisplayTimes : Obligations.CancelKeyAndDisplayTimes := by
  refine ⟨fun s t seq h hs => ?_, fun s t hp => ⟨fun hd => ?_, ?_⟩⟩
  · intro u
    have item := State.item_outcome h hs
    have mode : (u.term t).mode = (s.term t).mode := by
      rw [show u.term t = _ from State.itemFrom_term s t seq]
    refine ⟨fun hm => (item _).trans ?_, fun i hm hi => ?_, fun hm hi => (item _).trans ?_⟩
    · have idle : u.takeCancelItem t = u := by rw [State.takeCancelItem, mode, hm]
      rw [idle]
    · have held : u.heldContext t = some i := hi
      have taken : u.takeCancelItem t = if (u.ctx i).cancellable then u.cancel i .driver else u := by
        rw [State.takeCancelItem, mode, held]
        rcases hm with hm | hm | hm <;> rw [hm]
      refine ⟨fun hb => (item _).trans ?_, fun hb => (item _).trans ?_⟩
      · have yes : (u.ctx i).cancellable = true := (Context.cancellable_iff _).mpr hb
        rw [taken, if_pos yes]
      · have no : ¬ (u.ctx i).cancellable = true := mt (Context.cancellable_iff _).mp hb
        rw [taken, if_neg no]
    · have none : u.heldContext t = none := hi
      have ended : u.takeCancelItem t = u.modTerm t Terminal.toIdle := by
        rw [State.takeCancelItem, mode, hm, none]
      rw [ended, State.modTerm_eq (State.itemFrom_term s t seq)]
      rfl
  · intro u
    show Host.Outcome.next _ = _
    rw [State.whenWorking, if_pos (State.working_of_running hp), if_pos hd]
    cases hh : s.heldContext t with
    | none =>
      simp only [State.endShow, hh]
      rfl
    | some i =>
      simp only [State.endShow, hh]
      rfl
  · show Host.Outcome.next _ = _
    rw [State.whenWorking, if_pos (State.working_of_running hp)]
    rfl

end Machine
end Sys2Proof
end

section
/-! Closing a context (O39): its record, its lane, the prices and the events it leaves. -/

namespace Sys2Proof.Machine

open Sys2Proof

variable {s t u : State}

/-! ### The record -/

theorem saleTotal_eq (lines : List SaleLine) : saleTotal lines = min 9999999 (lines.map (·.amount)).sum := saturating_eq_min _ _

/-- The kind of the record that a path writes, written out. -/
theorem Context.recordKind_eq (c : Context) (p : ClosePath) : c.recordKind p = match p with
    | .kind k => k
    | .byVolume => if 0 < c.totalVolume then RecordKind.sale else .noSale := by
  cases p <;> rfl

theorem Context.marked_flags (c : Context) (p : ClosePath) :
    c.marked p = { c with flags := { c.flags with overLimit := c.flags.overLimit || c.overApproved (c.recordKind p) } } := by
  unfold Context.marked
  cases h : c.overApproved (c.recordKind p)
  · simp
  · simp [Context.flagOverLimit]

/-- The record of a closing, field by field. -/
theorem State.closingRecord_eq (s : State) (i : ContextId) (p : ClosePath) : s.closingRecord i p =
    { transaction := (s.ctx i).transaction, kind := (s.ctx i).recordKind p, terminal := (s.ctx i).terminal, lane := (s.ctx i).lane,
      program := (s.ctx i).program, card := (s.ctx i).card.recorded, entries := (s.ctx i).entries, source := (s.ctx i).source,
      approved := (s.ctx i).approved, code := (s.ctx i).approval.bind (·.code),
      lines := (s.ctx i).recordLines ((s.ctx i).recordKind p),
      total := saleTotal ((s.ctx i).recordLines ((s.ctx i).recordKind p)),
      excess := saleTotal ((s.ctx i).recordLines ((s.ctx i).recordKind p)) - (s.ctx i).approved,
      flags := { (s.ctx i).flags with overLimit := (s.ctx i).flags.overLimit || (s.ctx i).overApproved ((s.ctx i).recordKind p) },
      reason := (s.ctx i).reason, started := (s.ctx i).started, ended := s.stamp } := by
  rw [State.closingRecord, Context.marked_flags]
  rfl

/-- The event unit after the OVER LIMIT test of a closing. -/
def State.afterMark (s : State) (i : ContextId) (p : ClosePath) : EventUnit :=
  if (s.ctx i).overApproved ((s.ctx i).recordKind p) then s.reu.occur .overLimit (laneSubject (s.ctx i).lane) 0 s.stamp else s.reu

/-- What writing a record leaves of the rest. -/
theorem State.writeRecord_rest (s : State) (i : ContextId) (p : ClosePath) :
    (s.writeRecord i p).dcu = s.dcu ∧ (s.writeRecord i p).lau = s.lau ∧ (s.writeRecord i p).til = s.til ∧
      (s.writeRecord i p).scc = s.scc ∧ (s.writeRecord i p).rd.locks = s.rd.locks ∧ (s.writeRecord i p).tlu = s.tlu ∧
      (s.writeRecord i p).stamp = s.stamp ∧
      ∃ b, (s.writeRecord i p).reu = { s.afterMark i p with attn := b } := by
  unfold State.writeRecord State.afterMark
  dsimp only
  split
  · exact ⟨rfl, rfl, rfl, rfl, rfl, rfl, rfl, _, rfl⟩
  · exact ⟨rfl, rfl, rfl, rfl, rfl, rfl, rfl, _, rfl⟩

theorem State.writeRecord_ctx (s : State) (i : ContextId) (p : ClosePath) : (s.writeRecord i p).ctx i = (s.ctx i).marked p := by
  have h := congrArg Inside.contexts (State.inside_writeRecord s i p)
  show (s.writeRecord i p).inside.contexts.get i = _
  rw [h]
  exact Tab.get_set_self _ _ _

theorem State.sayClosing_only (s : State) (t : Option TerminalId) (m : Option Message) : ∃ y, s.sayClosing t m = { s with tlu := y } := by
  cases t <;> cases m <;> exact ⟨_, rfl⟩

/-! ### Lanes changed -/

@[simp] theorem State.setLane_lane_self (s : State) (l : LaneId) (x : Lane) : (s.setLane l x).lane l = x := Tab.get_set_self _ _ _

theorem State.setLane_lane_ne (s : State) {l k : LaneId} (h : l ≠ k) (x : Lane) : (s.setLane l x).lane k = s.lane k := Tab.get_set_ne _ h _

theorem State.setLane_setLane (s : State) (l : LaneId) (x y : Lane) : (s.setLane l x).setLane l y = s.setLane l y := by
  simp only [State.setLane, Tab.set_set]

theorem State.setLane_self (s : State) (l : LaneId) : s.setLane l (s.lane l) = s := by
  have same : s.dcu.lanes.set l (s.lane l) = s.dcu.lanes := Tab.set_get _ _
  simp only [State.setLane, same]

/-! ### Adoption as a lane is unbound -/

theorem State.adoptIfListed_unlisted {l : LaneId} (h : s.lau.adoption.get l = false) : s.adoptIfListed l = s :=
  if_neg (by rw [h]; exact Bool.false_ne_true)

/-- The prices of the products once a lane has left the adoption list (R148, R149). -/
def PriceUnit.leave (x : PriceUnit) (l : LaneId) : PriceUnit :=
  if (x.adoption.set l false).items.all (!·) then ⟨x.products.map ProductEntry.settle, x.adoption.set l false⟩
  else ⟨x.products, x.adoption.set l false⟩

theorem State.adoptIfListed_listed {l : LaneId} (h : s.lau.adoption.get l = true) :
    ∃ b, s.adoptIfListed l = { s.setLane l { s.lane l with prices := s.lau.newestPrices } with
      lau := s.lau.leave l, reu := { s.reu.occur .priceAdopted (.lane l) 0 s.stamp with attn := b } } := by
  have adopts : s.adoptIfListed l = (s.adopt l).settlePrices := if_pos h
  rw [adopts, State.settlePrices, PriceUnit.leave]
  by_cases all : (s.lau.adoption.set l false).items.all (!·) = true
  · rw [if_pos all]
    exact ⟨_, if_pos all⟩
  · rw [if_neg all]
    exact ⟨_, if_neg all⟩

theorem PriceUnit.leave_adoption (x : PriceUnit) (l : LaneId) : (x.leave l).adoption = x.adoption.set l false := by
  unfold PriceUnit.leave
  split <;> rfl

theorem PriceUnit.leave_last {x : PriceUnit} {l : LaneId} (h : ∀ m, m ≠ l → x.adoption.get m = false) :
    (x.leave l).products = x.products.map fun e => { e with price := e.pending.getD e.price, pending := none } := by
  have all : (x.adoption.set l false).items.all (!·) = true := by
    refine List.all_eq_true.mpr fun b hb => ?_
    obtain ⟨m, rfl⟩ := Tab.mem_items.mp hb
    rw [Tab.get_set]
    split
    · rfl
    · rename_i hm
      rw [h m (Ne.symm hm)]
      rfl
  rw [PriceUnit.leave, if_pos all]
  rfl

theorem PriceUnit.leave_waiting {x : PriceUnit} {l m : LaneId} (hm : m ≠ l) (h : x.adoption.get m = true) :
    (x.leave l).products = x.products := by
  have some : ¬ (x.adoption.set l false).items.all (!·) = true := fun all => by
    have := List.all_eq_true.mp all _ (Tab.mem_items.mpr ⟨m, rfl⟩)
    rw [Tab.get_set_ne _ (Ne.symm hm), h] at this
    cases this
  rw [PriceUnit.leave, if_neg some]

/-- A lane once it has adopted, where it stands in the list. -/
theorem State.adoptIfListed_lane_self (s : State) (l : LaneId) : (s.adoptIfListed l).lane l = { s.lane l with
    prices := if s.lau.adoption.get l = true then s.lau.products.map fun e => e.pending.getD e.price else (s.lane l).prices } := by
  cases h : s.lau.adoption.get l
  · rw [State.adoptIfListed_unlisted h]
    rfl
  · obtain ⟨b, e⟩ := State.adoptIfListed_listed h
    rw [e]
    exact State.setLane_lane_self s l _

theorem State.adoptIfListed_lane_ne (s : State) {l k : LaneId} (hk : l ≠ k) : (s.adoptIfListed l).lane k = s.lane k := by
  cases h : s.lau.adoption.get l
  · rw [State.adoptIfListed_unlisted h]
  · obtain ⟨b, e⟩ := State.adoptIfListed_listed h
    rw [e]
    exact State.setLane_lane_ne s hk _

/-- What adoption leaves of the rest. -/
theorem State.adoptIfListed_rest (s : State) (l : LaneId) :
    (s.adoptIfListed l).rd = s.rd ∧ (s.adoptIfListed l).scc = s.scc ∧ (s.adoptIfListed l).til = s.til ∧
      (s.adoptIfListed l).lau = (if s.lau.adoption.get l = true then s.lau.leave l else s.lau) ∧
      (s.adoptIfListed l).lau.adoption.get l = false := by
  cases h : s.lau.adoption.get l
  · rw [State.adoptIfListed_unlisted h]
    exact ⟨rfl, rfl, rfl, rfl, h⟩
  · obtain ⟨b, e⟩ := State.adoptIfListed_listed h
    rw [e]
    refine ⟨rfl, rfl, rfl, rfl, ?_⟩
    show (s.lau.leave l).adoption.get l = false
    rw [PriceUnit.leave_adoption]
    exact Tab.get_set_self _ _ _

theorem State.adoptIfListed_events (s : State) (l : LaneId) : ∃ b, (s.adoptIfListed l).reu =
    { (if s.lau.adoption.get l = true then s.reu.occur .priceAdopted (.lane l) 0 s.stamp else s.reu) with attn := b } := by
  cases h : s.lau.adoption.get l
  · rw [State.adoptIfListed_unlisted h]
    exact ⟨s.reu.attn, rfl⟩
  · obtain ⟨b, e⟩ := State.adoptIfListed_listed h
    exact ⟨b, by rw [e]; rfl⟩

/-! ### FAULT STOP tested -/

theorem State.testFaultStop_calm {l : LaneId} (h : (s.lane l).state ≠ .faultStop) : s.testFaultStop l = s := by
  simp [State.testFaultStop, h]

theorem State.testFaultStop_loud {l : LaneId} (h : s.laneQuiet l = false) : s.testFaultStop l = s := by
  simp [State.testFaultStop, h]

theorem State.testFaultStop_ends {l : LaneId} (h : (s.lane l).state = .faultStop) (hb : s.bound l = none) (hq : s.laneQuiet l = true)
    (hl : s.lau.adoption.get l = false) :
    s.testFaultStop l = s.setLane l { (s.lane l).clearFault with state := s.freeLaneState l } := by
  have ends : (decide ((s.lane l).state = .faultStop) && (s.bound l).isNone && s.laneQuiet l) = true := by
    rw [decide_eq_true h, hb, hq]
    rfl
  exact (if_pos ends).trans (State.adoptIfListed_unlisted hl)

/-- The test of FAULT STOP on a lane that waits for no prices changes that lane alone. -/
theorem State.testFaultStop_only {l : LaneId} (hl : s.lau.adoption.get l = false) : ∃ x, s.testFaultStop l = s.setLane l x := by
  unfold State.testFaultStop
  split
  · exact ⟨_, State.adoptIfListed_unlisted hl⟩
  · exact ⟨s.lane l, (s.setLane_self l).symm⟩

/-- The lane is quiet, where no context is bound to it. -/
theorem State.laneQuiet_unbound {l : LaneId} (hb : s.bound l = none) : s.laneQuiet l = true ↔
    ∀ ch z, (s.lane l).config.channels.get ch = some z → ((s.lane l).channels.get ch).quiet = 2 := by
  have setup : ∀ ch, s.setup l ch = (s.lane l).config.channels.get ch := fun ch => by
    unfold State.setup
    rw [hb]
    rfl
  have letters : ∀ ch, ch ∈ Channel.letters := by intro ch; cases ch <;> decide
  simp only [State.laneQuiet, List.all_eq_true, setup, Bool.or_eq_true, Option.isNone_iff_eq_none, decide_eq_true_eq]
  constructor
  · intro h ch z hz
    rcases h ch (letters ch) with h | h
    · rw [hz] at h
      cases h
    · exact h
  · intro h ch _
    cases hz : (s.lane l).config.channels.get ch with
    | none => exact .inl rfl
    | some z => exact .inr (h ch z hz)

theorem State.freeLaneState_eq (s : State) (l : LaneId) : s.freeLaneState l =
    if (s.lane l).config.isOpen = true ∧ s.til.load ≠ .loading then .idle else .closed := by
  unfold State.freeLaneState
  simp only [Bool.and_eq_true, decide_eq_true_eq]

/-! ### Unbinding -/

theorem State.releaseLane_only (s : State) (l : LaneId) : s.releaseLane l =
    s.setLane l (if (s.lane l).state = .inUse then { s.lane l with state := s.freeLaneState l } else s.lane l) := by
  unfold State.releaseLane
  split
  · rfl
  · exact (s.setLane_self l).symm

/-- Other lanes than the one unbound stay. -/
theorem State.unbind_lane_ne (s : State) {x : Option LaneId} {k : LaneId} (h : x ≠ some k) (lock : Bool) :
    (s.unbind x lock).lane k = s.lane k := by
  cases x with
  | none => rfl
  | some l =>
    have hk : l ≠ k := fun e => h (congrArg some e)
    have tested : ∀ v : State, ((v.adoptIfListed l).testFaultStop l).lane k = v.lane k := fun v => by
      obtain ⟨-, -, -, -, unlisted⟩ := v.adoptIfListed_rest l
      obtain ⟨y, hy⟩ := State.testFaultStop_only unlisted
      rw [hy, State.setLane_lane_ne _ hk, State.adoptIfListed_lane_ne _ hk]
    have first : (if lock then (s.lockLane l).queueEvent .laneLockout (.lane l) recoveryExpiredCode else s.releaseLane l).lane k = s.lane k := by
      cases lock
      · show (s.releaseLane l).lane k = _
        rw [State.releaseLane_only, State.setLane_lane_ne _ hk]
      · exact State.setLane_lane_ne s hk _
    exact (tested _).trans first

/-- The prices after a lane is unbound. -/
theorem State.unbind_lau (s : State) (l : LaneId) (lock : Bool) :
    (s.unbind (some l) lock).lau = if s.lau.adoption.get l = true then s.lau.leave l else s.lau := by
  have tested : ∀ v : State, v.lau = s.lau →
      ((v.adoptIfListed l).testFaultStop l).lau = if s.lau.adoption.get l = true then s.lau.leave l else s.lau := fun v hv => by
    obtain ⟨-, -, -, lau, unlisted⟩ := v.adoptIfListed_rest l
    obtain ⟨y, hy⟩ := State.testFaultStop_only unlisted
    rw [hy, ← hv]
    exact lau
  cases lock
  · exact tested (s.releaseLane l) (by rw [State.releaseLane_only]; rfl)
  · exact tested ((s.lockLane l).queueEvent .laneLockout (.lane l) recoveryExpiredCode) rfl

/-- The lane that is unbound without a lock, before FAULT STOP is tested: the released lane, with the newest prices where it waited for them. -/
def State.releasedLane (s : State) (l : LaneId) : State := (s.releaseLane l).adoptIfListed l

theorem State.unbind_released (s : State) (l : LaneId) : s.unbind (some l) false = (s.releasedLane l).testFaultStop l := rfl

theorem State.releasedLane_lane (s : State) (l : LaneId) : (s.releasedLane l).lane l =
    { s.lane l with
      prices := if s.lau.adoption.get l = true then s.lau.products.map fun e => e.pending.getD e.price else (s.lane l).prices
      state := if (s.lane l).state = .inUse then s.freeLaneState l else (s.lane l).state } := by
  rw [State.releasedLane, State.adoptIfListed_lane_self, State.releaseLane_only]
  by_cases h : (s.lane l).state = .inUse
  · rw [if_pos h, if_pos h, State.setLane_lane_self]
    rfl
  · rw [if_neg h, if_neg h, State.setLane_lane_self]
    rfl

theorem State.releasedLane_rest (s : State) (l : LaneId) :
    (s.releasedLane l).rd = s.rd ∧ (s.releasedLane l).scc = s.scc ∧ (s.releasedLane l).til = s.til ∧
      (s.releasedLane l).lau.adoption.get l = false ∧
      ∃ b, (s.releasedLane l).reu =
        { (if s.lau.adoption.get l = true then s.reu.occur .priceAdopted (.lane l) 0 s.stamp else s.reu) with attn := b } := by
  obtain ⟨rd, scc, til, -, unlisted⟩ := (s.releaseLane l).adoptIfListed_rest l
  obtain ⟨b, events⟩ := (s.releaseLane l).adoptIfListed_events l
  rw [State.releaseLane_only] at rd scc til unlisted events
  rw [State.releasedLane, State.releaseLane_only]
  exact ⟨rd, scc, til, unlisted, b, events⟩

/-- A lane unbound with a lock. -/
theorem State.unbind_locked (s : State) (l : LaneId) :
    s.unbind (some l) true = ((s.lockLane l).queueEvent .laneLockout (.lane l) recoveryExpiredCode).adoptIfListed l := by
  show State.testFaultStop (State.adoptIfListed ((s.lockLane l).queueEvent .laneLockout (.lane l) recoveryExpiredCode) l) l = _
  refine State.testFaultStop_calm ?_
  rw [State.adoptIfListed_lane_self]
  have locked : ((s.lockLane l).queueEvent .laneLockout (.lane l) recoveryExpiredCode).lane l = _ := State.setLane_lane_self s l _
  rw [locked]
  exact fun h => by cases h

/-! ### The whole closing -/

/-- The state of a closing as its lane is unbound. -/
def State.closed (s : State) (i : ContextId) (p : ClosePath) : State := ((s.writeRecord i p).freeContext i).testAttn

theorem State.closeContext_only (s : State) (i : ContextId) (p : ClosePath) (lock : Bool) :
    ∃ y, s.closeContext i p lock = { (s.closed i p).unbind (s.ctx i).lane lock with tlu := y } := by
  have lane : ((s.writeRecord i p).ctx i).lane = (s.ctx i).lane := by
    rw [State.writeRecord_ctx, Context.marked_flags]
  unfold State.closeContext
  dsimp only
  rw [lane]
  exact State.sayClosing_only _ _ _

theorem State.closed_rest (s : State) (i : ContextId) (p : ClosePath) :
    (s.closed i p).lane = s.lane ∧ (s.closed i p).lau = s.lau ∧ (s.closed i p).til = s.til ∧ (s.closed i p).scc = s.scc ∧
      (s.closed i p).rd.locks = s.rd.locks ∧ (s.closed i p).stamp = s.stamp ∧
      ∃ b, (s.closed i p).reu = { s.afterMark i p with attn := b } := by
  obtain ⟨dcu, lau, til, scc, locks, -, stamp, b, reu⟩ := s.writeRecord_rest i p
  refine ⟨?_, lau, til, scc, locks, stamp, (s.closed i p).reu.attn, ?_⟩
  · funext l
    exact congrArg (fun x => Tab.get (DeliveryUnit.lanes x) l) dcu
  · show ({ (s.writeRecord i p).reu with attn := (s.closed i p).reu.attn } : EventUnit) = _
    rw [reu]

theorem State.closed_ctx (s : State) (i j : ContextId) (p : ClosePath) : (s.closed i p).ctx j = if i = j then .cleared else s.ctx j := by
  have h := congrArg Inside.contexts (State.inside_writeRecord s i p)
  show ((s.writeRecord i p).inside.contexts.set i .cleared).get j = _
  rw [h, Tab.set_set]
  exact Tab.get_set _ _ _ _

theorem State.closed_bound {i : ContextId} {l : LaneId} (h : ∀ j, j ≠ i → (s.ctx j).lane ≠ some l) (p : ClosePath) :
    (s.closed i p).bound l = none := by
  refine List.find?_eq_none.mpr fun j _ => ?_
  rw [State.closed_ctx]
  split
  · exact Bool.false_ne_true
  · rename_i hj
    simp [h j (Ne.symm hj)]

/-- A closing leaves what the unbinding of its lane leaves, but for a message. -/
theorem State.closeContext_unbinds (s : State) (i : ContextId) (p : ClosePath) (lock : Bool) {x : Option LaneId} (hx : (s.ctx i).lane = x) :
    ((s.closeContext i p lock).lane = ((s.closed i p).unbind x lock).lane) ∧
      (s.closeContext i p lock).lau = ((s.closed i p).unbind x lock).lau ∧
      (s.closeContext i p lock).rd.locks = ((s.closed i p).unbind x lock).rd.locks ∧
      (s.closeContext i p lock).scc = ((s.closed i p).unbind x lock).scc ∧
      (s.closeContext i p lock).reu = ((s.closed i p).unbind x lock).reu := by
  obtain ⟨y, closing⟩ := s.closeContext_only i p lock
  rw [hx] at closing
  generalize (s.closed i p).unbind x lock = v at closing ⊢
  rw [closing]
  exact ⟨rfl, rfl, rfl, rfl, rfl⟩

/-- The lane of a context about to close, with the prices that it adopts then (R149). -/
def State.adoptedLane (s : State) (l : LaneId) : Lane := { s.lane l with
  prices := if s.lau.adoption.get l = true then s.lau.products.map fun e => e.pending.getD e.price else (s.lane l).prices }

/-- The state of a closing with its lane released and its prices adopted. -/
theorem State.closed_released (s : State) (i : ContextId) (p : ClosePath) (l : LaneId) :
    ((s.closed i p).releasedLane l).lane l = { s.adoptedLane l with
      state := if (s.lane l).state = .inUse then s.freeLaneState l else (s.lane l).state } := by
  obtain ⟨hlane, hlau, htil, -⟩ := s.closed_rest i p
  rw [State.releasedLane_lane, hlau, State.freeLaneState_eq, congrFun hlane l, htil, ← State.freeLaneState_eq]
  rfl

/-- The lane of a closing without a lock, by the state it stood in. -/
theorem State.closeContext_lane (s : State) (i : ContextId) (p : ClosePath) {l : LaneId} (hl : (s.ctx i).lane = some l) :
    ((s.lane l).state = .inUse → (s.closeContext i p false).lane l = { s.adoptedLane l with state := s.freeLaneState l }) ∧
      ((s.lane l).state = .faultStop → (∀ j, j ≠ i → (s.ctx j).lane ≠ some l) →
        ((∀ ch z, (s.lane l).config.channels.get ch = some z → ((s.lane l).channels.get ch).quiet = 2) →
          (s.closeContext i p false).lane l = { (s.adoptedLane l).clearFault with state := s.freeLaneState l }) ∧
        ((¬∀ ch z, (s.lane l).config.channels.get ch = some z → ((s.lane l).channels.get ch).quiet = 2) →
          (s.closeContext i p false).lane l = s.adoptedLane l)) ∧
      ((s.lane l).state ≠ .inUse → (s.lane l).state ≠ .faultStop → (s.closeContext i p false).lane l = s.adoptedLane l) := by
  obtain ⟨lane, -⟩ := s.closeContext_unbinds i p false hl
  have released := s.closed_released i p l
  obtain ⟨hlane, hlau, htil, -⟩ := s.closed_rest i p
  obtain ⟨rd, -, til, unlisted, -⟩ := (s.closed i p).releasedLane_rest l
  rw [lane, State.unbind_released]
  refine ⟨fun hx => ?_, fun hx hothers => ?_, fun hx hf => ?_⟩
  · rw [if_pos hx] at released
    have calm : (((s.closed i p).releasedLane l).lane l).state ≠ .faultStop := by
      rw [released, State.freeLaneState_eq]
      show ite _ _ _ ≠ _
      split <;> exact nofun
    rw [State.testFaultStop_calm calm, released]
  · rw [if_neg (by rw [hx]; decide)] at released
    have same : ((s.closed i p).releasedLane l).lane l = s.adoptedLane l := released
    have unbound : ((s.closed i p).releasedLane l).bound l = none := by
      rw [State.bound_congr (s := s.closed i p) (congrArg Retained.contexts rd)]
      exact State.closed_bound hothers p
    have quiet_iff := State.laneQuiet_unbound unbound
    rw [same] at quiet_iff
    refine ⟨fun hq => ?_, fun hq => ?_⟩
    · rw [State.testFaultStop_ends (by rw [same]; exact hx) unbound (quiet_iff.mpr hq) unlisted, State.setLane_lane_self, same,
        State.freeLaneState_eq, same, til, htil, State.freeLaneState_eq]
      rfl
    · rw [State.testFaultStop_loud (Bool.eq_false_iff.mpr (mt quiet_iff.mp hq)), same]
  · rw [if_neg hx] at released
    have same : ((s.closed i p).releasedLane l).lane l = s.adoptedLane l := released
    rw [State.testFaultStop_calm (by rw [same]; exact hf), same]

/-- What a closing without a lock leaves of the locks, and the events it queues. -/
theorem State.closeContext_released (s : State) (i : ContextId) (p : ClosePath) {l : LaneId} (hl : (s.ctx i).lane = some l) :
    (s.closeContext i p false).rd.locks = s.rd.locks ∧ (s.closeContext i p false).scc.cut = s.scc.cut ∧
      (s.closeContext i p false).reu.events = (if s.lau.adoption.get l = true then
        (s.afterMark i p).occur .priceAdopted (.lane l) 0 s.stamp else s.afterMark i p).events := by
  obtain ⟨-, -, locks, scc, reu⟩ := s.closeContext_unbinds i p false hl
  obtain ⟨-, hlau, -, hscc, hlocks, hstamp, b, hreu⟩ := s.closed_rest i p
  obtain ⟨rd, scc', -, unlisted, b', events⟩ := (s.closed i p).releasedLane_rest l
  obtain ⟨z, hz⟩ := State.testFaultStop_only unlisted
  have left : ∀ (v : State) z, (v.setLane l z).rd.locks = v.rd.locks ∧ (v.setLane l z).scc = v.scc ∧ (v.setLane l z).reu = v.reu :=
    fun v z => ⟨rfl, rfl, rfl⟩
  obtain ⟨left_locks, left_scc, left_reu⟩ := left ((s.closed i p).releasedLane l) z
  rw [State.unbind_released, hz] at locks scc reu
  refine ⟨?_, ?_, ?_⟩
  · rw [locks, left_locks, rd, hlocks]
  · rw [scc, left_scc, scc', hscc]
  · rw [reu, left_reu, events, hlau, hreu, hstamp, EventUnit.occur_attn]
    cases s.lau.adoption.get l <;> rfl

/-- A lane locked at the end of a recovery, with its event (R187). -/
def State.lockedLane (s : State) (l : LaneId) : State := (s.lockLane l).queueEvent .laneLockout (.lane l) recoveryExpiredCode

theorem State.lockedLane_lane (s : State) (l : LaneId) :
    (s.lockedLane l).lane l = { s.lane l with state := .locked, channels := (s.lane l).clearFault.channels } := State.setLane_lane_self s l _

theorem State.lockedLane_rest (s : State) (l : LaneId) : (s.lockedLane l).lau = s.lau ∧
    (s.lockedLane l).rd.locks = s.rd.locks.set l true ∧ (s.lockedLane l).scc.cut = s.scc.cut.set l true := ⟨rfl, rfl, rfl⟩

/-- What a closing with a lock leaves of its lane. -/
theorem State.closeContext_locks (s : State) (i : ContextId) (p : ClosePath) {l : LaneId} (hl : (s.ctx i).lane = some l) :
    (s.closeContext i p true).lane l = { s.adoptedLane l with state := .locked, channels := (s.lane l).clearFault.channels } ∧
      (s.closeContext i p true).rd.locks = s.rd.locks.set l true ∧ (s.closeContext i p true).scc.cut = s.scc.cut.set l true := by
  obtain ⟨lane, -, locks, scc, -⟩ := s.closeContext_unbinds i p true hl
  obtain ⟨hlane, hlau, -, hscc, hlocks, -⟩ := s.closed_rest i p
  obtain ⟨rd', scc', -⟩ := ((s.closed i p).lockedLane l).adoptIfListed_rest l
  have locked := (s.closed i p).lockedLane_lane l
  obtain ⟨lau', locks', cut'⟩ := (s.closed i p).lockedLane_rest l
  rw [State.unbind_locked, ← State.lockedLane] at lane locks scc
  rw [congrFun hlane l] at locked
  refine ⟨?_, ?_, ?_⟩
  · rw [lane, State.adoptIfListed_lane_self, locked, lau', hlau]
    rfl
  · rw [locks, rd', locks', hlocks]
  · rw [scc, scc', cut', hscc]

/-- The prices after a closing. -/
theorem State.closeContext_lau (s : State) (i : ContextId) (p : ClosePath) (lock : Bool) {l : LaneId} (hl : (s.ctx i).lane = some l) :
    (s.closeContext i p lock).lau = if s.lau.adoption.get l = true then s.lau.leave l else s.lau := by
  obtain ⟨-, lau, -⟩ := s.closeContext_unbinds i p lock hl
  obtain ⟨-, hlau, -⟩ := s.closed_rest i p
  rw [lau, State.unbind_lau, hlau]

/-- Settles O39. -/
theorem closingWritesOneRecord : Obligations.ClosingWritesOneRecord := by
  intro s i path lock c t kind lines total approved
  have hkind : c.recordKind path = kind := c.recordKind_eq path
  have hlines : c.recordLines (c.recordKind path) = lines := by rw [hkind]; rfl
  have htotal : saleTotal lines = total := saleTotal_eq _
  have exceeds : c.overApproved (c.recordKind path) = decide (approved < total) := by
    rw [Context.overApproved, hlines, htotal]
    rfl
  refine ⟨?_, ?_, fun j hj => ?_, State.closeContext_freeList s i path lock, State.closeContext_requests s i path lock,
    State.closeContext_dlu s i path lock, fun l hl => ?_, fun hn => ?_, ?_⟩
  · rw [show t.rd.records = _ from State.closeContext_records s i path lock, State.closingRecord_eq]
    show _ ++ [(⟨_, c.recordKind path, _, _, _, _, _, _, _, _, c.recordLines (c.recordKind path), saleTotal (c.recordLines (c.recordKind path)),
      saleTotal (c.recordLines (c.recordKind path)) - c.approved, { c.flags with overLimit := c.flags.overLimit || c.overApproved (c.recordKind path) },
      _, _, _⟩ : Record)] = _
    rw [exceeds, hlines, hkind, htotal]
    rfl
  · exact (State.closeContext_ctx s i i path lock).trans (if_pos rfl)
  · exact (State.closeContext_ctx s i j path lock).trans (if_neg (Ne.symm hj))
  · obtain ⟨lane, -⟩ := s.closeContext_unbinds i path lock rfl
    obtain ⟨hlane, -⟩ := s.closed_rest i path
    exact (congrFun lane l).trans (((s.closed i path).unbind_lane_ne hl lock).trans (congrFun hlane l))
  · obtain ⟨-, lau, -⟩ := s.closeContext_unbinds i path lock hn
    obtain ⟨-, hlau, -⟩ := s.closed_rest i path
    exact lau.trans hlau
  intro l hl listed x free quiet rested
  have hfree : s.freeLaneState l = free := s.freeLaneState_eq l
  obtain ⟨inUse, faultStop, other⟩ := s.closeContext_lane i path hl
  obtain ⟨locks, cut, events⟩ := s.closeContext_released i path hl
  have lau := s.closeContext_lau i path lock hl
  refine ⟨?_, ?_, fun hn => ?_, fun hy => ?_⟩
  · rintro rfl
    rw [hfree] at inUse faultStop
    refine ⟨inUse, faultStop, other, locks, cut, ?_⟩
    intro marked
    have mark : s.afterMark i path = marked := by
      show (if c.overApproved (c.recordKind path) = true then s.reu.occur .overLimit (laneSubject c.lane) 0 s.stamp else s.reu) = _
      rw [exceeds, show c.lane = some l from hl]
      simp only [decide_eq_true_eq]
      rfl
    rw [mark] at events
    exact events
  · rintro rfl
    exact s.closeContext_locks i path hl
  · rw [if_neg (by rw [show s.lau.adoption.get l = false from hn]; exact Bool.false_ne_true)] at lau
    exact lau
  · rw [if_pos hy] at lau
    have left : t.lau = s.lau.leave l := lau
    rw [left]
    exact ⟨PriceUnit.leave_adoption _ _, fun ⟨m, hm, h⟩ => PriceUnit.leave_waiting hm h, fun h => PriceUnit.leave_last h⟩

end Sys2Proof.Machine
end

section
/-! What a context's timer and a change of one of its channels do (O40). -/

namespace Sys2Proof.Machine

open Sys2Proof

variable {s t u : State}

/-! ### Context timers -/

theorem State.setCtx_self (s : State) (i : ContextId) : s.setCtx i (s.ctx i) = s := by
  have same : s.rd.contexts.set i (s.ctx i) = s.rd.contexts := Tab.set_get _ _
  simp only [State.setCtx, same]

theorem State.onDeadline_off {i : ContextId} (h : (s.ctx i).deadline = none) (runs : ContextState → Bool) (act : State → State) :
    s.onDeadline i runs act = s := by
  unfold State.onDeadline State.whenWorking
  dsimp only
  rw [h]
  split <;> rfl

theorem State.onDeadline_runs {i : ContextId} {runs : ContextState → Bool} (hp : s.power.phase = .running)
    (h : (s.ctx i).deadline.isSome = true) (hr : runs (s.ctx i).state = true) (act : State → State) :
    s.onDeadline i runs act = act s := by
  unfold State.onDeadline State.whenWorking
  dsimp only
  rw [if_pos (State.working_of_running hp), h, hr]
  rfl

/-! ### The end of a recovery -/

/-- Emptying lists that hold nothing does nothing. -/
theorem State.emptyLists_empty {hs : List HeadId} (h : ∀ k ∈ hs, (s.head k).commands = []) : s.emptyLists hs = (s, []) := by
  induction hs with
  | nil => rfl
  | cons k ks ih =>
    have none : (s.head k).commands = [] := h k (List.mem_cons_self ..)
    have same : s.setCommands k [] = s := by
      have : ({ s.head k with commands := [] } : Head) = s.head k := by rw [← none]
      have stays : s.dlu.heads.set k { s.head k with commands := [] } = s.dlu.heads := by
        rw [this]
        exact Tab.set_get _ _
      exact congrArg (fun x => ({ s with dlu := { s.dlu with heads := x } } : State)) stays
    unfold State.emptyLists
    rw [same, ih fun j hj => h j (List.mem_cons_of_mem _ hj), none]
    rfl

/-- With no command queued or on the line a lockout of heads does nothing. -/
theorem State.lockout_empty {hs : List HeadId} (h : ∀ k ∈ hs, (s.head k).commands = [])
    (hl : ∀ x, s.dlu.line.exchange = some x → x.command = none) : s.lockout hs = (s, []) := by
  have line : s.lineCommand = none := by
    unfold State.lineCommand
    cases hx : s.dlu.line.exchange with
    | none => rfl
    | some x => exact hl x hx
  have uncut : s.cutLine hs = s := by
    unfold State.cutLine
    rw [line]
    rfl
  rw [State.lockout, uncut, State.emptyLists_empty h]

theorem LatchClean.of_empty (h : ∀ k, (s.head k).commands = []) : s.LatchClean := by
  intro _ k c hc
  rw [h k] at hc
  cases hc

/-- A lockout with no command queued or on the line leaves the arbiter's choice alone. -/
theorem State.finish_lockout_empty (h : ∀ k, (s.head k).commands = []) (hl : ∀ x, s.dlu.line.exchange = some x → x.command = none)
    (hs : List HeadId) : finish ((s.lockout hs).2 ++ [.arbitrate]) (s.lockout hs).1 = .next s.arbitrate.1 := by
  rw [State.lockout_empty (fun k _ => h k) hl]
  exact finish_arbitrate (LatchClean.of_empty h)

theorem exec_recoveryTimerExpiry_off {i : ContextId} (h : (s.ctx i).deadline = none) : exec (.recoveryTimerExpiry i) s = .next s := by
  show execRecoveryTimerExpiry i s = _
  unfold execRecoveryTimerExpiry
  rw [h, Option.isSome_none, Bool.and_false, Bool.false_and, if_neg Bool.false_ne_true]

/-- A recovery that runs out with no command queued or on the line. -/
theorem exec_recoveryTimerExpiry {i : ContextId} (hp : s.power.phase = .running) (hd : (s.ctx i).deadline.isSome = true)
    (hs : (s.ctx i).state = .recovering) (h : ∀ k, (s.head k).commands = [])
    (hl : ∀ x, s.dlu.line.exchange = some x → x.command = none) :
    exec (.recoveryTimerExpiry i) s = .next ((s.setCtx i (s.ctx i).estimate).closeContext i .byVolume true).arbitrate.1 := by
  have runs : (s.working && (s.ctx i).deadline.isSome && decide ((s.ctx i).state = .recovering)) = true := by
    rw [State.working_of_running hp, hd, hs]
    rfl
  have link : ((s.modCtx i Context.estimate).closeContext i .byVolume true).dlu = s.dlu := State.closeContext_dlu _ _ _ _
  refine Eq.trans (if_pos runs) (State.finish_lockout_empty (fun k => ?_) (by rw [link]; exact hl) _)
  rw [State.head, link]
  exact h k

/-! ### The stand-in check written out -/

/-- The state as a stand-in check finds it, the passed entries removed. -/
theorem State.standInCheck_refused {i : ContextId} {o : Origin} {r : Reason}
    (h : s.sweepStandIn.standInRefusal (s.ctx i) o = some r) : s.standInCheck i o = s.sweepStandIn.declineBy i .standIn r := by
  unfold State.standInCheck
  dsimp only
  rw [show s.sweepStandIn.standInRefusal (s.sweepStandIn.ctx i) o = some r from h]

theorem State.standInCheck_approved {i : ContextId} {o : Origin} (h : s.sweepStandIn.standInRefusal (s.ctx i) o = none) :
    s.standInCheck i o = (s.sweepStandIn.useStandIn i).approve i .standIn
      ((s.ctx i).ownApproval (Nat.min (s.ctx i).standInAmount (s.ctx i).requested)) := by
  unfold State.standInCheck
  dsimp only
  rw [show s.sweepStandIn.standInRefusal (s.sweepStandIn.ctx i) o = none from h]
  rfl

/-- A check with no program that allows it, or no valid clock (R58). -/
theorem State.standInRefusal_barred {c : Context} (o : Origin)
    (h : c.copy.all (fun p => !p.standIn) = true ∨ s.rd.clockValid = false) : s.standInRefusal c o = some o.reason := by
  unfold State.standInRefusal
  cases hc : c.copy with
  | none => rfl
  | some p =>
    rw [hc] at h
    by_cases hp : p.standIn = true
    · have : s.rd.clockValid = false := h.resolve_left (by simp [hp])
      simp [hp, this]
    · simp [Bool.eq_false_iff.mpr hp]

/-- A check that the program and the clock allow turns on the uses of the card's entry (R58). -/
theorem State.standInRefusal_uses {c : Context} {p : Program} (o : Origin) (hc : c.copy = some p) (hp : p.standIn = true)
    (hv : s.rd.clockValid = true) : s.standInRefusal c o =
      if (s.rd.standInEntry c.card.number).any (fun e => decide (p.standInUses ≤ e.uses)) then some .standInLimit else none := by
  unfold State.standInRefusal
  rw [hc]
  simp only [hp, hv, Bool.not_true, Bool.false_eq_true, if_false]

/-! ### A channel's change, by the context's state -/

theorem State.contextChanged_armed {i : ContextId} (h : (s.ctx i).state = .armed) : s.contextChanged i = s.changedArmed i := by
  unfold State.contextChanged
  dsimp only
  rw [h]

theorem State.contextChanged_delivering {i : ContextId} (h : (s.ctx i).state = .delivering) :
    s.contextChanged i = if !(s.ctx i).anyInProgress && (s.ctx i).usedDone then s.enterEnding i else s := by
  unfold State.contextChanged
  dsimp only
  rw [h]

theorem State.contextChanged_ending {i : ContextId} (h : (s.ctx i).state = .ending) :
    s.contextChanged i = if (s.ctx i).anyInProgress then s.modCtx i (fun c => { c with state := .delivering, deadline := none })
      else s.testEnding i := by
  unfold State.contextChanged
  dsimp only
  rw [h]

theorem State.contextChanged_stopping {i : ContextId} (h : (s.ctx i).state = .stopping) :
    s.contextChanged i = if (s.ctx i).anyInProgress then s else s.closeContext i .byVolume false := by
  unfold State.contextChanged
  dsimp only
  rw [h]

theorem State.contextChanged_recovering {i : ContextId} (h : (s.ctx i).state = .recovering) :
    s.contextChanged i = if (s.ctx i).recovered then s.closeContext i .byVolume false else s := by
  unfold State.contextChanged
  dsimp only
  rw [h]

/-- ENDING is over: no channel is left to release, or the budget is spent (R20). -/
theorem Context.ended_iff (c : Context) :
    (c.exhausted || c.spent) = true ↔ (c.anyChannel c.mayRelease = false ∨ c.spent = true) := by
  rw [Bool.or_eq_true, Context.exhausted, Bool.not_eq_true']

/-- Settles O40. -/
theorem contextTimersExpire : Obligations.ContextTimersExpire := by
  intro s i hp c
  refine ⟨fun hd => ⟨?_, ?_, ?_, ?_, exec_recoveryTimerExpiry_off hd⟩, fun hd => ⟨fun hs => ?_, fun hs => ?_, fun hs => ?_, fun hs hh hl => ?_, ?_⟩, ?_⟩
  · exact congrArg Host.Outcome.next (State.onDeadline_off hd _ _)
  · exact congrArg Host.Outcome.next (State.onDeadline_off hd _ _)
  · exact congrArg Host.Outcome.next (State.onDeadline_off hd _ _)
  · exact congrArg Host.Outcome.next (State.onDeadline_off hd _ _)
  · exact congrArg Host.Outcome.next (State.onDeadline_runs hp hd (decide_eq_true hs) _)
  · exact congrArg Host.Outcome.next (State.onDeadline_runs hp hd (decide_eq_true hs) _)
  · exact congrArg Host.Outcome.next (State.onDeadline_runs hp hd (decide_eq_true hs) _)
  · exact exec_recoveryTimerExpiry hp hd hs hh hl
  · intro hs kept u
    have checked : exec (.hostDecisionTimerExpiry i) s = .next (s.standInCheck i .timeout) :=
      congrArg Host.Outcome.next (State.onDeadline_runs hp hd (by rcases hs with hs | hs <;> rw [hs] <;> rfl) _)
    have swept : s.sweepStandIn = u := rfl
    refine ⟨fun hb => ?_, fun p hc hsi hv => ⟨fun ⟨e, he, hu⟩ => ?_, fun hu => ?_⟩⟩
    · rw [checked, State.standInCheck_refused (State.standInRefusal_barred .timeout hb)]
      rfl
    · rw [checked, State.standInCheck_refused (r := .standInLimit), swept]
      refine (State.standInRefusal_uses (s := u) .timeout hc hsi hv).trans ?_
      rw [show u.rd.standInEntry c.card.number = some e from he]
      exact if_pos (decide_eq_true hu)
    · rw [checked, State.standInCheck_approved, swept]
      · rw [Context.ownApproval, Context.standInAmount, hc]
        rfl
      · refine (State.standInRefusal_uses (s := u) .timeout hc hsi hv).trans (if_neg ?_)
        rw [Option.any_eq_true]
        rintro ⟨e, he, hle⟩
        exact absurd (hu e he) (Nat.not_lt.mpr (of_decide_eq_true hle))
  · intro finished changed
    refine ⟨fun hs => ?_, fun hs => ?_, fun hs => ?_, fun hs => State.contextChanged_stopping hs, fun hs => ?_⟩
    · have armed : changed = s.changedArmed i := State.contextChanged_armed hs
      rw [armed, State.changedArmed]
      refine ⟨fun h => if_pos h, fun h hr => ?_, fun h hr => ?_⟩
      · exact (if_neg (Bool.eq_false_iff.mp h)).trans (if_pos (by rw [Context.exhausted, hr]; rfl))
      · refine (if_neg (Bool.eq_false_iff.mp h)).trans ((if_neg (by rw [Context.exhausted, hr]; exact Bool.false_ne_true)).trans ?_)
        cases hdl : (s.ctx i).deadline with
        | none =>
          exact if_pos rfl
        | some d =>
          refine (if_neg Bool.false_ne_true).trans ?_
          show s = s.setCtx i { s.ctx i with deadline := some d }
          rw [← hdl]
          exact (State.setCtx_self s i).symm
    · have delivering : changed = _ := State.contextChanged_delivering hs
      rw [delivering]
      refine ⟨fun h => if_neg ?_, ?_⟩
      · rcases h with h | h
        · rw [h]
          exact Bool.false_ne_true
        · rw [show c.usedDone = false from h, Bool.and_false]
          exact Bool.false_ne_true
      · intro h hu ending
        have enters : (!c.anyInProgress && c.usedDone) = true := by
          rw [h, show c.usedDone = true from hu]
          rfl
        have read : ending.ctx i = { c with state := .ending, deadline := some ⟨10 * s.til.params.get 3, 10 * s.til.params.get 3⟩ } :=
          Tab.get_set_self _ _ _
        have ended : ((ending.ctx i).exhausted || (ending.ctx i).spent) = (c.exhausted || c.spent) := by
          rw [read]
          rfl
        have entered : s.enterEnding i = if s.continueTime = 0 then ending.closeContext i .byVolume false else ending.testEnding i := rfl
        rw [if_pos enters, entered]
        have zero : s.continueTime = 0 ↔ s.til.params.get 3 = 0 := by
          show 10 * s.til.params.get 3 = 0 ↔ _
          omega
        have tested : ending.testEnding i = if (c.exhausted || c.spent) = true then ending.closeContext i .byVolume false else ending := by
          rw [← ended]
          rfl
        rw [tested]
        simp only [zero, Context.ended_iff]
        refine ⟨fun h => ?_, fun hz hf => ?_⟩
        · by_cases hz : s.til.params.get 3 = 0
          · exact if_pos hz
          · exact (if_neg hz).trans (if_pos (h.resolve_left hz))
        · exact (if_neg hz).trans (if_neg hf)
    · have ending : changed = _ := State.contextChanged_ending hs
      have tested : s.testEnding i = if (c.exhausted || c.spent) = true then s.closeContext i .byVolume false else s := rfl
      simp only [Context.ended_iff] at tested
      rw [ending, tested]
      exact ⟨fun h => if_pos h, fun h hf => (if_neg (Bool.eq_false_iff.mp h)).trans (if_pos hf),
        fun h hf => (if_neg (Bool.eq_false_iff.mp h)).trans (if_neg hf)⟩
    · have recovering : changed = _ := State.contextChanged_recovering hs
      rw [recovering, Context.recovered]
      cases (s.ctx i).anyChannel fun r => r.awaiting || decide (r.state = .closing) || decide (r.state = .settling) <;> rfl

end Sys2Proof.Machine
end

section
/-! A card taken at a terminal (O34): the context it takes, its screening, and its first step. -/

namespace Sys2Proof.Machine

open Sys2Proof

variable {s v : State} {i : ContextId} {t : TerminalId} {c : Context}

/-! ### The choice of the terminal link after an item -/

/-- What the choice of the terminal link leaves as it is. -/
theorem State.chooseTerminal_keeps (s : State) : s.chooseTerminal.rd = s.rd ∧ s.chooseTerminal.dcu = s.dcu ∧
    s.chooseTerminal.dlu = s.dlu ∧ s.chooseTerminal.hlu = s.hlu ∧ s.chooseTerminal.ae = s.ae := by
  obtain ⟨x, hx⟩ := s.chooseTerminal_only
  rw [hx]
  exact ⟨rfl, rfl, rfl, rfl, rfl⟩

/-- An ONLINE terminal is not changed by the choice of a poll. -/
theorem State.chooseTerminal_term (h : (s.term t).online = true) : s.chooseTerminal.term t = s.term t := by
  unfold State.chooseTerminal
  split
  · rfl
  · split
    · rename_i k hk
      have due := List.find?_some hk
      have apart : k ≠ t := by
        rintro rfl
        simp [Terminal.due, h] at due
      exact Tab.get_set_ne _ apart _
    · split <;> rfl

/-! ### The steps of a context, one by one -/

theorem State.screenCard_declined {why : Reason} (h : v.csu.screen c.card v.stamp = .declined why) :
    (v.setCtx i c).screenCard i = (v.setCtx i c).decline i why := by
  unfold State.screenCard
  rw [State.setCtx_ctx_self, show (v.setCtx i c).csu.screen c.card (v.setCtx i c).stamp = .declined why from h]

theorem State.screenCard_accepted {p : ProgramId} (h : v.csu.screen c.card v.stamp = .accepted p) :
    (v.setCtx i c).screenCard i =
      if c.lane.isSome then (v.setCtx i (c.screenedTo p (v.csu.programs.get p))).requestProducts i
      else (v.setCtx i (c.screenedTo p (v.csu.programs.get p))).showPrompt i .lane := by
  unfold State.screenCard
  rw [State.setCtx_ctx_self, show (v.setCtx i c).csu.screen c.card (v.setCtx i c).stamp = .accepted p from h]
  dsimp only
  rw [State.modCtx_setCtx, State.setCtx_ctx_self]
  rfl

theorem State.screenCard_bound {p : ProgramId} (h : v.csu.screen c.card v.stamp = .accepted p) (hl : c.lane.isSome = true) :
    (v.setCtx i c).screenCard i = (v.setCtx i (c.screenedTo p (v.csu.programs.get p))).requestProducts i :=
  (State.screenCard_accepted h).trans (if_pos hl)

theorem State.screenCard_unbound {p : ProgramId} (h : v.csu.screen c.card v.stamp = .accepted p) (hl : c.lane = none) :
    (v.setCtx i c).screenCard i = (v.setCtx i (c.screenedTo p (v.csu.programs.get p))).showPrompt i .lane :=
  (State.screenCard_accepted h).trans (if_neg (by rw [hl]; exact Bool.false_ne_true))

theorem State.requestProducts_some (h : c.requestable ≠ 0) :
    (v.setCtx i c).requestProducts i = (v.setCtx i { c with requestedSet := some c.requestable }).nextStep i := by
  have asked : ¬ ({ c with requestedSet := some c.requestable } : Context).requestable = 0 := h
  unfold State.requestProducts
  dsimp only
  rw [State.modCtx_setCtx, State.setCtx_ctx_self, if_neg asked]

theorem State.nextStep_prompts {k : PromptKind} {ks : List PromptKind} (h : c.promptsLeft = k :: ks) :
    (v.setCtx i c).nextStep i = (v.setCtx i c).showPrompt i k := by
  rw [State.nextStep, State.setCtx_ctx_self, h]

theorem State.nextStep_decides (h : c.promptsLeft = []) : (v.setCtx i c).nextStep i = (v.setCtx i c).askDecision i := by
  rw [State.nextStep, State.setCtx_ctx_self, h]

theorem State.showPrompt_held (h : c.heldTerminal = some t) (k : PromptKind) :
    (v.setCtx i c).showPrompt i k =
      (v.setCtx i { c with state := .prompting, deadline := some (.start v.promptTime) }).testAttn.modTerm t fun x => x.enterPrompt k := by
  unfold State.showPrompt
  dsimp only
  rw [State.modCtx_setCtx]
  have read : ((v.setCtx i { c with state := .prompting, deadline := some (.start v.promptTime) }).testAttn.ctx i).heldTerminal = some t := by
    show ((v.setCtx i { c with state := .prompting, deadline := some (.start v.promptTime) }).ctx i).heldTerminal = some t
    rw [State.setCtx_ctx_self]
    exact h
  rw [show (v.setCtx i c).promptTime = v.promptTime from rfl, read]

theorem State.askDecision_site {g : Program} (hc : c.copy = some g) (hk : g.kind = .site) (ha : c.requestedAmount = some g.requested) :
    (v.setCtx i c).askDecision i = (v.setCtx i { c with deadline := none }).approve i .site (c.ownApproval g.requested) := by
  have site : (({ c with deadline := none } : Context).copy.map (·.kind)) = some .site := by
    show c.copy.map (·.kind) = _
    rw [hc, Option.map_some, hk]
  have amount : ({ c with deadline := none } : Context).requested = g.requested := by
    show c.requestedAmount.getD 0 = _
    rw [ha]
    rfl
  unfold State.askDecision
  dsimp only
  rw [State.modCtx_setCtx, State.setCtx_ctx_self, if_pos site, amount]
  rfl

theorem State.askDecision_host {g : Program} (hc : c.copy = some g) (hk : g.kind ≠ .site) :
    (v.setCtx i c).askDecision i = if v.ae.online then (v.setCtx i { c with deadline := none }).offer i
      else (v.setCtx i { c with deadline := none }).standInCheck i .atDecision := by
  have other : ¬ (({ c with deadline := none } : Context).copy.map (·.kind)) = some .site := by
    show ¬ c.copy.map (·.kind) = _
    rw [hc, Option.map_some]
    exact fun e => hk (Option.some.inj e)
  unfold State.askDecision
  dsimp only
  rw [State.modCtx_setCtx, State.setCtx_ctx_self, if_neg other]
  rfl

/-- A context offered, the state before ATTN is tested but for its terminal. -/
def State.offered (v : State) (i : ContextId) (c : Context) : State :=
  { v.setCtx i { c with state := .offered, deadline := some (.start v.hostDecisionTime) } with
    ae := { v.ae with requests := v.ae.requests ++ [i] } }

theorem State.offer_held (h : c.heldTerminal = some t) :
    (v.setCtx i c).offer i = ((v.offered i c).modTerm t Terminal.enterWait).testAttn := by
  have read : ((v.offered i c).ctx i).heldTerminal = some t := by
    show ((v.setCtx i _).ctx i).heldTerminal = some t
    rw [State.setCtx_ctx_self]
    exact h
  unfold State.offer
  dsimp only
  rw [State.modCtx_setCtx]
  show State.testAttn (match ((v.offered i c).ctx i).heldTerminal with
    | some t => (v.offered i c).modTerm t Terminal.enterWait
    | none => v.offered i c) = _
  rw [read]

/-- A context approved, the state before its terminal is told. -/
def State.approved (v : State) (i : ContextId) (c : Context) (source : DecisionSource) (a : Approval) : State :=
  { v.setCtx i (c.arm source a v.armTime) with ae := { v.ae with requests := v.ae.requests.filter fun j => decide (j ≠ i) } }

theorem State.approve_held {l : LaneId} (h : c.heldTerminal = some t) (hl : c.lane = some l) (source : DecisionSource) (a : Approval) :
    (v.setCtx i c).approve i source a = ((v.approved i c source a).showOn t (.liftNozzle l)).testAttn := by
  have read : (v.approved i c source a).ctx i = c.arm source a v.armTime := State.setCtx_ctx_self v i _
  have told : (v.approved i c source a).sayLift i = (v.approved i c source a).showOn t (.liftNozzle l) := by
    unfold State.sayLift
    rw [read, show (c.arm source a v.armTime).heldTerminal = some t from h, show (c.arm source a v.armTime).lane = some l from hl]
  rw [← told]
  unfold State.approve
  dsimp only
  rw [State.modCtx_setCtx]
  rfl

/-! ### A decline, what it leaves -/

/-- Unbinding a lane changes no terminal. -/
theorem State.unbind_tlu (s : State) (x : Option LaneId) (lock : Bool) : (s.unbind x lock).tlu = s.tlu := by
  have adopts : ∀ (v : State) l, (v.adoptIfListed l).tlu = v.tlu := fun v l => by
    cases h : v.lau.adoption.get l
    · rw [State.adoptIfListed_unlisted h]
    · obtain ⟨b, e⟩ := State.adoptIfListed_listed h
      rw [e]
      rfl
  have tests : ∀ (v : State) l, v.lau.adoption.get l = false → (v.testFaultStop l).tlu = v.tlu := fun v l h => by
    obtain ⟨y, hy⟩ := State.testFaultStop_only h
    rw [hy]
    rfl
  cases x with
  | none => rfl
  | some l =>
    have both : ∀ v : State, ((v.adoptIfListed l).testFaultStop l).tlu = v.tlu := fun v => by
      obtain ⟨-, -, -, -, unlisted⟩ := v.adoptIfListed_rest l
      rw [tests _ _ unlisted, adopts]
    cases lock
    · exact (both (s.releaseLane l)).trans (by rw [State.releaseLane_only]; rfl)
    · exact both (s.lockedLane l)

/-- The terminal that a closed context held shows the closing message. -/
theorem State.closeContext_tells {p : ClosePath} {lock : Bool} {m : Message} (h : (s.ctx i).heldTerminal = some t)
    (hm : closingMessage ((s.ctx i).recordKind p) (s.ctx i).reason = some m) :
    (s.closeContext i p lock).term t = (s.term t).enterShow m s.displayTime := by
  have marked : (s.writeRecord i p).ctx i = (s.ctx i).marked p := s.writeRecord_ctx i p
  have held : ((s.ctx i).marked p).heldTerminal = some t := by
    rw [Context.marked_flags]
    exact h
  have message : closingMessage (((s.ctx i).marked p).recordKind p) ((s.ctx i).marked p).reason = some m := by
    rw [Context.marked_flags, ← hm]
    cases p <;> rfl
  have closing : s.closeContext i p lock = ((s.closed i p).unbind ((s.ctx i).marked p).lane lock).showOn t m := by
    unfold State.closeContext
    dsimp only
    rw [marked, held, message]
    rfl
  have tlu : ((s.closed i p).unbind ((s.ctx i).marked p).lane lock).tlu = s.tlu := by
    rw [State.unbind_tlu]
    obtain ⟨-, -, -, -, -, tlu, -⟩ := s.writeRecord_rest i p
    exact tlu
  have time : ((s.closed i p).unbind ((s.ctx i).marked p).lane lock).displayTime = s.displayTime := by
    have outside : ((s.closed i p).unbind ((s.ctx i).marked p).lane lock).til = s.til := by
      obtain ⟨-, -, til, -⟩ := s.closed_rest i p
      have := congrArg Outside.til (State.outside_unbind (s.closed i p) ((s.ctx i).marked p).lane lock)
      exact this.trans til
    rw [State.displayTime, State.paramTenths, State.param, outside]
    rfl
  rw [closing, State.showOn, State.modTerm, State.setTerm_term_self, time, State.term, tlu]
  rfl

/-- The facts of a context declined just after its card was taken. -/
theorem State.decline_leaves {why : Reason} (hr : c.reason = none) (h : c.heldTerminal = some t) (ht : c.terminal = some t) :
    let u := (v.setCtx i c).decline i why
    u.ctx i = .cleared ∧ (∀ j, j ≠ i → u.ctx j = v.ctx j) ∧ u.rd.freeList = v.rd.freeList ++ [i] ∧ u.rd.counter = v.rd.counter ∧
      u.dlu = v.dlu ∧ u.hlu = v.hlu ∧
      (∃ r, u.rd.records = v.rd.records ++ [r] ∧ r.transaction = c.transaction ∧ r.kind = .decline ∧ r.reason = some why ∧
        r.terminal = some t ∧ r.lane = c.lane ∧ r.source = c.source) ∧
      u.term t = (v.term t).enterShow (if why = .cardNotAccepted then .cardNotAccepted else .declined why) v.displayTime := by
  intro u
  have reason : c.withReason why = { c with reason := some why } := by rw [Context.withReason, hr]; rfl
  have declined : u = (v.setCtx i { c with reason := some why }).closeContext i (.kind .decline) false := by
    show ((v.setCtx i c).modCtx i fun c => c.withReason why).closeContext i (.kind .decline) false = _
    rw [State.modCtx_setCtx, reason]
  have read : (v.setCtx i { c with reason := some why }).ctx i = { c with reason := some why } := State.setCtx_ctx_self v i _
  have outside : u.outside = v.outside := by
    rw [declined, State.outside_closeContext]
    rfl
  refine ⟨?_, fun j hj => ?_, ?_, congrArg Outside.counter outside, ?_, congrArg Outside.hlu outside, ?_, ?_⟩
  · rw [declined]
    exact (State.closeContext_ctx _ i i _ _).trans (if_pos rfl)
  · rw [declined]
    exact ((State.closeContext_ctx _ i j _ _).trans (if_neg (Ne.symm hj))).trans (Tab.get_set_ne _ (Ne.symm hj) _)
  · rw [declined, State.closeContext_freeList]
    rfl
  · rw [declined, State.closeContext_dlu]
    rfl
  · refine ⟨_, by rw [declined]; exact State.closeContext_records _ _ _ _, ?_⟩
    rw [State.closingRecord_eq, read]
    exact ⟨rfl, rfl, rfl, ht, rfl, rfl⟩
  · rw [declined]
    refine State.closeContext_tells (by rw [read]; exact h) ?_
    rw [read]
    cases why <;> rfl

/-- A stand-in check at the decision that the program does not allow. -/
theorem State.standInCheck_barred {g : Program} (hc : c.copy = some g) (hg : g.standIn = false) :
    (v.setCtx i c).standInCheck i .atDecision = (v.sweepStandIn.setCtx i { c with source := some .standIn }).decline i .offline := by
  have barred : c.copy.all (fun p => !p.standIn) = true := by rw [hc, Option.all_some, hg]; rfl
  rw [State.standInCheck_refused (r := .offline)]
  · rw [State.declineBy, show (v.setCtx i c).sweepStandIn = v.sweepStandIn.setCtx i c from rfl, State.modCtx_setCtx]
  · rw [State.setCtx_ctx_self]
    exact State.standInRefusal_barred .atDecision (.inl barred)

/-! ### The card taken -/

/-- The state as a card has taken the context at the head of the free list, but for that context. -/
def State.cardBase (s : State) (t : TerminalId) (seq : Bool) (rest : List ContextId) : State :=
  { s.itemFrom t seq with rd := { s.rd with freeList := rest, counter := nextTransaction s.rd.counter } }

/-- The same, with the one lane of the terminal IN USE. -/
def State.cardBound (s : State) (t : TerminalId) (seq : Bool) (rest : List ContextId) (l : LaneId) : State :=
  (s.cardBase t seq rest).setLane l { s.lane l with state := .inUse }

theorem State.cardBase_term (s : State) (t : TerminalId) (seq : Bool) (rest : List ContextId) :
    (s.cardBase t seq rest).term t = { s.term t with failures := 0, lastTaken := some seq } := s.itemFrom_term t seq

/-- A card at a terminal of one lane. -/
theorem State.takeCard_one {seq : Bool} {data : CardData} {rest : List ContextId} {l : LaneId}
    (hr : s.cardRefusal t = none) (hfree : s.rd.freeList = i :: rest) (hl : s.terminalLanes t = [l]) :
    (s.itemFrom t seq).takeCard t data =
      ((s.cardBound t seq rest l).setCtx i ((Context.allocated t data s.rd.counter s.stamp).bindTo l (s.lane l))).screenCard i := by
  have base : (s.itemFrom t seq).allocate i rest t data = (s.cardBase t seq rest).setCtx i (.allocated t data s.rd.counter s.stamp) := rfl
  unfold State.takeCard
  rw [show (s.itemFrom t seq).cardRefusal t = none from hr, show (s.itemFrom t seq).rd.freeList = i :: rest from hfree]
  dsimp only
  rw [show (s.itemFrom t seq).terminalLanes t = [l] from hl]
  dsimp only
  rw [base, State.bindLane, State.modCtx_setCtx]
  rfl

/-- A card at a terminal of more lanes, or of none. -/
theorem State.takeCard_more {seq : Bool} {data : CardData} {rest : List ContextId}
    (hr : s.cardRefusal t = none) (hfree : s.rd.freeList = i :: rest) (hl : ∀ l, s.terminalLanes t ≠ [l]) :
    (s.itemFrom t seq).takeCard t data = ((s.cardBase t seq rest).setCtx i (.allocated t data s.rd.counter s.stamp)).screenCard i := by
  unfold State.takeCard
  rw [show (s.itemFrom t seq).cardRefusal t = none from hr, show (s.itemFrom t seq).rd.freeList = i :: rest from hfree]
  dsimp only
  split
  · rename_i l h
    exact absurd h (hl l)
  · rfl

/-- A good card at an IDLE terminal. -/
theorem exec_card {seq : Bool} {card : CardItem} {data : CardData}
    (h : s.awaitsTerminal t) (hs : (s.term t).lastTaken ≠ some seq) (hm : (s.term t).mode = .idle) (hread : readCard card = some data) :
    exec (.terminalCard t seq card) s = .next ((s.itemFrom t seq).takeCard t data).chooseTerminal := by
  have mode : ((s.itemFrom t seq).term t).mode = .idle := by rw [State.itemFrom_term]; exact hm
  have taken : (s.itemFrom t seq).takeCardItem t card = (s.itemFrom t seq).takeCard t data := by
    rw [State.takeCardItem, hread]
    exact if_pos mode
  exact (State.item_outcome h hs _).trans (by rw [taken])

/-- A context of a card that goes on: the state holds it as `c`, and the queues are as the card found them. -/
def State.cardOpens (s w : State) (i : ContextId) (rest : List ContextId) (c : Context) : Prop :=
  w.rd.contexts = s.rd.contexts.set i c ∧ w.rd.freeList = rest ∧
    w.rd.counter = (if s.rd.counter < 4294967295 then s.rd.counter + 1 else 1) ∧ w.rd.records = s.rd.records ∧ w.dlu = s.dlu ∧ w.hlu = s.hlu

theorem State.cardOpens.chosen {w : State} {rest : List ContextId} (h : s.cardOpens w i rest c) :
    s.cardOpens w.chooseTerminal i rest c ∧ w.chooseTerminal.ctx i = c ∧ ∀ j, j ≠ i → w.chooseTerminal.ctx j = s.ctx j := by
  obtain ⟨contexts, freeList, counter, records, dlu, hlu⟩ := h
  obtain ⟨rd, -, dlu', hlu', -⟩ := w.chooseTerminal_keeps
  refine ⟨⟨by rw [rd]; exact contexts, by rw [rd]; exact freeList, by rw [rd]; exact counter, by rw [rd]; exact records,
    dlu'.trans dlu, hlu'.trans hlu⟩, ?_, fun j hj => ?_⟩
  · rw [State.ctx, rd, contexts]
    exact Tab.get_set_self _ _ _
  · rw [State.ctx, rd, contexts]
    exact Tab.get_set_ne _ (Ne.symm hj) _

/-- The prompt of a card's first step: the state as `showPrompt` leaves it. -/
def State.prompted (v : State) (i : ContextId) (t : TerminalId) (c : Context) (k : PromptKind) : State :=
  (v.setCtx i { c with state := .prompting, deadline := some (.start v.promptTime) }).testAttn.modTerm t fun x => x.enterPrompt k

/-- A card that prompts for its first entry on a bound lane. -/
theorem State.takeCard_prompts {seq : Bool} {data : CardData} {rest : List ContextId} {l : LaneId} {p : ProgramId} {k : PromptKind}
    {ks : List PromptKind} (hr : s.cardRefusal t = none) (hfree : s.rd.freeList = i :: rest) (hl : s.terminalLanes t = [l])
    (hs : s.csu.screen data s.stamp = .accepted p) (hk : (s.csu.programs.get p).prompts = k :: ks)
    (hc : c = ((Context.allocated t data s.rd.counter s.stamp).bindTo l (s.lane l)).screenedTo p (s.csu.programs.get p))
    (hq : c.requestable ≠ 0) :
    (s.itemFrom t seq).takeCard t data =
      (s.cardBound t seq rest l).prompted i t { c with requestedSet := some c.requestable } k := by
  subst hc
  rw [State.takeCard_one hr hfree hl, State.screenCard_bound hs rfl]
  refine (State.requestProducts_some hq).trans ((State.nextStep_prompts (k := k) (ks := ks) ?_).trans (State.showPrompt_held rfl k))
  exact hk

/-- A card whose program has no prompt asks for its decision. -/
theorem State.takeCard_decides {seq : Bool} {data : CardData} {rest : List ContextId} {l : LaneId} {p : ProgramId}
    (hr : s.cardRefusal t = none) (hfree : s.rd.freeList = i :: rest) (hl : s.terminalLanes t = [l])
    (hs : s.csu.screen data s.stamp = .accepted p) (hk : (s.csu.programs.get p).prompts = [])
    (hc : c = ((Context.allocated t data s.rd.counter s.stamp).bindTo l (s.lane l)).screenedTo p (s.csu.programs.get p))
    (hq : c.requestable ≠ 0) :
    (s.itemFrom t seq).takeCard t data =
      ((s.cardBound t seq rest l).setCtx i { c with requestedSet := some c.requestable }).askDecision i := by
  subst hc
  rw [State.takeCard_one hr hfree hl, State.screenCard_bound hs rfl]
  refine (State.requestProducts_some hq).trans (State.nextStep_decides ?_)
  show List.drop _ (s.csu.programs.get p).prompts = []
  rw [hk]
  rfl

theorem State.cardBound_lane (s : State) (t : TerminalId) (seq : Bool) (rest : List ContextId) (l : LaneId) :
    (s.cardBound t seq rest l).lane l = { s.lane l with state := .inUse } ∧
      ∀ j, j ≠ l → (s.cardBound t seq rest l).lane j = s.lane j :=
  ⟨State.setLane_lane_self _ _ _, fun _ hj => State.setLane_lane_ne _ (Ne.symm hj) _⟩

/-- What a declined card leaves, after the choice of the terminal link. -/
theorem State.cardDeclines {seq : Bool} {rest : List ContextId} {w : State} {why : Reason} (h : s.awaitsTerminal t)
    (hw : w.rd.contexts = s.rd.contexts ∧ w.rd.freeList = rest ∧ w.rd.counter = nextTransaction s.rd.counter ∧
      w.rd.records = s.rd.records ∧ w.dlu = s.dlu ∧ w.hlu = s.hlu ∧ w.til = s.til ∧
      w.term t = { s.term t with failures := 0, lastTaken := some seq })
    (hr : c.reason = none) (hh : c.heldTerminal = some t) (ht : c.terminal = some t) :
    let u := ((w.setCtx i c).decline i why).chooseTerminal
    (∀ j, j ≠ i → u.ctx j = s.ctx j) ∧ u.rd.counter = nextTransaction s.rd.counter ∧ u.dlu = s.dlu ∧ u.hlu = s.hlu ∧
      u.ctx i = .cleared ∧ u.rd.freeList = rest ++ [i] ∧
      (∃ r, u.rd.records = s.rd.records ++ [r] ∧ r.transaction = c.transaction ∧ r.kind = .decline ∧ r.reason = some why ∧
        r.terminal = some t ∧ r.lane = c.lane ∧ r.source = c.source) ∧
      u.term t = ({ s.term t with failures := 0, lastTaken := some seq } : Terminal).enterShow
        (if why = .cardNotAccepted then .cardNotAccepted else .declined why) s.displayTime := by
  obtain ⟨contexts, freeList, counter, records, dlu, hlu, til, term⟩ := hw
  obtain ⟨h1, h2, h3, h4, h5, h6, ⟨r, h7⟩, h8⟩ := State.decline_leaves (v := w) (i := i) (why := why) hr hh ht
  have time : w.displayTime = s.displayTime := by rw [State.displayTime, State.paramTenths, State.param, til]; rfl
  rw [term, time] at h8
  obtain ⟨rd, -, dlu', hlu', -⟩ := ((w.setCtx i c).decline i why).chooseTerminal_keeps
  have online : (((w.setCtx i c).decline i why).term t).online = true := by
    rw [h8]
    exact h.2.2
  intro u
  refine ⟨fun j hj => ?_, ?_, dlu'.trans (h5.trans dlu), hlu'.trans (h6.trans hlu), ?_, ?_, ⟨r, ?_⟩, ?_⟩
  · rw [State.ctx, rd]
    refine (h2 j hj).trans ?_
    rw [State.ctx, contexts]
    rfl
  · rw [rd, h4, counter]
  · rw [State.ctx, rd]
    exact h1
  · rw [rd, h3, freeList]
  · rw [rd, ← records]
    exact h7
  · exact (State.chooseTerminal_term online).trans h8

/-- Settles O34. -/
theorem cardReadBindsAndPrompts : Obligations.CardReadBindsAndPrompts := by
  refine ⟨fun s t seq card data i rest l p k ks h hs hm hread hr hl hfree hscreen hk => ?_,
    fun s t seq card data i rest h hs hm hread hr hfree => ?_⟩
  · intro c hq
    have taken := State.takeCard_prompts (seq := seq) hr hfree hl hscreen hk (c := c) rfl hq
    obtain ⟨opened, self, others⟩ := State.cardOpens.chosen (s := s) (i := i) (rest := rest)
      (w := (s.cardBound t seq rest l).prompted i t { c with requestedSet := some c.requestable } k) ⟨rfl, rfl, rfl, rfl, rfl, rfl⟩
    obtain ⟨-, freeList, counter, records, dlu, hlu⟩ := opened
    obtain ⟨-, dcu, -⟩ := ((s.cardBound t seq rest l).prompted i t { c with requestedSet := some c.requestable } k).chooseTerminal_keeps
    obtain ⟨lane, lanes⟩ := s.cardBound_lane t seq rest l
    have term : ((s.cardBound t seq rest l).prompted i t { c with requestedSet := some c.requestable } k).term t =
        ({ s.term t with failures := 0, lastTaken := some seq } : Terminal).enterPrompt k :=
      (State.setTerm_term_self _ _ _).trans (congrArg (Terminal.enterPrompt · k) (s.cardBase_term t seq rest))
    have kept := State.chooseTerminal_term (s := (s.cardBound t seq rest l).prompted i t { c with requestedSet := some c.requestable } k)
      (t := t) (by rw [term]; exact h.2.2)
    refine ⟨_, (exec_card h hs hm hread).trans (by rw [taken]), self, ?_, ?_, ?_, ?_, others, freeList, counter, ?_, fun j hj => ?_, ?_, ?_, ?_,
      records, dlu, hlu⟩
    · rw [self]
    · rw [self]
      rfl
    · rw [self]
      rfl
    · rw [self]
      rfl
    · rw [State.lane, dcu]
      exact lane
    · rw [State.lane, dcu]
      exact lanes j hj
    · rw [kept, term]
      rfl
    · rw [kept, term]
      rfl
    · rw [kept, term]
      rfl
  · intro start x shows taken opened declined
    have exec_eq := exec_card h hs hm hread
    refine ⟨fun why hscreen => ?_, fun p hscreen => ?_⟩
    · by_cases hl : ∃ l, s.terminalLanes t = [l]
      · obtain ⟨l, hl⟩ := hl
        rw [State.takeCard_one hr hfree hl, State.screenCard_declined hscreen] at exec_eq
        obtain ⟨h1, h2, h3, h4, h5, h6, h7, h8⟩ := State.cardDeclines (s := s) (i := i) (t := t) (seq := seq) (rest := rest) (why := why)
          (w := s.cardBound t seq rest l) (c := start.bindTo l (s.lane l)) h
          ⟨rfl, rfl, rfl, rfl, rfl, rfl, rfl, s.cardBase_term t seq rest⟩ rfl rfl rfl
        rw [hl]
        exact ⟨_, ⟨⟨exec_eq, h1, h2, h3, h4⟩, h5, h6, h7⟩, h8⟩
      · have more : ∀ l, s.terminalLanes t ≠ [l] := fun l e => hl ⟨l, e⟩
        rw [State.takeCard_more hr hfree more, State.screenCard_declined hscreen] at exec_eq
        obtain ⟨h1, h2, h3, h4, h5, h6, ⟨r, h7⟩, h8⟩ := State.cardDeclines (s := s) (i := i) (t := t) (seq := seq) (rest := rest) (why := why)
          (w := s.cardBase t seq rest) (c := start) h ⟨rfl, rfl, rfl, rfl, rfl, rfl, rfl, s.cardBase_term t seq rest⟩ rfl rfl rfl
        refine ⟨_, ⟨⟨exec_eq, h1, h2, h3, h4⟩, h5, h6, ?_⟩, h8⟩
        split
        · rename_i l e
          exact absurd e (more l)
        · exact ⟨r, h7⟩
    · intro g
      refine ⟨fun more => ?_, fun l hl hk => ?_⟩
      · have prompts : ((s.cardBase t seq rest).setCtx i start).screenCard i =
            (s.cardBase t seq rest).prompted i t (start.screenedTo p g) .lane :=
          (State.screenCard_unbound hscreen rfl).trans (State.showPrompt_held rfl _)
        rw [State.takeCard_more hr hfree more, prompts] at exec_eq
        obtain ⟨⟨-, freeList, counter, records, dlu, hlu⟩, self, others⟩ := State.cardOpens.chosen (s := s) (i := i) (rest := rest)
          (w := (s.cardBase t seq rest).prompted i t (start.screenedTo p g) .lane) ⟨rfl, rfl, rfl, rfl, rfl, rfl⟩
        obtain ⟨-, dcu, -⟩ := ((s.cardBase t seq rest).prompted i t (start.screenedTo p g) .lane).chooseTerminal_keeps
        have term : ((s.cardBase t seq rest).prompted i t (start.screenedTo p g) .lane).term t =
            ({ s.term t with failures := 0, lastTaken := some seq } : Terminal).enterPrompt .lane :=
          (State.setTerm_term_self _ _ _).trans (congrArg (Terminal.enterPrompt · .lane) (s.cardBase_term t seq rest))
        have kept := State.chooseTerminal_term (s := (s.cardBase t seq rest).prompted i t (start.screenedTo p g) .lane)
          (t := t) (by rw [term]; exact h.2.2)
        refine ⟨_, ⟨⟨exec_eq, others, counter, dlu, hlu⟩, freeList, records⟩, dcu, self, ?_, ?_, kept.trans term⟩
        · rw [self]
        · rw [self]
          rfl
      · intro c hq bound
        have taken' := State.takeCard_decides (seq := seq) hr hfree hl hscreen hk (c := c) rfl hq
        rw [taken'] at exec_eq
        obtain ⟨lane, lanes⟩ := s.cardBound_lane t seq rest l
        have boundTerm : (s.cardBound t seq rest l).term t = _ := s.cardBase_term t seq rest
        have stays : ∀ w : State, w.dcu = (s.cardBound t seq rest l).dcu → bound w.chooseTerminal := fun w hw => by
          obtain ⟨-, dcu, -⟩ := w.chooseTerminal_keeps
          refine ⟨?_, fun j hj => ?_⟩
          · rw [State.lane, dcu, hw]
            exact lane
          · rw [State.lane, dcu, hw]
            exact lanes j hj
        refine ⟨fun hg => ?_, fun hg hon => ?_, fun hg hoff hsi => ?_⟩
        · rw [State.askDecision_site (g := g) rfl hg rfl, State.approve_held (t := t) (l := l) rfl rfl] at exec_eq
          obtain ⟨⟨-, freeList, counter, records, dlu, hlu⟩, self, others⟩ := State.cardOpens.chosen (s := s) (i := i) (rest := rest)
            (w := (((s.cardBound t seq rest l).approved i { c with requestedSet := some c.requestable, deadline := none } .site
              (({ c with requestedSet := some c.requestable } : Context).ownApproval g.requested)).showOn t (.liftNozzle l)).testAttn) ⟨rfl, rfl, rfl, rfl, rfl, rfl⟩
          have term : ((((s.cardBound t seq rest l).approved i { c with requestedSet := some c.requestable, deadline := none } .site
              (({ c with requestedSet := some c.requestable } : Context).ownApproval g.requested)).showOn t (.liftNozzle l)).testAttn).term t = ({ s.term t with failures := 0, lastTaken := some seq } : Terminal).enterShow (.liftNozzle l) s.displayTime :=
            (State.setTerm_term_self _ _ _).trans (congrArg (Terminal.enterShow · (.liftNozzle l) s.displayTime) boundTerm)
          have kept := State.chooseTerminal_term (s := (((s.cardBound t seq rest l).approved i { c with requestedSet := some c.requestable, deadline := none } .site
              (({ c with requestedSet := some c.requestable } : Context).ownApproval g.requested)).showOn t (.liftNozzle l)).testAttn) (t := t) (by rw [term]; exact h.2.2)
          exact ⟨_, ⟨⟨exec_eq, others, counter, dlu, hlu⟩, freeList, records⟩, stays _ rfl, kept.trans term, self⟩
        · rw [State.askDecision_host (g := g) rfl hg, if_pos (by exact hon), State.offer_held (t := t) rfl] at exec_eq
          obtain ⟨⟨-, freeList, counter, records, dlu, hlu⟩, self, others⟩ := State.cardOpens.chosen (s := s) (i := i) (rest := rest)
            (w := State.testAttn (((s.cardBound t seq rest l).offered i { c with requestedSet := some c.requestable, deadline := none }).modTerm t Terminal.enterWait)) ⟨rfl, rfl, rfl, rfl, rfl, rfl⟩
          have term : (State.testAttn (((s.cardBound t seq rest l).offered i { c with requestedSet := some c.requestable, deadline := none }).modTerm t Terminal.enterWait)).term t = ({ s.term t with failures := 0, lastTaken := some seq } : Terminal).enterWait :=
            (State.setTerm_term_self _ _ _).trans (congrArg Terminal.enterWait boundTerm)
          have kept := State.chooseTerminal_term (s := State.testAttn (((s.cardBound t seq rest l).offered i { c with requestedSet := some c.requestable, deadline := none }).modTerm t Terminal.enterWait)) (t := t) (by rw [term]; exact h.2.2)
          obtain ⟨-, -, -, -, ae⟩ := (State.testAttn (((s.cardBound t seq rest l).offered i { c with requestedSet := some c.requestable, deadline := none }).modTerm t Terminal.enterWait)).chooseTerminal_keeps
          exact ⟨_, ⟨⟨exec_eq, others, counter, dlu, hlu⟩, freeList, records⟩, stays _ rfl, kept.trans term, congrArg AuthUnit.requests ae, self⟩
        · rw [State.askDecision_host (g := g) rfl hg, if_neg (by show ¬ s.ae.online = true; rw [hoff]; exact Bool.false_ne_true),
            State.standInCheck_barred (g := g) rfl hsi] at exec_eq
          obtain ⟨h1, h2, h3, h4, h5, h6, h7, h8⟩ := State.cardDeclines (s := s) (i := i) (t := t) (seq := seq) (rest := rest) (why := .offline)
            (w := (s.cardBound t seq rest l).sweepStandIn)
            (c := { c with requestedSet := some c.requestable, deadline := none, source := some .standIn }) h
            ⟨rfl, rfl, rfl, rfl, rfl, rfl, rfl, boundTerm⟩ rfl rfl rfl
          exact ⟨_, ⟨⟨exec_eq, h1, h2, h3, h4⟩, h5, h6, h7⟩, h8⟩

end Sys2Proof.Machine
end

section
/-! A command of the dispenser link seen through what it changes: one context, its lane, the link and the events. -/

namespace Sys2Proof.Machine

open Sys2Proof

variable {s t : State} {i : ContextId} {l : LaneId} {c : Context} {x : Lane} {d : DispenserUnit} {r : EventUnit}

/-! ### The view -/

/-- The state with one context, one lane, the dispenser link and the event unit as given. -/
def State.view (s : State) (i : ContextId) (l : LaneId) (c : Context) (x : Lane) (d : DispenserUnit) (r : EventUnit) : State :=
  { s with rd := { s.rd with contexts := s.rd.contexts.set i c }, dcu := { s.dcu with lanes := s.dcu.lanes.set l x }, dlu := d, reu := r }

/-- A state is the view of itself. -/
theorem State.view_self (s : State) (i : ContextId) (l : LaneId) : s.view i l (s.ctx i) (s.lane l) s.dlu s.reu = s := by
  have contexts : s.rd.contexts.set i (s.ctx i) = s.rd.contexts := Tab.set_get _ _
  have lanes : s.dcu.lanes.set l (s.lane l) = s.dcu.lanes := Tab.set_get _ _
  simp only [State.view, contexts, lanes]

theorem State.view_setCtx (s : State) (c' : Context) : (s.view i l c x d r).setCtx i c' = s.view i l c' x d r := by
  simp only [State.view, State.setCtx, Tab.set_set]

theorem State.view_ctx (s : State) : (s.view i l c x d r).ctx i = c := Tab.get_set_self _ _ _

theorem State.view_ctx_ne (s : State) {j : ContextId} (h : j ≠ i) : (s.view i l c x d r).ctx j = s.ctx j := Tab.get_set_ne _ (Ne.symm h) _

theorem State.view_modCtx (s : State) (f : Context → Context) : (s.view i l c x d r).modCtx i f = s.view i l (f c) x d r := by
  rw [State.modCtx, State.view_ctx, State.view_setCtx]

theorem State.view_modChannel (s : State) (ch : Channel) (f : ChannelRecord → ChannelRecord) :
    (s.view i l c x d r).modChannel i ch f = s.view i l (c.modChannel ch f) x d r := s.view_modCtx _

theorem State.view_setLane (s : State) (x' : Lane) : (s.view i l c x d r).setLane l x' = s.view i l c x' d r := by
  simp only [State.view, State.setLane, Tab.set_set]

theorem State.view_lane (s : State) : (s.view i l c x d r).lane l = x := Tab.get_set_self _ _ _

theorem State.view_lane_ne (s : State) {m : LaneId} (h : m ≠ l) : (s.view i l c x d r).lane m = s.lane m := Tab.get_set_ne _ (Ne.symm h) _

theorem State.view_modLane (s : State) (f : Lane → Lane) : (s.view i l c x d r).modLane l f = s.view i l c (f x) d r := by
  rw [State.modLane, State.view_lane, State.view_setLane]

theorem State.view_modLaneChannel (s : State) (ch : Channel) (f : LaneChannel → LaneChannel) :
    (s.view i l c x d r).modLaneChannel l ch f = s.view i l c { x with channels := x.channels.set ch (f (x.channels.get ch)) } d r :=
  s.view_modLane _

theorem State.view_setHead (s : State) (h : HeadId) (y : Head) :
    (s.view i l c x d r).setHead h y = s.view i l c x { d with heads := d.heads.set h y } r := rfl

theorem State.view_head (s : State) (h : HeadId) : (s.view i l c x d r).head h = d.heads.get h := rfl

/-! ### What a view reads as the state does -/

/-- The context and the lane of a view stand where those of the state stand: in use, the lane, the transaction, the channels' setups, the lane's configuration. -/
structure State.Sees (s : State) (i : ContextId) (l : LaneId) (c : Context) (x : Lane) : Prop where
  inUse : c.inUse = (s.ctx i).inUse
  lane : c.lane = (s.ctx i).lane
  transaction : c.transaction = (s.ctx i).transaction
  setups : c.channels.map (·.map (·.setup)) = (s.ctx i).channels.map (·.map (·.setup))
  offered : decide (c.state = .offered) = decide ((s.ctx i).state = .offered)
  config : x.config = (s.lane l).config

theorem State.Sees.refl (s : State) (i : ContextId) (l : LaneId) : s.Sees i l (s.ctx i) (s.lane l) := ⟨rfl, rfl, rfl, rfl, rfl, rfl⟩

/-- The setups of records of which one is changed but for its setup. -/
theorem Triple.map_setup_set {rs : Triple ChannelRecord} {ch : Channel} {q : ChannelRecord} (h : q.setup = (rs.get ch).setup) :
    (rs.set ch q).map (·.setup) = rs.map (·.setup) := by
  cases ch <;> (simp only [Triple.set, Triple.map, Triple.get] at h ⊢; rw [h])

theorem State.view_bound (h : s.Sees i l c x) : (s.view i l c x d r).bound = s.bound := by
  funext k
  unfold State.bound
  congr 1
  funext j
  by_cases hj : j = i
  · rw [hj, State.view_ctx, h.inUse, h.lane]
  · rw [State.view_ctx_ne s hj]

theorem State.view_setup (h : s.Sees i l c x) : (s.view i l c x d r).setup = s.setup := by
  have config : ∀ m, ((s.view i l c x d r).lane m).config = (s.lane m).config := fun m => by
    by_cases hm : m = l
    · rw [hm, State.view_lane, h.config]
    · rw [State.view_lane_ne s hm]
  have same : ∀ j, ((s.view i l c x d r).ctx j).channels.map (·.map (·.setup)) = (s.ctx j).channels.map (·.map (·.setup)) := fun j => by
    by_cases hj : j = i
    · rw [hj, State.view_ctx, h.setups]
    · rw [State.view_ctx_ne s hj]
  funext m ch
  unfold State.setup
  rw [State.view_bound h, config]
  cases s.bound m with
  | none => rfl
  | some j =>
    have := same j
    simp only [Option.bind_some]
    cases h1 : ((s.view i l c x d r).ctx j).channels with
    | none =>
      rw [h1] at this
      cases h2 : (s.ctx j).channels with
      | none => rfl
      | some rs => rw [h2] at this; cases this
    | some rs' =>
      rw [h1] at this
      cases h2 : (s.ctx j).channels with
      | none => rw [h2] at this; cases this
      | some rs =>
        rw [h2] at this
        have parts := congrArg (fun t => Triple.get t ch) (Option.some.inj this)
        simpa using parts

theorem State.view_servedBy (h : s.Sees i l c x) : (s.view i l c x d r).servedBy = s.servedBy := by
  funext k
  unfold State.servedBy
  rw [State.view_setup h]

theorem State.view_headLocked (h : s.Sees i l c x) (hx : x.state ≠ .locked) {k : HeadId}
    (hk : ∀ q ∈ s.servedBy k, (s.lane q.1).state ≠ .locked) : (s.view i l c x d r).headLocked k = false := by
  refine Bool.eq_false_iff.mpr fun locked => ?_
  obtain ⟨q, hq, hl⟩ := (State.headLocked_iff _ _).mp locked
  rw [State.view_servedBy h] at hq
  by_cases hm : q.1 = l
  · rw [hm, State.view_lane] at hl
    exact hx hl
  · rw [State.view_lane_ne s hm] at hl
    exact hk q hq hl

theorem State.view_laneRecord (h : s.Sees i l c x) {m : LaneId} (hb : s.bound m = some i) {rs : Triple ChannelRecord}
    (hc : c.channels = some rs) (ch : Channel) : (s.view i l c x d r).laneRecord m ch = some (i, rs.get ch) := by
  unfold State.laneRecord
  rw [State.view_bound h, hb]
  dsimp only
  rw [State.view_ctx, hc]
  rfl

theorem State.view_holds (h : c.inUse = true) : (s.view i l c x d r).holds i c.transaction = true := by
  unfold State.holds
  rw [State.view_ctx, h]
  simp

theorem State.view_activeRecord (h : c.inUse = true) {rs : Triple ChannelRecord} (hc : c.channels = some rs) {k : Command}
    (ho : k.owner = some (i, c.transaction)) :
    (s.view i l c x d r).activeRecord k = some (i, c.transaction, rs.get k.channel) := by
  unfold State.activeRecord
  rw [ho]
  dsimp only
  rw [State.view_holds h, State.view_ctx, Context.records, hc]
  rfl

theorem State.view_ownerOf (h : s.Sees i l c x) {m : LaneId} (hb : s.bound m = some i) :
    (s.view i l c x d r).ownerOf m = some (i, c.transaction) := by
  unfold State.ownerOf
  rw [State.view_bound h, hb, Option.map_some, State.view_ctx]

theorem State.view_queueFor {m : LaneId} (hl : c.lane = some m) {rs : Triple ChannelRecord} (hc : c.channels = some rs) {ch : Channel}
    {z : ChannelSetup} (hz : (rs.get ch).setup = some z) (p : Payload) :
    (s.view i l c x d r).queueFor i ch p = [.queue ⟨z.head, z.headChannel, m, ch, some (i, c.transaction), p⟩] := by
  unfold State.queueFor State.commandFor
  rw [State.view_ctx, hl, Context.records, hc]
  dsimp only [Option.getD_some]
  rw [hz]
  rfl

/-- A bound context stands on its lane. -/
theorem State.bound_lane (h : s.bound l = some i) : (s.ctx i).inUse = true ∧ (s.ctx i).lane = some l := by
  have := List.find?_some h
  simpa using this

/-! ### Events -/

/-- The event unit with ATTN tested afresh. -/
def State.heed (s : State) (r : EventUnit) : EventUnit := { r with attn := ({ s with reu := r } : State).attnCondition }

@[simp] theorem State.heed_heed (s : State) (r : EventUnit) : s.heed (s.heed r) = s.heed r := rfl

theorem State.view_offeredCount (h : s.Sees i l c x) : (s.view i l c x d r).offeredCount = s.offeredCount := by
  have count := Tab.countP_set (fun c : Context => decide (c.state = .offered)) s.rd.contexts i c
  have same : decide ((Tab.get s.rd.contexts i).state = .offered) = decide (c.state = .offered) := h.offered.symm
  rw [same] at count
  have both := Nat.add_right_cancel count
  simpa only [State.offeredCount, State.view, List.countP_eq_length_filter] using both

theorem State.view_testAttn (h : s.Sees i l c x) : (s.view i l c x d r).testAttn = s.view i l c x d (s.heed r) := by
  have attn : (s.view i l c x d r).attnCondition = ({ s with reu := r } : State).attnCondition := by
    unfold State.attnCondition
    rw [State.view_offeredCount h]
    rfl
  unfold State.testAttn
  rw [attn]
  rfl

theorem State.view_queueEvent (h : s.Sees i l c x) (k : EventKind) (sub : Subject) (n : Nat) :
    (s.view i l c x d r).queueEvent k sub n = s.view i l c x d (s.heed (r.occur k sub n s.stamp)) :=
  State.view_testAttn (r := r.occur k sub n s.stamp) h

/-! ### Commands joining a list -/

/-- A command queued for an ONLINE head that takes commands, neither held back by the latch nor split. -/
theorem State.handle_queue {k : Command} (on : (s.head k.head).online = true) (unlocked : s.headLocked k.head = false)
    (hl : (s.rd.latch && k.opening) = false) (hr : ∀ p, k.payload = .release p → (s.head k.head).singleFrame = false) :
    handle (.queue k) s = s.join k := by
  show s.queueCommand k = _
  unfold State.queueCommand
  rw [on, unlocked, hl]
  simp only [Bool.not_true, Bool.false_eq_true, if_false]
  split
  · rename_i p hp
    rw [hr p hp]
    exact if_neg Bool.false_ne_true
  · rfl

/-- A RELEASE for a head that takes single frames is queued as LIMIT and OPEN. -/
theorem State.handle_queue_split {k : Command} {p : Points} (on : (s.head k.head).online = true) (unlocked : s.headLocked k.head = false)
    (hl : s.rd.latch = false) (hp : k.payload = .release p) (hf : (s.head k.head).singleFrame = true) :
    handle (.queue k) s = (s.join (k.splitLimit p)).1.join k.splitOpen := by
  show s.queueCommand k = _
  unfold State.queueCommand
  rw [on, unlocked, hl, hp, hf]
  rfl

theorem Command.sameKind_of_channel {k e : Command} (h : ¬(e.lane = k.lane ∧ e.channel = k.channel)) : k.sameKind e = false := by
  unfold Command.sameKind Command.sameChannel
  rw [Bool.and_eq_false_iff, Bool.and_eq_false_iff, decide_eq_false_iff_not, decide_eq_false_iff_not]
  exact .inl (by_contra fun hc => h (by
    rw [not_or, not_not, not_not] at hc
    exact ⟨hc.1.symm, hc.2.symm⟩))

/-- A command that joins a list with none for its channel. -/
theorem joinList_fresh {cs : List Command} {k : Command} (h : ∀ e ∈ cs, ¬(e.lane = k.lane ∧ e.channel = k.channel)) :
    joinList cs k = (if k.isClose then cs.filter Command.isClose ++ k :: cs.filter (fun e => !e.isClose) else cs ++ [k]) ∧
      joinWithdrawn cs k = [] := by
  have other : ∀ e ∈ cs, k.sameChannel e = false := fun e he => by
    unfold Command.sameChannel
    rw [Bool.and_eq_false_iff, decide_eq_false_iff_not, decide_eq_false_iff_not]
    exact not_and_or.mp fun hc => h e he ⟨hc.1.symm, hc.2.symm⟩
  have none : ¬ cs.any k.sameKind = true := by
    rw [Bool.not_eq_true, List.any_eq_false]
    exact fun e he => by rw [Command.sameKind, other e he, Bool.false_and]; exact Bool.false_ne_true
  have rest : (cs.filter fun e => !(k.sameChannel e && e.releasing)) = cs :=
    List.filter_eq_self.mpr fun e he => by rw [other e he]; rfl
  have withdrawn : withdrawnBy k cs = [] :=
    List.filter_eq_nil_iff.mpr fun e he => by rw [other e he]; exact Bool.false_ne_true
  refine ⟨?_, ?_⟩
  · unfold joinList
    rw [if_neg none]
    simp only [rest]
  · unfold joinWithdrawn
    rw [if_neg none, withdrawn]
    split <;> rfl

/-- A CLOSE joining a list with no command for its channel stands right behind the CLOSEs. -/
theorem State.join_close {k : Command} (hk : k.payload.kind = .close)
    (h : ∀ e ∈ (s.head k.head).commands, ¬(e.lane = k.lane ∧ e.channel = k.channel)) :
    s.join k = (s.setCommands k.head ((s.head k.head).commands.filter Command.isClose ++ k ::
      (s.head k.head).commands.filter fun e => !e.isClose), []) := by
  obtain ⟨list, withdrawn⟩ := joinList_fresh h
  have close : k.isClose = true := decide_eq_true hk
  unfold State.join
  dsimp only
  rw [list, withdrawn, if_pos close]
  rfl

/-! ### Steps over the three channels -/

theorem State.gather_idle {α : Type} {f : State → α → State × List Work} {es : List α} (h : ∀ e ∈ es, f s e = (s, [])) :
    s.gather f es = (s, []) := by
  induction es with
  | nil => rfl
  | cons e es ih =>
    unfold State.gather
    rw [h e (List.mem_cons_self ..)]
    dsimp only
    rw [ih fun k hk => h k (List.mem_cons_of_mem _ hk)]
    rfl

/-- Steps of which only one channel's does anything. -/
theorem State.gather_single {f : State → Channel → State × List Work} {ch : Channel} (h1 : ∀ e, e ≠ ch → f s e = (s, []))
    (h2 : ∀ e, e ≠ ch → f (f s ch).1 e = ((f s ch).1, [])) : s.gather f Channel.letters = f s ch := by
  cases ch
  · simp only [Channel.letters, State.gather, h2 .b (by decide), h2 .c (by decide), List.append_nil]
  · simp only [Channel.letters, State.gather, h1 .a (by decide), h2 .c (by decide), List.append_nil, List.nil_append]
  · simp only [Channel.letters, State.gather, h1 .a (by decide), h1 .b (by decide), List.append_nil, List.nil_append]

/-! ### Work taken piece by piece -/

/-- A piece of work whose effect is known. -/
theorem drain_step {n : Nat} {w : Work} {ws vs : List Work} {s t : State} (h : handle w s = (t, vs)) :
    drain (n + 1) (w :: ws) s = drain n (vs ++ ws) t := by rw [drain_cons, h]

/-- The arbiter's choice, where it leaves no work. -/
theorem drain_arbitrate (clean : s.LatchClean) : drain 1 [.arbitrate] s = some s.arbitrate.1 := by
  rw [drain_cons]
  change drain 0 (s.arbitrate.2 ++ []) s.arbitrate.1 = _
  rw [State.arbitrate_works clean]
  rfl

/-- Work done down to the arbiter's choice. -/
theorem finish_then_arbitrate {n : Nat} {ws : List Work} {s t : State} (h : drain (n + 1) ws s = drain 1 [.arbitrate] t)
    (clean : t.LatchClean) (hn : n < workBound := by decide) : finish ws s = .next t.arbitrate.1 :=
  finish_of_drain (n := n + 1) hn (h.trans (drain_arbitrate clean))

/-! ### Lane faults on a view -/

theorem State.Sees.fault (h : s.Sees i l c x) (k : FaultKind) : s.Sees i l c (x.enterFaultStop k) :=
  ⟨h.inUse, h.lane, h.transaction, h.setups, h.offered, h.config⟩

/-- A first fault on a lane with a bound context that it does not close at once. -/
theorem State.view_firstFault (h : s.Sees i l c x) (hb : s.bound l = some i) (k : FaultKind) (h1 : x.state ≠ .faultStop) (h2 : x.state ≠ .locked)
    (hc : c.flagFault.cancellable = false) :
    handle (.fault l k) (s.view i l c x d r) =
      (s.view i l (if c.flagFault.stoppable then c.flagFault.withReason .laneFault else c.flagFault) (x.enterFaultStop k) d
          (s.heed (r.occur .laneFault (.lane l) k.code s.stamp)),
        (if c.flagFault.stoppable then [.stop i c.transaction (.fault k)] else []) ++ [.faultCloses l k]) := by
  have taken : (s.view i l c x d r).takeFault l k = (s.view i l c x d r).firstFault l k := by
    unfold State.takeFault
    rw [State.view_lane]
    split
    · exact absurd ‹_› h1
    · exact absurd ‹_› h2
    · rfl
  show (s.view i l c x d r).takeFault l k = _
  rw [taken]
  unfold State.firstFault
  dsimp only
  rw [State.view_modLane, State.view_queueEvent (h.fault k), State.view_bound (h.fault k), hb]
  dsimp only
  unfold State.faultContext
  dsimp only
  rw [State.view_modCtx, State.view_ctx, if_neg (by rw [hc]; exact Bool.false_ne_true)]
  split
  · rw [State.view_modCtx]
    rfl
  · rfl

/-- A first fault on a lane with no bound context. -/
theorem State.view_firstFault_free (h : s.Sees i l c x) (hb : s.bound l = none) (k : FaultKind) (h1 : x.state ≠ .faultStop) (h2 : x.state ≠ .locked) :
    handle (.fault l k) (s.view i l c x d r) =
      (s.view i l c (x.enterFaultStop k) d (s.heed (r.occur .laneFault (.lane l) k.code s.stamp)), [.faultCloses l k]) := by
  have taken : (s.view i l c x d r).takeFault l k = (s.view i l c x d r).firstFault l k := by
    unfold State.takeFault
    rw [State.view_lane]
    split
    · exact absurd ‹_› h1
    · exact absurd ‹_› h2
    · rfl
  show (s.view i l c x d r).takeFault l k = _
  rw [taken]
  unfold State.firstFault
  dsimp only
  rw [State.view_modLane, State.view_queueEvent (h.fault k), State.view_bound (h.fault k), hb]

/-- A channel record as a first fault's CLOSE is queued for it (R127). -/
def ChannelRecord.closedBy (q : ChannelRecord) (k : FaultKind) : ChannelRecord :=
  if q.state = .flowing then q.beginClosing (.fault k)
  else if q.state = .opening then { q with closeQueued := some (.fault k) } else q

theorem ChannelRecord.closedBy_setup (q : ChannelRecord) (k : FaultKind) : (q.closedBy k).setup = q.setup := by
  unfold ChannelRecord.closedBy
  split
  · rfl
  · split <;> rfl

/-- The CLOSE of a fault for a channel of a bound lane that is not DONE, its head ONLINE. -/
theorem State.view_faultCloseOne (h : s.Sees i l c x) (hb : s.bound l = some i) {rs : Triple ChannelRecord} (hc : c.channels = some rs)
    {ch : Channel} {z : ChannelSetup} (hz : s.setup l ch = some z) (hd : (rs.get ch).state ≠ .done) (on : (d.heads.get z.head).online = true)
    (k : FaultKind) :
    (s.view i l c x d r).faultCloseOne l k ch =
      (s.view i l (c.modChannel ch (·.closedBy k)) { x with channels := x.channels.set ch { x.channels.get ch with faultClose := .queued } } d r,
        [.queue ⟨z.head, z.headChannel, l, ch, some (i, c.transaction), .close (.fault k) true⟩]) := by
  have going : ¬ ((s.view i l c x d r).laneRecord l ch).any (fun p => decide (p.2.state = .done)) = true := by
    rw [State.view_laneRecord h hb hc]
    simpa using hd
  have sees' : s.Sees i l c { x with channels := x.channels.set ch { x.channels.get ch with faultClose := .queued } } :=
    ⟨h.inUse, h.lane, h.transaction, h.setups, h.offered, h.config⟩
  have online : ((s.view i l c x d r).head z.head).online = true := on
  unfold State.faultCloseOne
  rw [State.view_setup h, hz]
  dsimp only
  rw [if_neg going, if_pos online, State.view_modLaneChannel, State.view_laneRecord h hb hc]
  dsimp only
  rw [State.view_modChannel]
  have owner : (s.view i l (c.modChannel ch (·.closedBy k)) { x with channels := x.channels.set ch { x.channels.get ch with faultClose := .queued } } d r).ownerOf l
      = some (i, c.transaction) := by
    refine State.view_ownerOf (c := c.modChannel ch (·.closedBy k)) ⟨sees'.inUse, sees'.lane, sees'.transaction, ?_, sees'.offered, sees'.config⟩ hb
    rw [← h.setups]
    show (c.channels.map _).map _ = _
    rw [hc]
    exact congrArg some (Triple.map_setup_set (ChannelRecord.closedBy_setup _ k))
  exact Prod.ext rfl (by rw [← owner]; rfl)

end Sys2Proof.Machine
end

section
/-! Good poll replies, and the refutation of O46: a CLOSE queued as a head comes ONLINE can be the piece of work that passes the bound. -/

namespace Sys2Proof.Machine

open Sys2Proof

variable {s : State} {h : HeadId} {i : ContextId} {l : LaneId} {ch : Channel} {z : ChannelSetup}

/-! ### Poll replies of ONLINE heads -/

/-- The dispenser link after a good poll reply of an ONLINE head: the exchange is over, its reports are kept (R87, R90). -/
def DispenserUnit.polled (d : DispenserUnit) (h : HeadId) (restarted : Bool) (rs : List ChannelReport) : DispenserUnit :=
  { d with
    line := .quiet
    heads := d.heads.set h (({ d.heads.get h with
      failures := 0, singleFrame := (d.heads.get h).singleFrame && !restarted } : Head).keepReports rs) }

theorem State.endExchange_head (s : State) (h : HeadId) : (s.endExchange h).head h = { s.head h with failures := 0 } := Tab.get_set_self _ _ _

theorem State.goodPoll_online (on : (s.head h).online = true) (restarted : Bool) (rs : List ChannelReport) :
    s.goodPoll h restarted rs = ({ s with dlu := s.dlu.polled h restarted rs }, s.handedReports h restarted rs) := by
  have online : ((s.endExchange h).head h).online = true := by rw [State.endExchange_head]; exact on
  have reports : (s.endExchange h).handedReports h restarted rs = s.handedReports h restarted rs := by
    unfold State.handedReports
    rw [State.endExchange_head]
    rfl
  unfold State.goodPoll
  dsimp only
  rw [if_pos online]
  refine Prod.ext ?_ (by rw [← reports]; rfl)
  have marked : (s.endExchange h).modHead h (fun x => { x with singleFrame := x.singleFrame && !restarted }) =
      (s.endExchange h).setHead h { s.head h with failures := 0, singleFrame := (s.head h).singleFrame && !restarted } := by
    rw [State.modHead, State.endExchange_head]
  have read : ((s.endExchange h).setHead h { s.head h with failures := 0, singleFrame := (s.head h).singleFrame && !restarted }).head h =
      { s.head h with failures := 0, singleFrame := (s.head h).singleFrame && !restarted } := Tab.get_set_self _ _ _
  show ((s.endExchange h).modHead h fun x => { x with singleFrame := x.singleFrame && !restarted }).modHead h
    (fun x => x.keepReports rs) = _
  rw [marked, State.modHead, read]
  simp only [State.setHead, State.endExchange, State.modHead, State.setLine, DispenserUnit.polled, Tab.set_set]
  rfl

/-- A complete poll reply that is awaited. -/
theorem exec_pollReply {retries : Nat} {rs : List ChannelReport} (ha : s.awaitsHead ⟨h, none, retries⟩) (hc : s.replyComplete h rs = true)
    (restarted : Bool) : exec (.pollReply h restarted rs) s =
      finish ((s.goodPoll h restarted rs).2 ++ [.arbitrate]) (s.goodPoll h restarted rs).1 := by
  obtain ⟨hp, hline⟩ := ha
  have awaits : s.dlu.line.awaits = some ⟨h, none, retries⟩ := by rw [hline]; rfl
  have taken : s.takePollReply h restarted rs ⟨h, none, retries⟩ = s.goodPoll h restarted rs := if_pos ⟨rfl, rfl, hc⟩
  show (s.inWindow fun x s => s.takePollReply h restarted rs x) = _
  unfold State.inWindow
  rw [State.working_of_running hp, awaits]
  dsimp only
  rw [taken]

/-- The one report handed on where a head serves one channel. -/
theorem State.handedReports_single {rs : List ChannelReport} {r : ChannelReport} (hs : s.servedBy h = [(l, ch)]) (hz : s.setup l ch = some z)
    (hr : rs.find? (fun r => decide (r.channel = z.headChannel)) = some r) (restarted : Bool) :
    s.handedReports h restarted rs = [.handed ⟨l, ch, r, indicationOf restarted ((s.head h).last.get r.channel) r, restarted⟩] := by
  unfold State.handedReports
  rw [hs]
  simp only [List.filterMap_cons, List.filterMap_nil, hz, hr, Option.map_some]

theorem State.replyComplete_single {rs : List ChannelReport} {r : ChannelReport} (hs : s.servedBy h = [(l, ch)]) (hz : s.setup l ch = some z)
    (hr : rs.find? (fun r => decide (r.channel = z.headChannel)) = some r) : s.replyComplete h rs = true := by
  unfold State.replyComplete
  rw [hs, List.all_cons, List.all_nil, hz, Option.all_some, Bool.and_true, List.any_eq_true]
  have found : decide (r.channel = z.headChannel) = true := by simpa using List.find?_some hr
  exact ⟨r, List.mem_of_find?_eq_some hr, found⟩

/-- A report handed on for a channel of a bound context (R98, R124, R125). -/
theorem State.handle_handed {q : ChannelRecord} {k : Handed} (hq : s.laneRecord k.lane k.channel = some (i, q)) :
    handle (.handed k) s = (s.modChannel i k.channel fun q => q.extend k.restarted k.report.low16,
      (if jumps q k.restarted k.report.low16 then [.fault k.lane .meterJump] else []) ++
        (if s.flowWithoutRelease k then [.fault k.lane .flowWithoutRelease] else []) ++ [.act k, .noted k]) := by
  show s.takeReport k = _
  unfold State.takeReport
  rw [hq]

/-! ### A part whose next CLOSE passes the bound -/

namespace Overrun

/-- A channel that awaits recovery, its head channel the first of head 1. -/
def awaiting : ChannelRecord := { ChannelRecord.atBinding (some ⟨0, .one, 0, 1⟩) with state := .closing, awaiting := true, endCause := some .stopped }

/-- A channel of the same lane on head 2. -/
def resting : ChannelRecord := .atBinding (some ⟨1, .one, 0, 1⟩)

/-- The context of a transaction in RECOVERING. -/
def recovering (q : ChannelRecord) : Context :=
  { Context.cleared with state := .recovering, transaction := 1, lane := some 0, channels := some ⟨q, resting, .atBinding none⟩ }

/-- A LIMIT for the channel on head 2. -/
def limit : Command := ⟨1, .one, 0, .b, none, .limit ⟨0, 0⟩ false⟩

/-- The CLOSE that head 1 is owed as it comes ONLINE. -/
def owed : Command := ⟨0, .one, 0, .a, some (0, 1), .close .stopped false⟩

/-- Head 1 polled, OFFLINE; head 2 ONLINE, with `n` LIMITs in its list, more than any run puts there. -/
def link (n : Nat) : DispenserUnit := { State.reset.dlu with
  line := .window ⟨0, none, 0⟩
  heads := State.reset.dlu.heads.set 1 { Head.starting with online := true, commands := List.replicate n limit } }

def part (n : Nat) : State := State.reset.view 0 0 (recovering awaiting) (.starting .inUse) (link n) State.reset.reu

/-- A report that is a METER JUMP of the channel that awaits recovery. -/
def report : ChannelReport := ⟨.one, .hung, .fast, .none, false, 0x8000⟩

theorem part_bound (n : Nat) : (part n).bound 0 = some 0 := rfl
theorem part_servedBy (n : Nat) : (part n).servedBy 0 = [(0, .a)] := rfl
theorem part_setup (n : Nat) : (part n).setup 0 = fun
    | .a => some ⟨0, .one, 0, 1⟩
    | .b => some ⟨1, .one, 0, 1⟩
    | .c => none := by
  funext ch
  cases ch <;> rfl

/-- The head that comes ONLINE, with a list. -/
def back (cs : List Command) : Head :=
  { State.reset.dlu.heads.get 0 with online := true, failures := 0, offlinePoll := .stopped, commands := cs }

/-- The link after the reply, the reports kept, with the lists of the two heads. -/
def polled (n : Nat) (cs ds : List Command) : DispenserUnit := { link n with
  line := .quiet
  heads := ((link n).heads.set 0 ((back cs).keepReports [report])).set 1 { Head.starting with online := true, commands := ds } }

/-- The events after the reply. -/
def events (n : Nat) : EventUnit := (part n).heed ((part n).reu.occur .headOnline (.head 0) 0 (part n).stamp)

/-- The channel once its CLOSE has been asked for. -/
def asked : ChannelRecord := { awaiting with awaiting := false }

/-- The report as it is handed on. -/
def jump : Handed := ⟨0, .a, report, .noComparison, false⟩

theorem part_sees (n : Nat) {q : ChannelRecord} (hq : q.setup = some ⟨0, .one, 0, 1⟩) {x : Lane} (hx : x.config = emptyLaneConfig) :
    (part n).Sees 0 0 (recovering q) x := by
  refine ⟨rfl, rfl, rfl, ?_, rfl, hx⟩
  show some (Triple.mk q.setup _ _) = _
  rw [hq]
  rfl

theorem part_self (n : Nat) : part n = (part n).view 0 0 (recovering awaiting) (.starting .inUse) (link n) State.reset.reu :=
  ((part n).view_self 0 0).symm

/-- The CLOSE of the channel that awaits recovery is queued as its head comes ONLINE. -/
theorem part_headOnline (n : Nat) (d : DispenserUnit) :
    ((part n).view 0 0 (recovering awaiting) (.starting .inUse) d State.reset.reu).headOnline 0 false =
      ((part n).view 0 0 (recovering asked) (.starting .inUse)
        { d with heads := d.heads.set 0 { d.heads.get 0 with online := true, failures := 0, offlinePoll := .stopped } } (events n), [.queue owed]) := by
  have sees := part_sees n (q := awaiting) rfl (x := .starting .inUse) rfl
  have sees' := part_sees n (q := asked) rfl (x := .starting .inUse) rfl
  have event : ∀ d', ((part n).view 0 0 (recovering awaiting) (.starting .inUse) d' State.reset.reu).queueEvent .headOnline (.head 0) 0 =
      (part n).view 0 0 (recovering awaiting) (.starting .inUse) d' (events n) := fun d' => State.view_queueEvent sees _ _ _
  have recovers : ∀ d', ((part n).view 0 0 (recovering awaiting) (.starting .inUse) d' (events n)).recoverChannel 0 .a =
      ((part n).view 0 0 (recovering asked) (.starting .inUse) d' (events n), [.queue owed]) := fun d' => by
    unfold State.recoverChannel
    rw [State.view_laneRecord sees (part_bound n) (rs := ⟨awaiting, resting, .atBinding none⟩) rfl]
    refine (if_pos rfl).trans ?_
    rw [State.withChannel, State.view_modChannel]
    refine Prod.ext rfl ?_
    show ((part n).view 0 0 (recovering awaiting) (.starting .inUse) d' (events n)).queueFor 0 .a (.close .stopped false) = [.queue owed]
    exact State.view_queueFor (i := 0) (c := recovering awaiting) (m := 0) rfl (rs := ⟨awaiting, resting, .atBinding none⟩) rfl (ch := .a)
      (z := ⟨0, .one, 0, 1⟩) rfl _
  have pays : ∀ d', ((part n).view 0 0 (recovering asked) (.starting .inUse) d' (events n)).payFaultClose 0 .a =
      ((part n).view 0 0 (recovering asked) (.starting .inUse) d' (events n), []) := fun d' => by
    unfold State.payFaultClose
    rw [State.view_lane]
    exact if_neg fun h => by cases h.1
  unfold State.headOnline
  dsimp only
  rw [State.modHead, State.view_setHead]
  simp only [Bool.false_eq_true, if_false]
  rw [event, State.view_servedBy sees, part_servedBy]
  simp only [State.gather, recovers]
  rw [State.view_servedBy sees', part_servedBy]
  simp only [State.gather, pays]
  rfl

theorem part_polled (n : Nat) : (part n).goodPoll 0 false [report] =
    ((part n).view 0 0 (recovering asked) (.starting .inUse) (polled n [] (List.replicate n limit)) (events n), [.queue owed, .handed jump]) := by
  have sees' := part_sees n (q := asked) rfl (x := .starting .inUse) rfl
  have ended : (part n).endExchange 0 = (part n).view 0 0 (recovering awaiting) (.starting .inUse)
      { link n with line := .quiet, heads := (link n).heads.set 0 { (link n).heads.get 0 with failures := 0 } } State.reset.reu := by
    conv_lhs => rw [part_self]
    rfl
  unfold State.goodPoll
  dsimp only
  rw [ended, if_neg (by rw [State.view_head, Tab.get_set_self]; exact Bool.false_ne_true), part_headOnline]
  dsimp only
  rw [State.handedReports_single (l := 0) (ch := .a) (z := ⟨0, .one, 0, 1⟩) (r := report)
    (by rw [State.view_servedBy sees']; rfl) (by rw [State.view_setup sees']; rfl) rfl]
  refine Prod.ext ?_ ?_
  · simp only [State.modHead, State.view_setHead, State.view_head, Tab.set_set, Tab.get_set_self]
    rfl
  · rfl

/-- The part as the CLOSE stands in its list, the report still to be taken. -/
def waiting (n : Nat) : State :=
  (part n).view 0 0 (recovering asked) (.starting .inUse) (polled n [owed] (List.replicate n limit)) (events n)

theorem part_headLocked (n : Nat) {q : ChannelRecord} (hq : q.setup = some ⟨0, .one, 0, 1⟩) {x : Lane} (hx : x.config = emptyLaneConfig)
    (hl : x.state ≠ .locked) (d : DispenserUnit) (r : EventUnit) (k : HeadId) :
    ((part n).view 0 0 (recovering q) x d r).headLocked k = false := by
  refine State.view_headLocked (part_sees n hq hx) hl fun p _ => ?_
  by_cases hp : p.1 = 0
  · rw [hp, part, State.view_lane]
    decide
  · rw [part, State.view_lane_ne _ hp, show State.reset.lane p.1 = .starting .closed from Tab.get_fill _ _]
    decide

/-- The CLOSE queued is the one piece of work by which the two replies differ. -/
theorem handle_owed (n : Nat) : handle (.queue owed)
    ((part n).view 0 0 (recovering asked) (.starting .inUse) (polled n [] (List.replicate n limit)) (events n)) = (waiting n, []) := by
  rw [State.handle_queue (k := owed) rfl (part_headLocked n rfl rfl (by decide) _ _ _) rfl (fun p hp => by cases hp),
    State.join_close rfl (fun e he => by cases he)]
  rfl

/-- The CLOSEs of the fault that the report shows. -/
def faultClose (h : HeadId) (ch : Channel) : Command := ⟨h, .one, 0, ch, some (0, 1), .close (.fault .meterJump) true⟩

/-- The channel with the report's count. -/
def jumped : ChannelRecord := { asked with low16 := 0x8000 }

/-- The context with the FAULT flag. -/
def flagged : Context := (recovering jumped).flagFault

theorem flagged_sees (n : Nat) {x : Lane} (hx : x.config = emptyLaneConfig) : (part n).Sees 0 0 flagged x :=
  ⟨rfl, rfl, rfl, rfl, rfl, hx⟩

/-- The lane in FAULT STOP, with the channels whose CLOSE is queued. -/
def faulted : Lane := (Lane.starting .inUse).enterFaultStop .meterJump

def closing (x : Lane) (ch : Channel) : Lane :=
  { x with channels := x.channels.set ch { x.channels.get ch with faultClose := .queued } }

/-- The events once the fault is found. -/
def faults (n : Nat) : EventUnit := (part n).heed ((events n).occur .laneFault (.lane 0) FaultKind.meterJump.code (part n).stamp)

theorem handle_jump (n : Nat) : handle (.handed jump) (waiting n) =
    ((part n).view 0 0 (recovering jumped) (.starting .inUse) (polled n [owed] (List.replicate n limit)) (events n),
      [.fault 0 .meterJump, .act jump, .noted jump]) := by
  have record : (waiting n).laneRecord jump.lane jump.channel = some (0, asked) :=
    State.view_laneRecord (part_sees n (q := asked) rfl rfl) (part_bound n) (rs := ⟨asked, resting, .atBinding none⟩) rfl .a
  rw [State.handle_handed record, waiting, State.view_modChannel]
  rfl

theorem handle_fault (n : Nat) (d : DispenserUnit) : handle (.fault 0 .meterJump) ((part n).view 0 0 (recovering jumped) (.starting .inUse) d (events n)) =
    ((part n).view 0 0 flagged faulted d (faults n), [.faultCloses 0 .meterJump]) := by
  rw [State.view_firstFault (part_sees n rfl rfl) (part_bound n) _ (by decide) (by decide) rfl]
  rfl

theorem handle_faultCloses (n : Nat) (ds : List Command) :
    handle (.faultCloses 0 .meterJump) ((part n).view 0 0 flagged faulted (polled n [owed] ds) (faults n)) =
      ((part n).view 0 0 flagged (closing (closing faulted .a) .b) (polled n [owed] ds) (faults n),
        [.queue (faultClose 0 .a), .queue (faultClose 1 .b)]) := by
  have first := State.view_faultCloseOne (d := polled n [owed] ds) (r := faults n) (flagged_sees n (x := faulted) rfl) (part_bound n)
    (rs := ⟨jumped, resting, .atBinding none⟩) rfl (ch := .a) (z := ⟨0, .one, 0, 1⟩) rfl (by decide) rfl .meterJump
  have second := State.view_faultCloseOne (d := polled n [owed] ds) (r := faults n) (flagged_sees n (x := closing faulted .a) rfl) (part_bound n)
    (rs := ⟨jumped, resting, .atBinding none⟩) rfl (ch := .b) (z := ⟨1, .one, 0, 1⟩) rfl (by decide) rfl .meterJump
  have third : ∀ x : Lane, x.config = emptyLaneConfig →
      ((part n).view 0 0 flagged x (polled n [owed] ds) (faults n)).faultCloseOne 0 .meterJump .c =
        ((part n).view 0 0 flagged x (polled n [owed] ds) (faults n), []) := fun x hx => by
    unfold State.faultCloseOne
    rw [State.view_setup (flagged_sees n hx), part_setup]
  have stopped : ((part n).view 0 0 flagged faulted (polled n [owed] ds) (faults n)).queueFaultCloses 0 .meterJump =
      State.gather (fun s ch => s.faultCloseOne 0 .meterJump ch) ((part n).view 0 0 flagged faulted (polled n [owed] ds) (faults n)) Channel.letters :=
    if_pos (by rw [State.view_lane]; rfl)
  refine stopped.trans ?_
  simp only [Channel.letters, State.gather, first]
  have same : flagged.modChannel .a (·.closedBy .meterJump) = flagged := rfl
  have same' : flagged.modChannel .b (·.closedBy .meterJump) = flagged := rfl
  rw [same]
  rw [show ({ faulted with channels := faulted.channels.set .a { faulted.channels.get .a with faultClose := .queued } } : Lane) = closing faulted .a from rfl,
    second, same', third _ rfl]
  rfl

/-- A LIMIT withdrawn leaves everything as it is. -/
theorem handle_withdrawn (s : State) : handle (.outcome limit .withdrawn) s = (s, []) := rfl

theorem drain_withdrawn (n m : Nat) (ws : List Work) (s : State) :
    drain (m + n) ((List.replicate n limit).map (fun k => Work.outcome k .withdrawn) ++ ws) s = drain m ws s := by
  induction n with
  | zero => rfl
  | succ n ih =>
    rw [List.replicate_succ, List.map_cons, List.cons_append, ← Nat.add_assoc, drain_quiet (handle_withdrawn s), ih]

/-- The CLOSE for the channel on head 2 withdraws every LIMIT. -/
theorem join_withdraws (n : Nat) (s : State) (h : (s.head 1).commands = List.replicate n limit) :
    (s.join (faultClose 1 .b)).2 = (List.replicate n limit).map fun k => Work.outcome k .withdrawn := by
  have none : ((s.head 1).commands.any (faultClose 1 .b).sameKind) = false := by
    rw [h, List.any_replicate]
    split <;> rfl
  have all : withdrawnBy (faultClose 1 .b) (s.head 1).commands = List.replicate n limit := by
    rw [h, withdrawnBy]
    exact List.filter_eq_self.mpr fun k hk => by rw [List.eq_of_mem_replicate hk]; rfl
  show (joinWithdrawn (s.head 1).commands (faultClose 1 .b)).map _ = _
  rw [joinWithdrawn, if_neg (Bool.eq_false_iff.mp none), if_pos (show (faultClose 1 .b).isClose = true from rfl), all]

/-- What the report is acted on as, its channel in CLOSING and its valve open: nothing. -/
theorem handle_act (n : Nat) (d : DispenserUnit) :
    handle (.act jump) ((part n).view 0 0 flagged (closing (closing faulted .a) .b) d (faults n)) =
      ((part n).view 0 0 flagged (closing (closing faulted .a) .b) d (faults n), []) := by
  have record := State.view_laneRecord (d := d) (r := faults n) (flagged_sees n (x := closing (closing faulted .a) .b) rfl) (part_bound n)
    (rs := ⟨jumped, resting, .atBinding none⟩) rfl .a
  show State.actOnReport ((part n).view 0 0 flagged (closing (closing faulted .a) .b) d (faults n)) jump = _
  unfold State.actOnReport
  rw [show jump.lane = 0 from rfl, show jump.channel = .a from rfl, record]
  rfl

/-- All that the report leads to takes `n + 7` pieces of work, before the arbiter chooses. -/
theorem drain_waiting (n : Nat) : ∃ u : State, u.LatchClean ∧
    ∀ m, drain (m + (n + 7)) [.handed jump, .arbitrate] (waiting n) = drain m [.arbitrate] u := by
  have unlocked : ∀ d k, ((part n).view 0 0 flagged (closing (closing faulted .a) .b) d (faults n)).headLocked k = false := fun d k => by
    refine State.view_headLocked (flagged_sees n rfl) (by decide) fun p _ => ?_
    by_cases hp : p.1 = 0
    · rw [hp, part, State.view_lane]
      decide
    · rw [part, State.view_lane_ne _ hp, show State.reset.lane p.1 = .starting .closed from Tab.get_fill _ _]
      decide
  have replaces : handle (.queue (faultClose 0 .a))
      ((part n).view 0 0 flagged (closing (closing faulted .a) .b) (polled n [owed] (List.replicate n limit)) (faults n)) =
      ((part n).view 0 0 flagged (closing (closing faulted .a) .b) (polled n [faultClose 0 .a] (List.replicate n limit)) (faults n), []) := by
    rw [State.handle_queue rfl (unlocked _ _) rfl (fun p hp => by cases hp)]
    rfl
  obtain ⟨v, hv, hd⟩ : ∃ v, handle (.queue (faultClose 1 .b))
      ((part n).view 0 0 flagged (closing (closing faulted .a) .b) (polled n [faultClose 0 .a] (List.replicate n limit)) (faults n)) =
      (v, (List.replicate n limit).map fun k => Work.outcome k .withdrawn) ∧
      ∃ d, v = (part n).view 0 0 flagged (closing (closing faulted .a) .b) d (faults n) := by
    rw [State.handle_queue rfl (unlocked _ _) rfl (fun p hp => by cases hp)]
    exact ⟨_, Prod.ext rfl (join_withdraws n _ rfl), _, rfl⟩
  obtain ⟨d, rfl⟩ := hd
  refine ⟨(State.noteReport ((part n).view 0 0 flagged (closing (closing faulted .a) .b) d (faults n)) jump).1, fun latched => ?_, fun m => ?_⟩
  · have calm : (State.noteReport ((part n).view 0 0 flagged (closing (closing faulted .a) .b) d (faults n)) jump).1.rd.latch = false :=
      congrArg Outside.latch (State.outside_noteReport ((part n).view 0 0 flagged (closing (closing faulted .a) .b) d (faults n)) jump)
    rw [calm] at latched
    cases latched
  · have pieces : m + (n + 7) = m + 1 + 1 + n + 1 + 1 + 1 + 1 + 1 := by omega
    rw [pieces, drain_step (handle_jump n)]
    simp only [List.cons_append, List.nil_append]
    rw [drain_step (handle_fault n _)]
    simp only [List.cons_append, List.nil_append]
    rw [drain_step (handle_faultCloses n _)]
    simp only [List.cons_append, List.nil_append]
    rw [drain_quiet replaces, drain_step hv, drain_withdrawn, drain_quiet (handle_act n d)]
    exact drain_quiet rfl

/-- The part as the statement has it once the CLOSE is queued: the head ONLINE already, the CLOSE in its list. -/
def after (n : Nat) : State := (part n).view 0 0 (recovering asked) (.starting .inUse)
  { link n with heads := (link n).heads.set 0 (back [owed]) } (events n)

theorem after_goodPoll (n : Nat) : (after n).goodPoll 0 false [report] = (waiting n, [.handed jump]) := by
  have sees := part_sees n (q := asked) rfl (x := .starting .inUse) rfl
  rw [State.goodPoll_online rfl, State.handedReports_single (l := 0) (ch := .a) (z := ⟨0, .one, 0, 1⟩) (r := report)
    (by rw [after, State.view_servedBy sees]; rfl) (by rw [after, State.view_setup sees]; rfl) rfl]
  rfl

theorem answers_part (n : Nat) : exec (.pollReply 0 false [report]) (part n) =
    finish [.queue owed, .handed jump, .arbitrate]
      ((part n).view 0 0 (recovering asked) (.starting .inUse) (polled n [] (List.replicate n limit)) (events n)) := by
  rw [exec_pollReply (retries := 0) ⟨rfl, rfl⟩ (State.replyComplete_single (z := ⟨0, .one, 0, 1⟩) (part_servedBy n) rfl rfl), part_polled]
  rfl

theorem answers_after (n : Nat) : exec (.pollReply 0 false [report]) (after n) = finish [.handed jump, .arbitrate] (waiting n) := by
  have sees := part_sees n (q := asked) rfl (x := .starting .inUse) rfl
  rw [exec_pollReply (retries := 0) ⟨rfl, rfl⟩
    (State.replyComplete_single (l := 0) (ch := .a) (z := ⟨0, .one, 0, 1⟩) (r := report)
      (by rw [after, State.view_servedBy sees]; rfl) (by rw [after, State.view_setup sees]; rfl) rfl), after_goodPoll]
  rfl

/-- With 65,528 LIMITs in the list the reply taken by a head ONLINE already just fits the bound; with the CLOSE still to be queued it does not. -/
theorem answers_apart : exec (.pollReply 0 false [report]) (part 65528) ≠ exec (.pollReply 0 false [report]) (after 65528) := by
  obtain ⟨u, clean, work⟩ := drain_waiting 65528
  have fits : finish [.handed jump, .arbitrate] (waiting 65528) = .next u.arbitrate.1 :=
    finish_next.mpr ((work 1).trans (drain_arbitrate clean))
  have passes : drain workBound [.queue owed, .handed jump, .arbitrate]
      ((part 65528).view 0 0 (recovering asked) (.starting .inUse) (polled 65528 [] (List.replicate 65528 limit)) (events 65528)) = none :=
    (drain_quiet (n := 0 + (65528 + 7)) (handle_owed 65528)).trans (work 0)
  rw [answers_part, answers_after, fits]
  intro same
  rw [finish_next.mp same] at passes
  cases passes

end Overrun

/-- Refutes O46: the statement that a poll reply of an OFFLINE head, whose one channel awaits recovery, is taken as that of an ONLINE head with the channel's CLOSE queued fails where the queuing is the piece of work that passes the bound of one command. Head 1 comes ONLINE with a METER JUMP, whose first fault withdraws the 65,528 LIMITs that stand in the list of head 2: a list that no run reaches, which the statement does not exclude. -/
theorem not_linkAndChannelTimersExpire : ¬ Obligations.LinkAndChannelTimersExpire := by
  intro h
  obtain ⟨-, link⟩ := h
  obtain ⟨-, -, -, -, -, replies⟩ := link (Overrun.part 65528) rfl (fun latched => by cases latched)
  have reply := replies 0 0 false [Overrun.report] rfl rfl (fun q hq z hz => by
    rw [Overrun.part_servedBy, List.mem_singleton] at hq
    rw [hq, Overrun.part_setup] at hz
    cases hz
    exact ⟨_, List.mem_singleton.mpr rfl, rfl⟩)
  obtain ⟨-, single⟩ := reply
  obtain ⟨recovers, -⟩ := single 0 .a ⟨0, .one, 0, 1⟩ (Overrun.part_servedBy _) (by rw [Overrun.part_setup]) (fun d hd => by cases hd)
  refine Overrun.answers_apart (recovers 0 ⟨Overrun.awaiting, Overrun.resting, .atBinding none⟩ .stopped (Overrun.part_bound _) rfl rfl rfl
    (by decide) (by decide))

end Sys2Proof.Machine
end

section
/-! The steps of a lane fault and of a stop on a view, and the ends of an exchange. -/

namespace Sys2Proof.Machine

open Sys2Proof

variable {s t : State} {i : ContextId} {l : LaneId} {c : Context} {x : Lane} {d : DispenserUnit} {r : EventUnit}
  {rs : Triple ChannelRecord} {ch : Channel} {z : ChannelSetup}

/-! ### The latch and the lists -/

/-- Lists in which only commands that open nothing are new. -/
theorem LatchClean.of_lists (h : s.LatchClean) (hl : t.rd.latch = s.rd.latch)
    (hd : ∀ k, ∀ e ∈ (t.head k).commands, e ∈ (s.head k).commands ∨ e.opening = false) : t.LatchClean := by
  intro latched k e he
  rcases hd k e he with he | he
  · exact h (hl ▸ latched) k e he
  · exact he

theorem Command.opening_of_close {k : Command} (h : k.payload.kind = .close) : k.opening = false := by
  unfold Command.opening
  split
  · rename_i hp
    rw [hp] at h
    cases h
  · rename_i hp
    rw [hp] at h
    cases h
  · rfl

/-- A list that a CLOSE has joined holds nothing else that is new. -/
theorem mem_closed {cs : List Command} {k e : Command} (he : e ∈ cs.filter Command.isClose ++ k :: cs.filter fun e => !e.isClose) :
    e = k ∨ e ∈ cs := by
  simp only [List.mem_append, List.mem_cons, List.mem_filter] at he
  rcases he with ⟨he, -⟩ | rfl | ⟨he, -⟩
  · exact .inr he
  · exact .inl rfl
  · exact .inr he

theorem LatchClean.captureFailure (h : s.LatchClean) (k : HeadId) (hc : Option HeadChannel) (e : ExchangeKind) (f : FailureKind) :
    (s.captureFailure k hc e f).LatchClean := by
  unfold State.captureFailure
  split
  · exact LatchClean.congr h rfl rfl
  · exact LatchClean.congr h rfl rfl

/-! ### A stop -/

/-- A context as it enters STOPPING (R21). -/
def Context.stopping (c : Context) : Context := { c with state := .stopping, deadline := none, allocation := .clear }

theorem State.Sees.stopping (h : s.Sees i l c x) (hu : c.inUse = true) (ho : c.state ≠ .offered) : s.Sees i l c.stopping x :=
  ⟨h.inUse ▸ hu.symm ▸ rfl, h.lane, h.transaction, h.setups, by rw [← h.offered, decide_eq_false ho]; rfl, h.config⟩

/-- The states of a channel on which a stop acts (R123). -/
def ChannelState.stops : ChannelState → Bool
  | .zeroing | .allocating | .opening | .flowing => true
  | _ => false

theorem State.view_records (hc : c.channels = some rs) (e : Channel) : ((s.view i l c x d r).ctx i).records.get e = rs.get e := by
  rw [State.view_ctx, Context.records, hc]
  rfl

/-- A channel that a stop leaves as it is. -/
theorem State.view_stopChannel_rests (hc : c.channels = some rs) {e : Channel} (h : (rs.get e).state.stops = false) (cause : EndCause) :
    State.stopChannel i cause (s.view i l c x d r) e = (s.view i l c x d r, []) := by
  unfold State.stopChannel
  rw [State.view_records hc]
  generalize (rs.get e).state = st at h
  cases st <;> first | rfl | cases h

/-- A FLOWING channel that a stop closes. -/
theorem State.view_stopChannel_flowing (hc : c.channels = some rs) {m : LaneId} (hl : c.lane = some m) (h : (rs.get ch).state = .flowing)
    (hz : (rs.get ch).setup = some z) (cause : EndCause) :
    State.stopChannel i cause (s.view i l c x d r) ch =
      (s.view i l (c.modChannel ch (·.beginClosing cause)) x d r,
        [.queue ⟨z.head, z.headChannel, m, ch, some (i, c.transaction), .close cause false⟩]) := by
  unfold State.stopChannel
  rw [State.view_records hc, h]
  dsimp only
  rw [State.withChannel, State.view_modChannel, State.view_queueFor hl hc hz]

/-- A context in STOPPING stands where it stood. -/
theorem State.Sees.channel (h : s.Sees i l c x) (hc : c.channels = some rs) {q : ChannelRecord} (hq : q.setup = (rs.get ch).setup) :
    s.Sees i l { c with channels := some (rs.set ch q) } x :=
  ⟨h.inUse, h.lane, h.transaction, by
    rw [← h.setups, hc]
    exact congrArg some (Triple.map_setup_set hq), h.offered, h.config⟩

theorem Context.modChannel_eq (hc : c.channels = some rs) (f : ChannelRecord → ChannelRecord) :
    c.modChannel ch f = { c with channels := some (rs.set ch (f (rs.get ch))) } := by
  unfold Context.modChannel
  rw [hc]
  rfl

theorem State.view_enterStopping (h : s.Sees i l c x) (hu : c.inUse = true) (ho : c.state ≠ .offered) (cause : EndCause) :
    handle (.stop i c.transaction cause) (s.view i l c x d r) =
      (((s.view i l c.stopping x d (s.heed r)).gather (State.stopChannel i cause) Channel.letters).1,
        ((s.view i l c.stopping x d (s.heed r)).gather (State.stopChannel i cause) Channel.letters).2 ++ [.changed i c.transaction]) := by
  show (s.view i l c x d r).enterStopping i c.transaction cause = _
  unfold State.enterStopping
  rw [if_pos (State.view_holds hu)]
  dsimp only
  rw [State.view_modCtx]
  have entered : (s.view i l ({ c.abandon with state := .stopping, deadline := none }) x d r).testAttn = s.view i l c.stopping x d (s.heed r) :=
    State.view_testAttn (h.stopping hu ho)
  rw [entered]

/-- A stop of a context none of whose channels it acts on. -/
theorem State.view_stop_rests (h : s.Sees i l c x) (hu : c.inUse = true) (ho : c.state ≠ .offered) (hc : c.channels = some rs)
    (hq : ∀ e, (rs.get e).state.stops = false) (cause : EndCause) :
    handle (.stop i c.transaction cause) (s.view i l c x d r) = (s.view i l c.stopping x d (s.heed r), [.changed i c.transaction]) := by
  have rests : (s.view i l c.stopping x d (s.heed r)).gather (State.stopChannel i cause) Channel.letters = (s.view i l c.stopping x d (s.heed r), []) :=
    State.gather_idle fun e _ => State.view_stopChannel_rests (c := c.stopping) hc (hq e) cause
  rw [State.view_enterStopping h hu ho, rests]
  rfl

/-- A stop of a context with one channel in delivery, FLOWING. -/
theorem State.view_stop_flowing (h : s.Sees i l c x) (hu : c.inUse = true) (ho : c.state ≠ .offered) (hc : c.channels = some rs)
    {m : LaneId} (hl : c.lane = some m) (hf : (rs.get ch).state = .flowing) (hz : (rs.get ch).setup = some z)
    (hq : ∀ e, e ≠ ch → (rs.get e).state.stops = false) (cause : EndCause) :
    handle (.stop i c.transaction cause) (s.view i l c x d r) =
      (s.view i l { c.stopping with channels := some (rs.set ch ((rs.get ch).beginClosing cause)) } x d (s.heed r),
        [.queue ⟨z.head, z.headChannel, m, ch, some (i, c.transaction), .close cause false⟩, .changed i c.transaction]) := by
  have closes := State.view_stopChannel_flowing (s := s) (i := i) (l := l) (x := x) (d := d) (r := s.heed r) (c := c.stopping) hc hl hf hz cause
  rw [Context.modChannel_eq (c := c.stopping) hc] at closes
  have single := State.gather_single (s := s.view i l c.stopping x d (s.heed r)) (f := State.stopChannel i cause) (ch := ch)
    (fun e he => State.view_stopChannel_rests (c := c.stopping) hc (hq e he) cause)
    (fun e he => by
      rw [closes]
      refine State.view_stopChannel_rests (rs := rs.set ch ((rs.get ch).beginClosing cause)) rfl ?_ cause
      rw [Triple.get_set_ne _ (Ne.symm he)]
      exact hq e he)
  rw [State.view_enterStopping h hu ho, single, closes]
  rfl

/-! ### A context's change, and the CLOSEs of a fault -/

theorem State.view_changed (hu : c.inUse = true) :
    handle (.changed i c.transaction) (s.view i l c x d r) = ((s.view i l c x d r).contextChanged i, []) :=
  if_pos (State.view_holds hu)

/-- In STOPPING a change does nothing while a channel is in progress. -/
theorem State.view_changed_stays (hu : c.inUse = true) (hs : c.state = .stopping) (hp : c.anyInProgress = true) :
    handle (.changed i c.transaction) (s.view i l c x d r) = (s.view i l c x d r, []) := by
  rw [State.view_changed hu, State.contextChanged_stopping (by rw [State.view_ctx]; exact hs), State.view_ctx, if_pos hp]

/-- In STOPPING the context closes once no channel is in progress. -/
theorem State.view_changed_closes (hu : c.inUse = true) (hs : c.state = .stopping) (hp : c.anyInProgress = false) :
    handle (.changed i c.transaction) (s.view i l c x d r) = ((s.view i l c x d r).closeContext i .byVolume false, []) := by
  rw [State.view_changed hu, State.contextChanged_stopping (by rw [State.view_ctx]; exact hs), State.view_ctx,
    if_neg (by rw [hp]; exact Bool.false_ne_true)]

theorem Context.anyInProgress_of (hc : c.channels = some rs) (h : (rs.get ch).state.inProgress = true) : c.anyInProgress = true := by
  unfold Context.anyInProgress Context.anyChannel
  rw [hc, Option.any_some, Triple.any_iff]
  exact ⟨ch, h⟩

theorem Context.anyInProgress_none (hc : c.channels = some rs) (h : ∀ e, (rs.get e).state.inProgress = false) : c.anyInProgress = false := by
  unfold Context.anyInProgress Context.anyChannel
  rw [hc, Option.any_some, ← Bool.not_eq_true, Triple.any_iff]
  rintro ⟨e, he⟩
  rw [h e] at he
  cases he

/-- A lane with the CLOSE of a fault queued for a channel (R127). -/
def Lane.closeQueued (x : Lane) (ch : Channel) : Lane :=
  { x with channels := x.channels.set ch { x.channels.get ch with faultClose := .queued } }

theorem State.Sees.closeQueued (h : s.Sees i l c x) (ch : Channel) : s.Sees i l c (x.closeQueued ch) :=
  ⟨h.inUse, h.lane, h.transaction, h.setups, h.offered, h.config⟩

/-- The CLOSEs of a fault on a bound lane with one present channel, which is past its opening and not DONE. -/
theorem State.view_faultCloses (h : s.Sees i l c x) (hb : s.bound l = some i) (hc : c.channels = some rs) (hx : x.state = .faultStop)
    (hz : s.setup l ch = some z) (hq : ∀ e, e ≠ ch → s.setup l e = none) (on : (d.heads.get z.head).online = true) (k : FaultKind)
    (h1 : (rs.get ch).state ≠ .done) (h2 : (rs.get ch).state ≠ .flowing) (h3 : (rs.get ch).state ≠ .opening) :
    handle (.faultCloses l k) (s.view i l c x d r) =
      (s.view i l c (x.closeQueued ch) d r, [.queue ⟨z.head, z.headChannel, l, ch, some (i, c.transaction), .close (.fault k) true⟩]) := by
  have absent : ∀ (y : Lane), s.Sees i l c y → ∀ e, e ≠ ch → (s.view i l c y d r).faultCloseOne l k e = (s.view i l c y d r, []) := fun y hy e he => by
    unfold State.faultCloseOne
    rw [State.view_setup hy, hq e he]
  have rests : c.modChannel ch (·.closedBy k) = c := by
    have same : (rs.get ch).closedBy k = rs.get ch := by rw [ChannelRecord.closedBy, if_neg h2, if_neg h3]
    have whole : rs.set ch (rs.get ch) = rs := by cases ch <;> rfl
    rw [Context.modChannel_eq hc, same, whole, ← hc]
  have one := State.view_faultCloseOne (d := d) (r := r) h hb hc hz h1 on k
  rw [rests] at one
  have single := State.gather_single (s := s.view i l c x d r) (f := fun s ch => s.faultCloseOne l k ch) (ch := ch)
    (fun e he => absent x h e he) (fun e he => by
      show (((s.view i l c x d r).faultCloseOne l k ch).1).faultCloseOne l k e = (((s.view i l c x d r).faultCloseOne l k ch).1, [])
      rw [one]
      exact absent _ (h.closeQueued ch) e he)
  show (s.view i l c x d r).queueFaultCloses l k = _
  unfold State.queueFaultCloses
  rw [if_pos (by rw [State.view_lane]; exact hx), single]
  exact one

/-! ### A CLOSE joining its head's list -/

/-- The link with a list set. -/
def DispenserUnit.withList (d : DispenserUnit) (h : HeadId) (cs : List Command) : DispenserUnit :=
  { d with heads := d.heads.set h { d.heads.get h with commands := cs } }

/-- A list that a CLOSE has joined (R93). -/
def closedList (cs : List Command) (k : Command) : List Command := cs.filter Command.isClose ++ k :: cs.filter fun e => !e.isClose

theorem State.view_queue_close (h : s.Sees i l c x) (hx : x.state ≠ .locked) {k : Command} (hk : k.payload.kind = .close)
    (on : (d.heads.get k.head).online = true) (free : ∀ q ∈ s.servedBy k.head, (s.lane q.1).state ≠ .locked)
    (fresh : ∀ e ∈ (d.heads.get k.head).commands, ¬(e.lane = k.lane ∧ e.channel = k.channel)) :
    handle (.queue k) (s.view i l c x d r) = (s.view i l c x (d.withList k.head (closedList (d.heads.get k.head).commands k)) r, []) := by
  rw [State.handle_queue (s := s.view i l c x d r) (k := k) on (State.view_headLocked h hx free) (by rw [Command.opening_of_close hk, Bool.and_false])
    (fun p hp => by rw [hp] at hk; cases hk), State.join_close (s := s.view i l c x d r) hk fresh]
  rfl

/-! ### The ends of an exchange -/

/-- What an event of the link does in its reply window. -/
theorem State.inWindow_runs {e : Exchange} (ha : s.awaitsHead e) (act : Exchange → State → State × List Work) :
    s.inWindow act = finish ((act e s).2 ++ [.arbitrate]) (act e s).1 := by
  obtain ⟨hp, hline⟩ := ha
  have awaits : s.dlu.line.awaits = some e := by rw [hline]; rfl
  unfold State.inWindow
  rw [State.working_of_running hp, awaits]

/-- The link after the last attempt of an exchange failed: the head's failed total raised. -/
def DispenserUnit.lost (d : DispenserUnit) (h : HeadId) (y : Head) : DispenserUnit :=
  { d with line := .quiet, heads := d.heads.set h { y with failedTotal := min 65535 ((d.heads.get h).failedTotal + 1) } }

theorem State.exchangeFails_offline {e : Exchange} (off : (s.head e.head).online = false) (f : FailureKind) :
    s.exchangeFails e f = ({ s with dlu := s.dlu.lost e.head (s.head e.head) }, (e.command.map fun c => Work.outcome c (.failed f none)).toList) := by
  have offline : ¬ ((s.setLine .quiet).head e.head).online = true := by
    show ¬ (s.head e.head).online = true
    rw [off]
    exact Bool.false_ne_true
  unfold State.exchangeFails
  dsimp only
  rw [if_neg offline]
  refine Prod.ext ?_ rfl
  simp only [countUp_eq]
  rfl

theorem State.exchangeFails_below {e : Exchange} (on : (s.head e.head).online = true) (below : (s.head e.head).failures + 1 < s.til.params.get 9)
    (f : FailureKind) :
    s.exchangeFails e f = ({ s with dlu := s.dlu.lost e.head { s.head e.head with failures := (s.head e.head).failures + 1 } },
      (e.command.map fun c => Work.outcome c (.failed f none)).toList ++ [.capture e.head e.headChannel e.kind f]) := by
  have online : ((s.setLine .quiet).head e.head).online = true := on
  have failed : (s.setLine .quiet).modHead e.head Head.failOnce =
      { s with dlu := s.dlu.lost e.head { s.head e.head with failures := (s.head e.head).failures + 1 } } := by
    unfold State.modHead Head.failOnce
    simp only [countUp_eq]
    rfl
  have few : ¬ ((s.setLine .quiet).modHead e.head Head.failOnce).headFailureLimit ≤
      (((s.setLine .quiet).modHead e.head Head.failOnce).head e.head).failures := by
    have read : ((s.setLine .quiet).modHead e.head Head.failOnce).head e.head = ((s.setLine .quiet).head e.head).failOnce := Tab.get_set_self _ _ _
    rw [read]
    exact Nat.not_le.mpr below
  unfold State.exchangeFails
  dsimp only
  rw [if_pos online, if_neg few, failed]

theorem State.exchangeFails_limit {e : Exchange} (on : (s.head e.head).online = true) (above : s.til.params.get 9 ≤ (s.head e.head).failures + 1)
    (f : FailureKind) :
    s.exchangeFails e f = ({ s with dlu := s.dlu.lost e.head (s.head e.head).goOffline },
      (e.command.map fun c => Work.outcome c (.failed f none)).toList ++ [.capture e.head e.headChannel e.kind f] ++
        [.discardList e.head, .headGone e.head f]) := by
  have online : ((s.setLine .quiet).head e.head).online = true := on
  have read : ((s.setLine .quiet).modHead e.head Head.failOnce).head e.head = ((s.setLine .quiet).head e.head).failOnce := Tab.get_set_self _ _ _
  have many : ((s.setLine .quiet).modHead e.head Head.failOnce).headFailureLimit ≤
      (((s.setLine .quiet).modHead e.head Head.failOnce).head e.head).failures := by
    rw [read]
    exact above
  have gone : ((s.setLine .quiet).modHead e.head Head.failOnce).modHead e.head Head.goOffline =
      { s with dlu := s.dlu.lost e.head (s.head e.head).goOffline } := by
    rw [State.modHead, read]
    simp only [State.modHead, State.setHead, Tab.set_set, Head.failOnce, countUp_eq]
    rfl
  unfold State.exchangeFails
  dsimp only
  rw [if_pos online, if_pos many, gone]

end Sys2Proof.Machine
end

section
/-! Dispenser attempts (O42): what is repeated, what the last failed attempt counts, the loss of a head, and a failed OPEN or RELEASE. -/

namespace Sys2Proof.Machine

open Sys2Proof

variable {s t : State} {x : Exchange}

/-! ### Attempts made again -/

/-- The exchange on the line is not cut short. -/
theorem State.cutShort_false (h1 : s.dlu.cutByStop = false) (h2 : s.dlu.cutByLock = false)
    (h3 : s.rd.latch = false ∨ x.command.any Command.opening = false)
    (h4 : x.command = none ∨ (∀ q ∈ s.servedBy x.head, (s.lane q.1).state ≠ .locked)) : s.cutShort x = false := by
  have released : (s.rd.latch && x.command.any Command.opening) = false := by
    rcases h3 with h3 | h3
    · rw [h3, Bool.false_and]
    · rw [h3, Bool.and_false]
  have unlocked : (x.command.isSome && s.headLocked x.head) = false := by
    rcases h4 with h4 | h4
    · rw [h4]
      rfl
    · have : s.headLocked x.head = false := Bool.eq_false_iff.mpr fun h => by
        obtain ⟨q, hq, hl⟩ := (s.headLocked_iff _).mp h
        exact h4 q hq hl
      rw [this, Bool.and_false]
  unfold State.cutShort
  rw [h1, h2, released, unlocked]
  rfl

/-- The state as an attempt is made again, after the HALT ALL that is pending. -/
def State.attemptAgain (s : State) (x : Exchange) (f : FailureKind) : State :=
  { s with dlu := { s.dlu with
    line := if s.dlu.haltPending = true then .haltAll (some ({ x with retries := x.retries - 1 }, f)) else .sending { x with retries := x.retries - 1 } } }

theorem State.attemptFails_again (hr : 0 < x.retries) (hc : s.cutShort x = false) (f : FailureKind) :
    s.attemptFails x f = (s.attemptAgain x f,
      if f = .unexpected ∧ (s.head x.head).online then [Work.capture x.head x.headChannel x.kind f] else []) := by
  have more : s.lastAttempt x = false := by
    unfold State.lastAttempt
    rw [hc, Bool.or_false]
    exact decide_eq_false (by omega)
  unfold State.attemptFails
  dsimp only
  rw [if_neg (by rw [more]; exact Bool.false_ne_true)]
  rfl

/-- With the link busy the arbiter leaves the state as it is. -/
theorem finish_busy (h : s.dlu.line ≠ .quiet) : finish [.arbitrate] s = .next s := by
  refine finish_of_drain (n := 1) (by decide) (drain_quiet ?_)
  exact State.arbitrate_idle (.inl h)

theorem State.attemptAgain_busy (s : State) (x : Exchange) (f : FailureKind) : (s.attemptAgain x f).dlu.line ≠ .quiet := by
  show ite _ _ _ ≠ _
  split <;> exact nofun

theorem State.captureFailure_line (s : State) (h : HeadId) (ch : Option HeadChannel) (k : ExchangeKind) (f : FailureKind) :
    (s.captureFailure h ch k f).dlu.line = s.dlu.line := by
  unfold State.captureFailure
  split <;> rfl

/-! ### The last attempt -/

theorem State.attemptFails_last (hr : x.retries = 0) {f : FailureKind} (hf : f ≠ .unexpected) : s.attemptFails x f = s.exchangeFails x f := by
  have last : s.lastAttempt x = true := by
    unfold State.lastAttempt
    rw [decide_eq_true hr]
    rfl
  unfold State.attemptFails
  dsimp only
  rw [if_pos last, if_neg (fun h => hf h.1)]
  rfl

/-- A reply window that closes on the last attempt of an exchange. -/
theorem exec_windowExpiry (ha : s.awaitsHead x) (hr : x.retries = 0) :
    exec .dispenserReplyWindowExpiry s = finish ((s.exchangeFails x .noAnswer).2 ++ [.arbitrate]) (s.exchangeFails x .noAnswer).1 := by
  refine (State.inWindow_runs ha (fun x s => s.attemptFails x .noAnswer)).trans ?_
  rw [State.attemptFails_last hr (by decide)]

/-! ### The list of a lost head -/

/-- A command of a lost head other than a ZERO is discarded without effect (R89). -/
theorem handle_discarded {k : Command} (h : k.payload.kind ≠ .zero) (s : State) : handle (.outcome k (.discarded true)) s = (s, []) := by
  show s.takeOutcome k (.discarded true) = _
  unfold State.takeOutcome
  rw [if_neg (by unfold State.ownLockout; exact Bool.false_ne_true)]
  split
  · rename_i hp
    rw [hp] at h
    exact absurd rfl h
  · rfl
  · unfold State.openOutcome
    split <;> rfl
  · unfold State.openOutcome
    split <;> rfl
  · rfl
  · unfold State.finalOutcome
    split <;> rfl

theorem drain_discarded (n : Nat) {cs : List Command} (h : ∀ k ∈ cs, k.payload.kind ≠ .zero) (ws : List Work) (s : State) :
    drain (n + cs.length) (cs.map (fun k => Work.outcome k (.discarded true)) ++ ws) s = drain n ws s := by
  induction cs with
  | nil => rfl
  | cons k ks ih =>
    rw [List.length_cons, List.map_cons, List.cons_append, ← Nat.add_assoc, drain_quiet (handle_discarded (h k (List.mem_cons_self ..)) s),
      ih fun j hj => h j (List.mem_cons_of_mem _ hj)]

/-- The place of a channel in its lane. -/
def letterPlace : Channel → Nat
  | .a => 0
  | .b => 1
  | .c => 2

theorem letterPlace_lt (ch : Channel) : letterPlace ch < 3 := by cases ch <;> decide

theorem letterPlace_inj {ch e : Channel} (h : letterPlace ch = letterPlace e) : ch = e := by
  revert h
  cases ch <;> cases e <;> decide

theorem ExchangeKind.code_lt (a : ExchangeKind) : a.code < 8 := by cases a <;> decide

theorem ExchangeKind.code_inj {a b : ExchangeKind} (h : a.code = b.code) : a = b := by
  revert h
  cases a <;> cases b <;> decide

/-- The place of a command among the kinds of command of every channel. -/
def Command.place (k : Command) : Nat := (k.lane.val * 3 + letterPlace k.channel) * 8 + k.payload.kind.code

theorem Command.place_lt (k : Command) : k.place < 288 := by
  have code := k.payload.kind.code_lt
  have letter := letterPlace_lt k.channel
  have lane := k.lane.isLt
  unfold Command.place
  omega

theorem Command.sameKind_of_place {k e : Command} (h : k.place = e.place) : k.sameKind e = true := by
  have code := k.payload.kind.code_lt
  have code' := e.payload.kind.code_lt
  have letter := letterPlace_lt k.channel
  have letter' := letterPlace_lt e.channel
  unfold Command.place at h
  have lane : k.lane = e.lane := Fin.ext (by omega)
  have channel : k.channel = e.channel := letterPlace_inj (by omega)
  have kind : k.payload.kind = e.payload.kind := ExchangeKind.code_inj (by omega)
  rw [Command.sameKind, Command.sameChannel, decide_eq_true lane, decide_eq_true channel, decide_eq_true kind]
  rfl

/-- A sound list holds at most one command of each kind for each channel: far fewer than the bound of a command's work. -/
theorem ListSound.length_le {cs : List Command} (h : ListSound cs) : cs.length ≤ 288 := by
  obtain ⟨kinds, -⟩ := h
  have distinct : (cs.map Command.place).Nodup := by
    rw [List.nodup_iff_pairwise_ne, List.pairwise_map]
    exact kinds.imp fun hn hp => by
      rw [Command.sameKind_of_place hp] at hn
      cases hn
  have within : cs.map Command.place ⊆ List.range 288 := fun n hn => by
    obtain ⟨k, -, rfl⟩ := List.mem_map.mp hn
    exact List.mem_range.mpr k.place_lt
  have := (distinct.subperm within).length_le
  simpa using this

/-! ### The capture on a view -/

/-- The fault capture of a link (R101). -/
def DispenserUnit.captured (d : DispenserUnit) (h : HeadId) (ch : Option HeadChannel) (k : ExchangeKind) (f : FailureKind) (now : Stamp) :
    DispenserUnit :=
  if d.capture.isSome then { d with further := countUp d.further } else { d with capture := some ⟨h, ch, k, f, now⟩ }

/-- The events of a capture. -/
def State.captures (s : State) (d : DispenserUnit) (r : EventUnit) (h : HeadId) (f : FailureKind) : EventUnit :=
  if d.capture.isSome then r else s.heed (r.occur .linkCapture (.head h) f.code s.stamp)

theorem State.view_captureFailure {i : ContextId} {l : LaneId} {c : Context} {y : Lane} {d : DispenserUnit} {r : EventUnit}
    (sees : s.Sees i l c y) (h : HeadId) (ch : Option HeadChannel) (k : ExchangeKind) (f : FailureKind) :
    (s.view i l c y d r).captureFailure h ch k f = s.view i l c y (d.captured h ch k f s.stamp) (s.captures d r h f) := by
  unfold State.captureFailure DispenserUnit.captured State.captures
  by_cases taken : d.capture.isSome = true
  · rw [if_pos taken, if_pos taken]
    exact if_pos taken
  · rw [if_neg taken, if_neg taken]
    exact (if_neg taken).trans (State.view_queueEvent (d := { d with capture := some ⟨h, ch, k, f, s.stamp⟩ }) sees _ _ _)

theorem DispenserUnit.captured_heads (d : DispenserUnit) (h : HeadId) (ch : Option HeadChannel) (k : ExchangeKind) (f : FailureKind) (now : Stamp) :
    (d.captured h ch k f now).heads = d.heads ∧ (d.captured h ch k f now).line = d.line := by
  unfold DispenserUnit.captured
  split <;> exact ⟨rfl, rfl⟩

/-! ### The loss of a head -/

/-- The head as its loss leaves it, its list discarded (R85). -/
def Head.gone (y : Head) : Head := { y.goOffline with commands := [] }

/-- The state as a lost head's list is discarded and HEAD OFFLINE queued. -/
def State.headLost (s : State) (h : HeadId) : State :=
  (({ s with dlu := s.dlu.lost h (s.head h).gone } : State).captureFailure h none .poll .noAnswer).queueEvent .headOffline (.head h)
    FailureKind.noAnswer.code

/-- The work of a POLL's last failed attempt at the head failure limit, down to what each channel of the head finds. -/
theorem drain_headLost {n : Nat} {h : HeadId} {ws : List Work} (hz : ∀ k ∈ (s.head h).commands, k.payload.kind ≠ .zero) :
    drain (n + ((s.head h).commands.length + 3)) (.capture h none .poll .noAnswer :: .discardList h :: .headGone h .noAnswer :: ws)
        { s with dlu := s.dlu.lost h (s.head h).goOffline } =
      drain n (((s.headLost h).servedBy h).map (fun p => Work.channelLost p.1 p.2) ++ ws) (s.headLost h) := by
  have self : ∀ d : DispenserUnit, { s with dlu := d } = s.view 0 0 (s.ctx 0) (s.lane 0) d s.reu := fun d =>
    congrArg (fun u : State => { u with dlu := d }) (s.view_self 0 0).symm
  have sees := State.Sees.refl s 0 0
  obtain ⟨heads, -⟩ := (s.dlu.lost h (s.head h).goOffline).captured_heads h none .poll .noAnswer s.stamp
  have read : ((s.dlu.lost h (s.head h).goOffline).captured h none .poll .noAnswer s.stamp).heads.get h =
      { (s.head h).goOffline with failedTotal := min 65535 ((s.head h).failedTotal + 1) } := by
    rw [heads]
    exact Tab.get_set_self _ _ _
  have listed : ((s.dlu.lost h (s.head h).goOffline).captured h none .poll .noAnswer s.stamp).withList h [] =
      (s.dlu.lost h (s.head h).gone).captured h none .poll .noAnswer s.stamp := by
    unfold DispenserUnit.withList
    rw [read]
    unfold DispenserUnit.captured DispenserUnit.lost
    by_cases taken : s.dlu.capture.isSome = true
    · simp only [taken, if_true, Tab.set_set]
      rfl
    · simp only [taken, Bool.false_eq_true, if_false, Tab.set_set]
      rfl
  have events : s.captures (s.dlu.lost h (s.head h).goOffline) s.reu h .noAnswer = s.captures (s.dlu.lost h (s.head h).gone) s.reu h .noAnswer := rfl
  have discards : handle (.discardList h) (s.view 0 0 (s.ctx 0) (s.lane 0)
      ((s.dlu.lost h (s.head h).goOffline).captured h none .poll .noAnswer s.stamp)
      (s.captures (s.dlu.lost h (s.head h).goOffline) s.reu h .noAnswer)) =
      (({ s with dlu := s.dlu.lost h (s.head h).gone } : State).captureFailure h none .poll .noAnswer,
        (s.head h).commands.map fun k => Work.outcome k (.discarded true)) := by
    have captured : ({ s with dlu := s.dlu.lost h (s.head h).gone } : State).captureFailure h none .poll .noAnswer =
        s.view 0 0 (s.ctx 0) (s.lane 0) ((s.dlu.lost h (s.head h).gone).captured h none .poll .noAnswer s.stamp)
          (s.captures (s.dlu.lost h (s.head h).gone) s.reu h .noAnswer) := by
      rw [self, State.view_captureFailure sees]
    have outcomes := congrArg (fun y : Head => y.commands.map fun k => Work.outcome k (.discarded true)) read
    refine Prod.ext ?_ outcomes
    rw [captured, ← listed]
    rfl
  have pieces : n + ((s.head h).commands.length + 3) = n + 1 + (s.head h).commands.length + 1 + 1 := by omega
  rw [pieces, drain_quiet (t := s.view 0 0 (s.ctx 0) (s.lane 0) ((s.dlu.lost h (s.head h).goOffline).captured h none .poll .noAnswer s.stamp)
      (s.captures (s.dlu.lost h (s.head h).goOffline) s.reu h .noAnswer)), drain_step discards, drain_discarded _ hz]
  · exact drain_step rfl
  · rw [self]
    exact Prod.ext (State.view_captureFailure sees _ _ _ _) rfl

end Sys2Proof.Machine
end

section
/-! The attempts of the dispenser link (O42): the loss of a head of a lane in FAULT STOP, and an OPEN or RELEASE that fails for good. -/

namespace Sys2Proof.Machine

open Sys2Proof

variable {s t : State} {x : Exchange} {i : ContextId} {l : LaneId} {ch : Channel} {z : ChannelSetup} {rs : Triple ChannelRecord}

/-! ### Which channel a head serves -/

theorem State.mem_servedBy (h : s.setup l ch = some z) : (l, ch) ∈ s.servedBy z.head := by
  refine List.mem_filter.mpr ⟨List.mem_flatMap.mpr ⟨l, List.mem_finRange l, List.mem_map.mpr ⟨ch, ?_, rfl⟩⟩, ?_⟩
  · cases ch <;> decide
  · dsimp only
    rw [h]
    exact decide_eq_true rfl

/-- The channels of a bound lane are those of its context. -/
theorem State.setup_bound (hb : s.bound l = some i) (hc : (s.ctx i).channels = some rs) (e : Channel) : s.setup l e = (rs.get e).setup := by
  unfold State.setup
  rw [hb, Option.bind_some, hc]

/-! ### A lost head -/

/-- What the loss of a head leaves alone. -/
theorem State.headLost_eq (s : State) (h : HeadId) :
    s.headLost h = { s with
      dlu := (s.dlu.lost h (s.head h).gone).captured h none .poll .noAnswer s.stamp
      reu := s.heed ((s.captures (s.dlu.lost h (s.head h).gone) s.reu h .noAnswer).occur .headOffline (.head h) FailureKind.noAnswer.code s.stamp) } := by
  have self : ∀ d r, { s with dlu := d, reu := r } = s.view 0 0 (s.ctx 0) (s.lane 0) d r := fun d r =>
    congrArg (fun u : State => { u with dlu := d, reu := r }) (s.view_self 0 0).symm
  have sees := State.Sees.refl s 0 0
  have lost : ({ s with dlu := s.dlu.lost h (s.head h).gone } : State) = { s with dlu := s.dlu.lost h (s.head h).gone, reu := s.reu } := rfl
  rw [State.headLost, lost, self, State.view_captureFailure sees, State.view_queueEvent sees, self]

theorem State.headLost_servedBy (s : State) (h : HeadId) : (s.headLost h).servedBy = s.servedBy := by
  rw [State.headLost_eq]
  rfl

theorem State.headLost_head (s : State) (h k : HeadId) :
    (s.headLost h).head k = if k = h then { (s.head h).gone with failedTotal := min 65535 ((s.head h).failedTotal + 1) } else s.head k := by
  obtain ⟨heads, -⟩ := (s.dlu.lost h (s.head h).gone).captured_heads h none .poll .noAnswer s.stamp
  have read : (s.headLost h).head k = Tab.get (s.dlu.lost h (s.head h).gone).heads k := by
    rw [State.headLost_eq, ← heads]
    rfl
  rw [read]
  split
  · rename_i same
    rw [same]
    exact Tab.get_set_self _ _ _
  · rename_i other
    exact Tab.get_set_ne _ (Ne.symm other) _

theorem State.headLost_line (s : State) (h : HeadId) : (s.headLost h).dlu.line = .quiet := by
  obtain ⟨-, line⟩ := (s.dlu.lost h (s.head h).gone).captured_heads h none .poll .noAnswer s.stamp
  rw [State.headLost_eq]
  exact line

theorem LatchClean.headLost (h : s.LatchClean) (k : HeadId) : (s.headLost k).LatchClean := by
  refine LatchClean.of_lists h (by rw [State.headLost_eq]) fun j e he => ?_
  rw [State.headLost_head] at he
  split at he
  · cases he
  · exact .inl he

/-! ### The lock of a lane whose head is lost -/

/-- A lane with the quiet count of a channel set back (R126). -/
def Lane.unquiet (x : Lane) (ch : Channel) : Lane :=
  { x with channels := x.channels.set ch { x.channels.get ch with quiet := 0 } }

/-- The lane LOCKED by a second fault, its heads' lists empty already (R129). -/
def State.lockedBy (s : State) (l : LaneId) (x : Lane) (k : FaultKind) : State :=
  { s.setLane l { x with
      state := .locked
      fault := some k
      channels := x.channels.map fun w => { w with faultClose := .none, faultSettle := none } } with
    rd := { s.rd with locks := s.rd.locks.set l true }
    scc := { s.scc with cut := s.scc.cut.set l true } }

/-- A second fault of a lane with no context whose heads' lists are empty, on a quiet line (R129). -/
theorem handle_secondFault {y : Lane} (hs : y.state = .faultStop) (hb : s.bound l = none)
    (hl : ∀ h, (∃ q ∈ s.servedBy h, q.1 = l) → (s.head h).commands = []) (quiet : s.dlu.line = .quiet) (hy : y.config = (s.lane l).config)
    (k : FaultKind) :
    handle (.fault l k) (s.setLane l y) =
      (s.lockedBy l y k, [.event .laneFault (.lane l) k.code, .event .laneLockout (.lane l) k.code]) := by
  have lane : (s.setLane l y).lane l = y := Tab.get_set_self _ _ _
  have locked : ((s.setLane l y).lockLane l).modLane l (fun x => { x with fault := some k }) = s.lockedBy l y k := by
    unfold State.lockLane State.modLane
    rw [lane]
    dsimp only
    rw [State.setLane_setLane]
    simp only [State.setLane, State.lane, Tab.get_set_self, Tab.set_set]
    rfl
  have config : ∀ m, ((s.lockedBy l y k).lane m).config = (s.lane m).config := fun m => by
    by_cases hm : m = l
    · rw [hm]
      exact (congrArg Lane.config (Tab.get_set_self _ _ _)).trans hy
    · exact congrArg Lane.config (Tab.get_set_ne _ (Ne.symm hm) _)
  have setup : (s.lockedBy l y k).setup = s.setup := by
    funext m e
    unfold State.setup
    rw [config]
    rfl
  have served : (s.lockedBy l y k).servedBy = s.servedBy := by
    funext h
    unfold State.servedBy
    rw [setup]
  have emptied : (s.lockedBy l y k).lockout ((s.lockedBy l y k).laneHeads l) = (s.lockedBy l y k, []) := by
    refine State.lockout_empty (fun h hh => ?_) (fun x hx => ?_)
    · have serves := (List.mem_filter.mp hh).2
      rw [served, List.any_eq_true] at serves
      obtain ⟨q, hq, hl'⟩ := serves
      exact hl h ⟨q, hq, of_decide_eq_true hl'⟩
    · have line : (s.lockedBy l y k).dlu.line = .quiet := quiet
      rw [line] at hx
      cases hx
  show (s.setLane l y).takeFault l k = _
  unfold State.takeFault
  rw [lane, hs]
  dsimp only
  unfold State.secondFault
  dsimp only
  rw [locked, emptied]
  have free : (s.lockedBy l y k).bound l = none := hb
  rw [free]
  rfl

/-- What the loss of its head does to the one channel of a lane in FAULT STOP with no context (R126, R129). -/
theorem drain_channelLost {n : Nat} {ws : List Work} (hs : (s.lane l).state = .faultStop) (hb : s.bound l = none)
    (hl : ∀ h, (∃ q ∈ s.servedBy h, q.1 = l) → (s.head h).commands = []) (quiet : s.dlu.line = .quiet) :
    drain (n + 4) (.channelLost l ch :: ws) s =
      drain n ws (((s.lockedBy l ((s.lane l).unquiet ch) .headLost).queueEvent .laneFault (.lane l) FaultKind.headLost.code).queueEvent .laneLockout (.lane l) FaultKind.headLost.code) := by
  have loss : handle (.channelLost l ch) s =
      (s.setLane l ((s.lane l).unquiet ch), [.fault l .headLost]) := by
    have unquiet : s.unquiet l ch =
        s.setLane l ((s.lane l).unquiet ch) := if_pos (.inl hs)
    have still : ((s.unquiet l ch).lane l).state = .faultStop := by
      rw [unquiet]
      exact (congrArg Lane.state (Tab.get_set_self _ _ _)).trans hs
    have none : (s.unquiet l ch).laneRecord l ch = none := by
      have free : (s.unquiet l ch).bound l = none := by rw [unquiet]; exact hb
      unfold State.laneRecord
      rw [free]
    have found : (s.unquiet l ch).lostInFaultStop l = [.fault l .headLost] := if_pos still
    show s.loseChannel l ch = _
    unfold State.loseChannel
    dsimp only
    rw [none, found, unquiet]
  rw [show n + 4 = n + 1 + 1 + 1 + 1 from rfl, drain_step loss, List.singleton_append,
    drain_step (handle_secondFault (s := s) (l := l) hs hb hl quiet (y := (s.lane l).unquiet ch) rfl .headLost)]
  rfl

/-- The last failed attempt of a POLL at the head failure limit, down to the channels of the lost head. -/
theorem finish_headLost {n : Nat} (hs : s.ListsSound) (h : HeadId) (hz : ∀ k ∈ (s.head h).commands, k.payload.kind ≠ .zero) (hn : n < 65000)
    (clean : t.LatchClean)
    (rest : drain (n + 1) ((s.servedBy h).map (fun p => Work.channelLost p.1 p.2) ++ [.arbitrate]) (s.headLost h) = drain 1 [.arbitrate] t) :
    finish [.capture h none .poll .noAnswer, .discardList h, .headGone h .noAnswer, .arbitrate] { s with dlu := s.dlu.lost h (s.head h).goOffline } =
      .next t.arbitrate.1 := by
  have few : (s.head h).commands.length ≤ 288 := ListSound.length_le (hs h)
  refine finish_then_arbitrate (n := n + ((s.head h).commands.length + 3)) ?_ clean ?_
  · rw [show n + ((s.head h).commands.length + 3) + 1 = n + 1 + ((s.head h).commands.length + 3) by omega]
    refine (drain_headLost hz).trans ?_
    rw [State.headLost_servedBy]
    exact rest
  · show n + ((s.head h).commands.length + 3) < 65536
    omega

end Sys2Proof.Machine
end

section
/-! The attempts of the dispenser link (O42), settled. -/

namespace Sys2Proof.Machine

open Sys2Proof

variable {s t : State} {x : Exchange} {i : ContextId} {l : LaneId} {ch : Channel} {z : ChannelSetup} {rs : Triple ChannelRecord}

/-! ### A failed OPEN or RELEASE -/

/-- The outcome of a failed OPEN or RELEASE (R117). -/
theorem handle_failedOpen {s : State} {i : ContextId} {l : LaneId} {c : Context} {y : Lane} {d : DispenserUnit} {r : EventUnit} {k : Command}
    {rs : Triple ChannelRecord} (hu : c.inUse = true) (hc : c.channels = some rs) (ho : k.owner = some (i, c.transaction)) (hk : k.opening = true)
    (hs : (rs.get k.channel).state = .opening) (f : FailureKind) :
    handle (.outcome k (.failed f none)) (s.view i l c y d r) =
      (s.view i l { c with channels := some (rs.set k.channel ((rs.get k.channel).beginClosing (.fault .commandFailed))) } y d r,
        [.fault k.lane .commandFailed, .changed i c.transaction]) := by
  have opened : (s.view i l c y d r).openOutcome k (.failed f none) =
      (s.view i l { c with channels := some (rs.set k.channel ((rs.get k.channel).beginClosing (.fault .commandFailed))) } y d r,
        [.fault k.lane .commandFailed, .changed i c.transaction]) := by
    unfold State.openOutcome
    rw [State.view_activeRecord hu hc ho]
    dsimp only
    rw [State.withChannel, State.view_modChannel, Context.modChannel_eq hc, if_pos hs]
  show (s.view i l c y d r).takeOutcome k (.failed f none) = _
  unfold State.takeOutcome
  rw [if_neg (by unfold State.ownLockout; exact Bool.false_ne_true)]
  unfold Command.opening at hk
  split at hk
  · rename_i hp
    rw [hp]
    exact opened
  · rename_i hp
    rw [hp]
    exact opened
  · cases hk

/-- The CLOSE that COMMAND FAILED queues for a channel. -/
def commandFailedClose (z : ChannelSetup) (l : LaneId) (ch : Channel) (i : ContextId) (n : Nat) : Command :=
  ⟨z.head, z.headChannel, l, ch, some (i, n), .close (.fault .commandFailed) true⟩

/-- A channel in OPENING, its channel CLOSING and its context STOPPING after the failure of its OPEN (R117, R127). -/
def Context.openFailed (c : Context) (rs : Triple ChannelRecord) (ch : Channel) : Context :=
  ((({ c with channels := some (rs.set ch ((rs.get ch).beginClosing (.fault .commandFailed))) } : Context).flagFault).withReason .laneFault).stopping

/-- COMMAND FAILED as the first fault of a lane whose OPEN failed, with one present channel (R117, R127). -/
theorem drain_failedOpen {n : Nat} {ws : List Work} {c : Context} {y : Lane} {d : DispenserUnit} {k : Command} (sees : s.Sees i k.lane c y)
    (hu : c.inUse = true) (hb : s.bound k.lane = some i) (hc : c.channels = some rs) (ho : k.owner = some (i, c.transaction))
    (hk : k.opening = true) (hs : (rs.get k.channel).state = .opening) (state : c.state = .armed ∨ c.state = .delivering)
    (hq : ∀ e, e ≠ k.channel → (rs.get e).state = .idle) (hz : s.setup k.lane k.channel = some z) (hn : ∀ e, e ≠ k.channel → s.setup k.lane e = none)
    (h1 : y.state ≠ .faultStop) (h2 : y.state ≠ .locked) (on : (d.heads.get z.head).online = true)
    (free : ∀ q ∈ s.servedBy z.head, (s.lane q.1).state ≠ .locked)
    (fresh : ∀ e ∈ (d.heads.get z.head).commands, ¬(e.lane = k.lane ∧ e.channel = k.channel)) (f : FailureKind) (r : EventUnit) :
    drain (n + 7) (.outcome k (.failed f none) :: ws) (s.view i k.lane c y d r) =
      drain n ws (s.view i k.lane (c.openFailed rs k.channel) ((y.enterFaultStop .commandFailed).closeQueued k.channel)
        (d.withList z.head (closedList (d.heads.get z.head).commands (commandFailedClose z k.lane k.channel i c.transaction)))
        (s.heed (r.occur .laneFault (.lane k.lane) FaultKind.commandFailed.code s.stamp))) := by
  let qs := rs.set k.channel ((rs.get k.channel).beginClosing (.fault .commandFailed))
  let failed : Context := { c with channels := some qs }
  have closing : (qs.get k.channel).state = .closing := congrArg ChannelRecord.state (Triple.get_set_self _ _ _)
  have others : ∀ e, e ≠ k.channel → (qs.get e).state = .idle := fun e he => by
    rw [Triple.get_set_ne _ (Ne.symm he)]
    exact hq e he
  have sees1 : s.Sees i k.lane failed y := sees.channel hc rfl
  have past : failed.flagFault.anyPastIdle = true := by
    unfold Context.anyPastIdle Context.anyChannel
    rw [show failed.flagFault.channels = some qs from rfl, Option.any_some, Triple.any_iff]
    refine ⟨k.channel, ?_⟩
    rw [closing]
    rfl
  have kept : failed.flagFault.cancellable = false := by
    have : failed.state = .armed ∨ failed.state = .delivering := state
    unfold Context.cancellable
    rw [past]
    rcases state with h | h <;> simp [failed, Context.flagFault, h]
  have stopped : failed.flagFault.stoppable = true := by
    unfold Context.stoppable
    rw [past]
    rcases state with h | h <;> simp [failed, Context.flagFault, h]
  have notOffered : (failed.flagFault.withReason .laneFault).state ≠ .offered := by
    show c.state ≠ .offered
    rcases state with h | h <;> rw [h] <;> decide
  have sees2 : s.Sees i k.lane (failed.flagFault.withReason .laneFault) (y.enterFaultStop .commandFailed) :=
    ⟨sees1.inUse, sees1.lane, sees1.transaction, sees1.setups, sees1.offered, sees1.config⟩
  have sees3 : s.Sees i k.lane (c.openFailed rs k.channel) (y.enterFaultStop .commandFailed) := sees2.stopping hu notOffered
  have rests : ∀ e, (qs.get e).state.stops = false := fun e => by
    by_cases he : e = k.channel
    · rw [he, closing]
      rfl
    · rw [others e he]
      rfl
  have going : (c.openFailed rs k.channel).anyInProgress = true := Context.anyInProgress_of (rs := qs) (ch := k.channel) rfl (by rw [closing]; rfl)
  have fault := State.view_firstFault (d := d) (r := r) sees1 hb .commandFailed h1 h2 kept
  rw [if_pos stopped, if_pos stopped] at fault
  have stop := State.view_stop_rests (d := d) (r := s.heed (r.occur .laneFault (.lane k.lane) FaultKind.commandFailed.code s.stamp)) sees2 hu notOffered
    (rs := qs) rfl rests (.fault .commandFailed)
  rw [State.heed_heed] at stop
  have closes := State.view_faultCloses (d := d) (r := s.heed (r.occur .laneFault (.lane k.lane) FaultKind.commandFailed.code s.stamp)) sees3 hb
    (rs := qs) (ch := k.channel) rfl rfl hz hn on .commandFailed (by rw [closing]; decide) (by rw [closing]; decide) (by rw [closing]; decide)
  have queue := State.view_queue_close (d := d) (r := s.heed (r.occur .laneFault (.lane k.lane) FaultKind.commandFailed.code s.stamp))
    (sees3.closeQueued k.channel) (show LaneState.faultStop ≠ .locked by decide) (k := commandFailedClose z k.lane k.channel i c.transaction) rfl on free fresh
  rw [show n + 7 = n + 1 + 1 + 1 + 1 + 1 + 1 + 1 from rfl, drain_step (handle_failedOpen hu hc ho hk hs f), List.cons_append, List.cons_append,
    List.nil_append]
  refine (drain_step fault).trans ?_
  refine (drain_step stop).trans ?_
  refine (drain_step (State.view_changed_stays (c := c.openFailed rs k.channel) rfl rfl going)).trans ?_
  refine (drain_step closes).trans ?_
  refine (drain_step queue).trans ?_
  exact drain_step (State.view_changed_stays (c := c.openFailed rs k.channel) rfl rfl going)

/-! ### The clauses of O42 -/

theorem exec_attemptAgain (ha : s.awaitsHead x) (hr : 0 < x.retries) (hc : s.cutShort x = false) {f : FailureKind} (hf : f ≠ .unexpected) :
    (s.inWindow fun x s => s.attemptFails x f) = .next (s.attemptAgain x f) := by
  rw [State.inWindow_runs ha, State.attemptFails_again hr hc, if_neg fun h => hf h.1]
  exact finish_busy (s.attemptAgain_busy x f)

/-- An unexpected frame: of an ONLINE head it is captured before the attempt is made again (R101). -/
theorem exec_unexpectedAgain (ha : s.awaitsHead x) (hr : 0 < x.retries) (hc : s.cutShort x = false) :
    exec .dispenserUnexpectedFrame s = .next (if (s.head x.head).online = true then
      (s.attemptAgain x .unexpected).captureFailure x.head x.headChannel x.kind .unexpected else s.attemptAgain x .unexpected) := by
  refine (State.inWindow_runs ha (fun x s => s.attemptFails x .unexpected)).trans ?_
  rw [State.attemptFails_again hr hc]
  by_cases on : (s.head x.head).online = true
  · rw [if_pos ⟨rfl, on⟩, if_pos on]
    refine (finish_of_drain (n := 2) (by decide) ?_)
    refine (drain_quiet (n := 1) rfl).trans (drain_quiet (n := 0) ?_)
    refine State.arbitrate_idle (.inl ?_)
    rw [State.captureFailure_line]
    exact s.attemptAgain_busy x .unexpected
  · rw [if_neg fun h => on h.2, if_neg on]
    exact finish_busy (s.attemptAgain_busy x .unexpected)

theorem LatchClean.lost (h : s.LatchClean) {k : HeadId} {y : Head} (hy : y.commands = (s.head k).commands) :
    ({ s with dlu := s.dlu.lost k y } : State).LatchClean := by
  refine LatchClean.of_lists h rfl fun j e he => .inl ?_
  by_cases hj : j = k
  · subst hj
    have read : ({ s with dlu := s.dlu.lost j y } : State).head j = { y with failedTotal := min 65535 ((s.head j).failedTotal + 1) } :=
      Tab.get_set_self _ _ _
    rw [read] at he
    exact hy ▸ he
  · have read : ({ s with dlu := s.dlu.lost k y } : State).head j = s.head j := Tab.get_set_ne _ (Ne.symm hj) _
    rw [read] at he
    exact he

/-- A POLL that fails for good with an OFFLINE head. -/
theorem exec_pollLost_offline (ha : s.awaitsHead x) (hr : x.retries = 0) (hc : x.command = none) (clean : s.LatchClean)
    (off : (s.head x.head).online = false) :
    exec .dispenserReplyWindowExpiry s = .next ({ s with dlu := s.dlu.lost x.head (s.head x.head) } : State).arbitrate.1 := by
  rw [exec_windowExpiry ha hr, State.exchangeFails_offline off, hc]
  exact finish_arbitrate (LatchClean.lost clean rfl)

/-- One below the head failure limit. -/
theorem exec_pollLost_below (ha : s.awaitsHead x) (hr : x.retries = 0) (hc : x.command = none) (clean : s.LatchClean)
    (on : (s.head x.head).online = true) (below : (s.head x.head).failures + 1 < s.til.params.get 9) :
    exec .dispenserReplyWindowExpiry s =
      .next ((({ s with dlu := s.dlu.lost x.head { s.head x.head with failures := (s.head x.head).failures + 1 } } : State).captureFailure
        x.head none .poll .noAnswer).arbitrate.1) := by
  have channel : x.headChannel = none := by rw [Exchange.headChannel, hc]; rfl
  have kind : x.kind = .poll := by rw [Exchange.kind, hc]; rfl
  rw [exec_windowExpiry ha hr, State.exchangeFails_below on below, hc, channel, kind]
  have clean' : ({ s with dlu := s.dlu.lost x.head { s.head x.head with failures := (s.head x.head).failures + 1 } } : State).LatchClean :=
    LatchClean.lost clean rfl
  generalize ({ s with dlu := s.dlu.lost x.head { s.head x.head with failures := (s.head x.head).failures + 1 } } : State) = u at clean' ⊢
  exact finish_then_arbitrate (n := 1) (drain_quiet (t := u.captureFailure x.head none .poll .noAnswer) rfl) (LatchClean.captureFailure clean' _ _ _ _)

/-- One at the head failure limit. -/
theorem exec_pollLost_limit (ha : s.awaitsHead x) (hr : x.retries = 0) (hc : x.command = none) (on : (s.head x.head).online = true)
    (limit : s.til.params.get 9 ≤ (s.head x.head).failures + 1) :
    exec .dispenserReplyWindowExpiry s = finish [.capture x.head none .poll .noAnswer, .discardList x.head, .headGone x.head .noAnswer, .arbitrate]
      { s with dlu := s.dlu.lost x.head (s.head x.head).goOffline } := by
  have channel : x.headChannel = none := by rw [Exchange.headChannel, hc]; rfl
  have kind : x.kind = .poll := by rw [Exchange.kind, hc]; rfl
  rw [exec_windowExpiry ha hr, State.exchangeFails_limit on limit, hc, channel, kind]
  rfl

/-- The lane of a lost head LOCKED. -/
theorem State.lockedBy_headLost (s : State) (h : HeadId) (y : Lane) (k : FaultKind) :
    (s.headLost h).lockedBy l y k = { (s.headLost h).setLane l { y with
        state := .locked
        fault := some k
        channels := y.channels.map fun w => { w with faultClose := .none, faultSettle := none } } with
      rd := { s.rd with locks := s.rd.locks.set l true }
      scc := { s.scc with cut := s.scc.cut.set l true } } := by
  have rd : (s.headLost h).rd = s.rd := by rw [State.headLost_eq]
  have scc : (s.headLost h).scc = s.scc := by rw [State.headLost_eq]
  unfold State.lockedBy
  rw [rd, scc]

/-- The loss of a head that serves one channel, of a lane in FAULT STOP with no context (R126, R129). -/
theorem finish_headLost_locks (hs : s.ListsSound) {h : HeadId} (hz : ∀ k ∈ (s.head h).commands, k.payload.kind ≠ .zero) (clean : s.LatchClean)
    (one : s.servedBy h = [(l, ch)]) (alone : ∀ k, k ≠ h → ∀ q ∈ s.servedBy k, q.1 ≠ l) (stopped : (s.lane l).state = .faultStop)
    (free : s.bound l = none) :
    finish [.capture h none .poll .noAnswer, .discardList h, .headGone h .noAnswer, .arbitrate] { s with dlu := s.dlu.lost h (s.head h).goOffline } =
      .next ((((s.headLost h).lockedBy l ((s.lane l).unquiet ch) .headLost).queueEvent .laneFault (.lane l) FaultKind.headLost.code).queueEvent
        .laneLockout (.lane l) FaultKind.headLost.code).arbitrate.1 := by
  have lane : (s.headLost h).lane l = s.lane l := by rw [State.headLost_eq]; rfl
  have bound : (s.headLost h).bound l = none := by rw [State.headLost_eq]; exact free
  have emptied : ∀ k, (∃ q ∈ (s.headLost h).servedBy k, q.1 = l) → ((s.headLost h).head k).commands = [] := fun k hk => by
    rw [State.headLost_servedBy] at hk
    obtain ⟨q, hq, hl⟩ := hk
    have : k = h := by_contra fun other => alone k other q hq hl
    rw [State.headLost_head, if_pos this]
    rfl
  refine finish_headLost hs h hz (n := 4) (by decide) (LatchClean.congr (LatchClean.headLost clean h) rfl rfl) ?_
  rw [one, ← lane]
  exact drain_channelLost (n := 1) (by rw [lane]; exact stopped) bound emptied (State.headLost_line s h)

/-- An OPEN or RELEASE that fails for good, as the first fault of its lane. -/
theorem exec_openLost {c : Command} (ha : s.awaitsHead x) (hr : x.retries = 0) (hx : x.command = some c)
    (hk : c.opening = true) (on : (s.head x.head).online = true) (below : (s.head x.head).failures + 1 < s.til.params.get 9)
    (clean : s.LatchClean) (hb : s.bound c.lane = some i) (ho : c.owner = some (i, (s.ctx i).transaction)) (hc : (s.ctx i).channels = some rs)
    (state : (s.ctx i).state = .armed ∨ (s.ctx i).state = .delivering) (hs : (rs.get c.channel).state = .opening)
    (hz : (rs.get c.channel).setup = some z) (head : z.head = x.head)
    (hq : ∀ e, e ≠ c.channel → (rs.get e).state = .idle ∧ (rs.get e).setup = none) (h1 : (s.lane c.lane).state ≠ .faultStop)
    (free : ∀ q ∈ s.servedBy x.head, (s.lane q.1).state ≠ .locked)
    (fresh : ∀ d ∈ (s.head x.head).commands, ¬(d.lane = c.lane ∧ d.channel = c.channel)) :
    exec .dispenserReplyWindowExpiry s =
      .next ((s.view i c.lane ((s.ctx i).openFailed rs c.channel) (((s.lane c.lane).enterFaultStop .commandFailed).closeQueued c.channel)
        ((s.dlu.lost x.head { s.head x.head with failures := (s.head x.head).failures + 1 }).withList x.head
          (closedList (s.head x.head).commands (commandFailedClose z c.lane c.channel i (s.ctx i).transaction)))
        (s.heed (s.reu.occur .laneFault (.lane c.lane) FaultKind.commandFailed.code s.stamp))).captureFailure x.head (some c.headChannel) x.kind
          .noAnswer).arbitrate.1 := by
  have channel : x.headChannel = some c.headChannel := by rw [Exchange.headChannel, hx]; rfl
  have inUse := (State.bound_lane hb).1
  have setup : s.setup c.lane c.channel = some z := (State.setup_bound hb hc _).trans hz
  have bare : ∀ e, e ≠ c.channel → s.setup c.lane e = none := fun e he => (State.setup_bound hb hc e).trans (hq e he).2
  have unlocked : (s.lane c.lane).state ≠ .locked := free _ (head ▸ State.mem_servedBy setup)
  have self : ({ s with dlu := s.dlu.lost x.head { s.head x.head with failures := (s.head x.head).failures + 1 } } : State) =
      s.view i c.lane (s.ctx i) (s.lane c.lane) (s.dlu.lost x.head { s.head x.head with failures := (s.head x.head).failures + 1 }) s.reu :=
    congrArg (fun u : State => { u with dlu := s.dlu.lost x.head { s.head x.head with failures := (s.head x.head).failures + 1 } })
      (s.view_self i c.lane).symm
  have read : (s.dlu.lost x.head { s.head x.head with failures := (s.head x.head).failures + 1 }).heads.get z.head =
      { s.head x.head with
        failures := (s.head x.head).failures + 1
        failedTotal := min 65535 ((s.head x.head).failedTotal + 1) } := by
    rw [head]
    exact Tab.get_set_self _ _ _
  rw [exec_windowExpiry ha hr, State.exchangeFails_below on below, hx, channel, self]
  have failed := drain_failedOpen (n := 2) (ws := [.capture x.head (some c.headChannel) x.kind .noAnswer, .arbitrate]) (z := z)
    (State.Sees.refl s i c.lane) inUse hb hc ho hk hs state (fun e he => (hq e he).1)
    (d := s.dlu.lost x.head { s.head x.head with failures := (s.head x.head).failures + 1 }) setup bare h1 unlocked
    (by rw [read]; exact on) (by rw [head]; exact free) (by rw [read]; exact fresh) .noAnswer s.reu
  have list : ((s.dlu.lost x.head { s.head x.head with failures := (s.head x.head).failures + 1 }).heads.get z.head).commands =
      (s.head x.head).commands := by
    rw [read]
  rw [list, head] at failed
  have clean' : (s.view i c.lane ((s.ctx i).openFailed rs c.channel) (((s.lane c.lane).enterFaultStop .commandFailed).closeQueued c.channel)
        ((s.dlu.lost x.head { s.head x.head with failures := (s.head x.head).failures + 1 }).withList x.head
          (closedList (s.head x.head).commands (commandFailedClose z c.lane c.channel i (s.ctx i).transaction)))
        (s.heed (s.reu.occur .laneFault (.lane c.lane) FaultKind.commandFailed.code s.stamp))).LatchClean := by
    refine LatchClean.of_lists clean rfl fun k e he => ?_
    by_cases hk' : k = x.head
    · subst hk'
      have list := congrArg Head.commands (Tab.get_set_self
        (s.dlu.lost x.head { s.head x.head with failures := (s.head x.head).failures + 1 }).heads x.head
        { (s.dlu.lost x.head { s.head x.head with failures := (s.head x.head).failures + 1 }).heads.get x.head with
          commands := closedList (s.head x.head).commands (commandFailedClose z c.lane c.channel i (s.ctx i).transaction) })
      rcases mem_closed (list ▸ he) with rfl | old
      · exact .inr rfl
      · exact .inl old
    · left
      have one := Tab.get_set_ne (s.dlu.lost x.head { s.head x.head with failures := (s.head x.head).failures + 1 }).heads (Ne.symm hk')
        { (s.dlu.lost x.head { s.head x.head with failures := (s.head x.head).failures + 1 }).heads.get x.head with
          commands := closedList (s.head x.head).commands (commandFailedClose z c.lane c.channel i (s.ctx i).transaction) }
      have two : (s.dlu.lost x.head { s.head x.head with failures := (s.head x.head).failures + 1 }).heads.get k = s.head k :=
        Tab.get_set_ne _ (Ne.symm hk') _
      have list := congrArg Head.commands (one.trans two)
      exact list ▸ he
  generalize s.view i c.lane ((s.ctx i).openFailed rs c.channel) _ _ _ = u at clean' failed ⊢
  exact finish_then_arbitrate (n := 8)
    (failed.trans (drain_quiet (t := u.captureFailure x.head (some c.headChannel) x.kind .noAnswer) rfl)) (LatchClean.captureFailure clean' _ _ _ _)

/-- Settles O42. -/
theorem attemptsAreRepeated : Obligations.AttemptsAreRepeated := by
  unfold Obligations.AttemptsAreRepeated
  intro s x hp
  refine ⟨fun hl => ?_, fun hl hr h1 h2 h3 h4 => ?_, fun hl hr hc clean => ?_, ?_⟩
  · show execDispenserFrameSent s = _
    unfold execDispenserFrameSent State.whenWorking
    rw [State.working_of_running hp, if_pos rfl, State.frameSent, hl]
    rfl
  · have whole := State.cutShort_false h1 h2 h3 h4
    exact ⟨exec_attemptAgain ⟨hp, hl⟩ hr whole (by decide), exec_attemptAgain ⟨hp, hl⟩ hr whole (by decide), exec_unexpectedAgain ⟨hp, hl⟩ hr whole⟩
  · refine ⟨exec_pollLost_offline ⟨hp, hl⟩ hr hc clean, exec_pollLost_below ⟨hp, hl⟩ hr hc clean, fun on limit sound hz => ⟨fun none => ?_, ?_⟩⟩
    · refine (exec_pollLost_limit ⟨hp, hl⟩ hr hc on limit).trans ?_
      refine finish_headLost sound x.head hz (n := 0) (by decide) (LatchClean.headLost clean x.head) ?_
      rw [none]
      rfl
    · intro l ch one alone stopped free
      refine (exec_pollLost_limit ⟨hp, hl⟩ hr hc on limit).trans ((finish_headLost_locks sound hz clean one alone stopped free).trans ?_)
      rw [State.lockedBy_headLost]
      rfl
  · intro c i rs z hl hr hx _ hk on below clean hb ho hc state hs hz head hq h1 free fresh
    refine ⟨_, exec_openLost ⟨hp, hl⟩ hr hx hk on below clean hb ho hc state hs hz head hq h1 free fresh, ?_⟩
    refine ⟨?_, fun j hj => State.view_ctx_ne s hj, rfl, ?_, fun m hm => State.view_lane_ne s hm, ?_, rfl⟩
    · rw [State.view_ctx]
      rfl
    · rw [State.view_lane]
      cases c.channel <;> rfl
    · show DispenserUnit.withList _ _ _ = _
      unfold DispenserUnit.withList DispenserUnit.lost
      dsimp only
      rw [Tab.get_set_self, Tab.set_set, commandFailedClose, ← ho, head]
      rfl

end Sys2Proof.Machine
end

section
/-! Stops in delivery (O24): every channel by its state, the CLOSEs joining their heads' lists in letter order, and the closing where nothing is in progress. -/

namespace Sys2Proof.Machine

open Sys2Proof

variable {s t : State} {i : ContextId} {l m : LaneId} {c : Context} {x : Lane} {d : DispenserUnit} {r : EventUnit}
  {rs : Triple ChannelRecord} {cause : EndCause}

/-! ### The channels of a stop -/

/-- A channel as a stop leaves it (R123). -/
def ChannelRecord.stoppedBy (q : ChannelRecord) (cause : EndCause) : ChannelRecord :=
  match q.state with
  | .zeroing | .allocating => q.toIdle
  | .opening => { q with closeQueued := some cause }
  | .flowing => q.beginClosing cause
  | _ => q

/-- The CLOSE that a stop queues for a channel (R123). -/
def stopClose (i : ContextId) (n : Nat) (m : LaneId) (cause : EndCause) (ch : Channel) (q : ChannelRecord) : Option Command :=
  if q.state = .opening ∨ q.state = .flowing then q.setup.map fun z => ⟨z.head, z.headChannel, m, ch, some (i, n), .close cause false⟩ else none

theorem ChannelState.stops_iff (st : ChannelState) :
    st.stops = true ↔ (st = .zeroing ∨ st = .allocating) ∨ st = .opening ∨ st = .flowing := by cases st <;> decide

theorem ChannelRecord.stoppedBy_rests {q : ChannelRecord} (h : q.state.stops = false) (cause : EndCause) : q.stoppedBy cause = q := by
  unfold ChannelRecord.stoppedBy
  split <;> first | rfl | (rename_i hq; rw [hq] at h; cases h)

theorem ChannelRecord.stoppedBy_idle {q : ChannelRecord} (h : q.state = .zeroing ∨ q.state = .allocating) (cause : EndCause) :
    q.stoppedBy cause = q.toIdle := by
  unfold ChannelRecord.stoppedBy
  rcases h with h | h <;> rw [h]

theorem ChannelRecord.stoppedBy_opening {q : ChannelRecord} (h : q.state = .opening) (cause : EndCause) :
    q.stoppedBy cause = { q with closeQueued := some cause } := by
  unfold ChannelRecord.stoppedBy
  rw [h]

theorem ChannelRecord.stoppedBy_flowing {q : ChannelRecord} (h : q.state = .flowing) (cause : EndCause) : q.stoppedBy cause = q.beginClosing cause := by
  unfold ChannelRecord.stoppedBy
  rw [h]

/-- The CLOSE of a stop is for its channel. -/
theorem stopClose_spec {n : Nat} {ch : Channel} {q : ChannelRecord} {k : Command} (h : stopClose i n m cause ch q = some k) :
    (q.state = .opening ∨ q.state = .flowing) ∧ (∃ z, q.setup = some z ∧ z.head = k.head) ∧ k.lane = m ∧ k.channel = ch ∧ k.payload = .close cause false := by
  unfold stopClose at h
  split at h
  · rename_i stops
    obtain ⟨z, hz, rfl⟩ := Option.map_eq_some_iff.mp h
    exact ⟨stops, ⟨z, hz, rfl⟩, rfl, rfl, rfl⟩
  · cases h

/-- A channel of a context that enters STOPPING. -/
theorem State.view_stopChannel (hc : c.channels = some rs) (hl : c.lane = some m) (cause : EndCause) (ch : Channel) :
    State.stopChannel i cause (s.view i l c x d r) ch =
      (s.view i l { c with channels := some (rs.set ch ((rs.get ch).stoppedBy cause)) } x d r,
        ((stopClose i c.transaction m cause ch (rs.get ch)).map Work.queue).toList) := by
  have queued : (rs.get ch).state = .opening ∨ (rs.get ch).state = .flowing →
      (s.view i l c x d r).queueFor i ch (.close cause false) = ((stopClose i c.transaction m cause ch (rs.get ch)).map Work.queue).toList := by
    intro stops
    rw [stopClose, if_pos stops]
    unfold State.queueFor State.commandFor
    rw [State.view_records hc, State.view_ctx, hl]
    cases (rs.get ch).setup <;> rfl
  by_cases stops : (rs.get ch).state.stops = true
  · rcases (ChannelState.stops_iff _).mp stops with idle | opening | flowing
    · have none : stopClose i c.transaction m cause ch (rs.get ch) = none := by
        unfold stopClose
        rcases idle with h | h <;> exact if_neg (by rw [h]; decide)
      have returned : State.stopChannel i cause (s.view i l c x d r) ch = (s.view i l c x d r).withChannel i ch .toIdle [] := by
        unfold State.stopChannel
        rw [State.view_records hc]
        rcases idle with h | h <;> rw [h]
      rw [returned, none, State.withChannel, State.view_modChannel, Context.modChannel_eq hc, ChannelRecord.stoppedBy_idle idle]
      rfl
    · unfold State.stopChannel
      rw [State.view_records hc, opening]
      dsimp only
      rw [queued (.inl opening), State.withChannel, State.view_modChannel, Context.modChannel_eq hc, ChannelRecord.stoppedBy_opening opening]
    · unfold State.stopChannel
      rw [State.view_records hc, flowing]
      dsimp only
      rw [queued (.inr flowing), State.withChannel, State.view_modChannel, Context.modChannel_eq hc, ChannelRecord.stoppedBy_flowing flowing]
  · have rests := Bool.eq_false_iff.mpr stops
    have none : stopClose i c.transaction m cause ch (rs.get ch) = none :=
      if_neg fun h => stops ((ChannelState.stops_iff _).mpr (.inr h))
    have same : rs.set ch (rs.get ch) = rs := by cases ch <;> rfl
    rw [State.view_stopChannel_rests hc rests, ChannelRecord.stoppedBy_rests rests, none, same, ← hc]
    rfl

/-- The CLOSEs of a stop, in letter order. -/
def stopCloses (i : ContextId) (n : Nat) (m : LaneId) (cause : EndCause) (rs : Triple ChannelRecord) : List Command :=
  Channel.letters.filterMap fun ch => stopClose i n m cause ch (rs.get ch)

/-- STOPPING entered (R21, R123). -/
theorem State.view_stop (h : s.Sees i l c x) (hu : c.inUse = true) (ho : c.state ≠ .offered) (hc : c.channels = some rs) (hl : c.lane = some m)
    (cause : EndCause) :
    handle (.stop i c.transaction cause) (s.view i l c x d r) =
      (s.view i l { c.stopping with channels := some (rs.map (·.stoppedBy cause)) } x d (s.heed r),
        (stopCloses i c.transaction m cause rs).map Work.queue ++ [.changed i c.transaction]) := by
  have all : (s.view i l c.stopping x d (s.heed r)).gather (State.stopChannel i cause) Channel.letters =
      (s.view i l { c.stopping with channels := some (rs.map (·.stoppedBy cause)) } x d (s.heed r),
        (stopCloses i c.transaction m cause rs).map Work.queue) := by
    have step : ∀ (qs : Triple ChannelRecord) (ch : Channel), qs.get ch = rs.get ch →
        State.stopChannel i cause (s.view i l { c.stopping with channels := some qs } x d (s.heed r)) ch =
          (s.view i l { c.stopping with channels := some (qs.set ch ((rs.get ch).stoppedBy cause)) } x d (s.heed r),
            ((stopClose i c.transaction m cause ch (rs.get ch)).map Work.queue).toList) := fun qs ch hq => by
      rw [← hq]
      exact State.view_stopChannel (c := { c.stopping with channels := some qs }) rfl hl cause ch
    have whole : c.stopping = { c.stopping with channels := some rs } := by
      rw [← hc]
      rfl
    have records : ((rs.set .a ((rs.get .a).stoppedBy cause)).set .b ((rs.get .b).stoppedBy cause)).set .c ((rs.get .c).stoppedBy cause) =
        rs.map (·.stoppedBy cause) := rfl
    have work : (stopCloses i c.transaction m cause rs).map Work.queue =
        ((stopClose i c.transaction m cause .a (rs.get .a)).map Work.queue).toList ++
          (((stopClose i c.transaction m cause .b (rs.get .b)).map Work.queue).toList ++
            (((stopClose i c.transaction m cause .c (rs.get .c)).map Work.queue).toList ++ [])) := by
      rw [stopCloses, List.map_filterMap, List.filterMap_eq_flatMap_toList]
      rfl
    rw [work, ← records, whole]
    unfold Channel.letters State.gather
    rw [step rs .a rfl]
    unfold State.gather
    dsimp only
    rw [step (rs.set .a ((rs.get .a).stoppedBy cause)) .b rfl]
    unfold State.gather
    dsimp only
    rw [step ((rs.set .a ((rs.get .a).stoppedBy cause)).set .b ((rs.get .b).stoppedBy cause)) .c rfl]
    rfl
  rw [State.view_enterStopping h hu ho, all]

/-! ### CLOSEs joining their lists -/

/-- A list that CLOSEs have joined, one after another (R93). -/
def joinCloses (cs ks : List Command) : List Command :=
  if ks = [] then cs else cs.filter Command.isClose ++ ks ++ cs.filter fun e => !e.isClose

theorem joinCloses_cons {k : Command} (hk : k.isClose = true) (cs ks : List Command) : joinCloses (closedList cs k) ks = joinCloses cs (k :: ks) := by
  unfold joinCloses closedList
  rw [if_neg (List.cons_ne_nil k ks)]
  have closes : (cs.filter Command.isClose ++ k :: cs.filter fun e => !e.isClose).filter Command.isClose = cs.filter Command.isClose ++ [k] := by
    rw [List.filter_append, List.filter_cons, if_pos hk, List.filter_filter, List.filter_filter]
    simp
  have others : ((cs.filter Command.isClose ++ k :: cs.filter fun e => !e.isClose).filter fun e => !e.isClose) = cs.filter fun e => !e.isClose := by
    rw [List.filter_append, List.filter_cons, if_neg (by rw [hk]; decide), List.filter_filter, List.filter_filter]
    simp
  split
  · rename_i none
    rw [none, List.append_assoc]
    rfl
  · rw [closes, others]
    simp only [List.append_assoc, List.cons_append, List.nil_append]

/-- The link once CLOSEs have joined the lists of their heads. -/
def DispenserUnit.withCloses (d : DispenserUnit) (ks : List Command) : DispenserUnit :=
  ks.foldl (fun d k => d.withList k.head (closedList (d.heads.get k.head).commands k)) d

theorem DispenserUnit.withList_head (d : DispenserUnit) (h k : HeadId) (cs : List Command) :
    (d.withList h cs).heads.get k = if k = h then { d.heads.get k with commands := cs } else d.heads.get k := by
  split
  · rename_i same
    subst same
    exact Tab.get_set_self _ _ _
  · rename_i other
    exact Tab.get_set_ne _ (Ne.symm other) _

theorem DispenserUnit.withCloses_head {ks : List Command} (hk : ∀ k ∈ ks, k.isClose = true) (d : DispenserUnit) (h : HeadId) :
    (d.withCloses ks).heads.get h =
      { d.heads.get h with commands := joinCloses (d.heads.get h).commands (ks.filter fun k => decide (k.head = h)) } := by
  induction ks generalizing d with
  | nil => rfl
  | cons k ks ih =>
    show ((d.withList k.head (closedList (d.heads.get k.head).commands k)).withCloses ks).heads.get h = _
    rw [ih fun e he => hk e (List.mem_cons_of_mem _ he), DispenserUnit.withList_head, List.filter_cons]
    by_cases same : k.head = h
    · rw [if_pos same.symm, if_pos (decide_eq_true same), same, ← joinCloses_cons (hk k (List.mem_cons_self ..))]
    · rw [if_neg (Ne.symm same), if_neg (by simpa using same)]

theorem DispenserUnit.withCloses_rest (d : DispenserUnit) (ks : List Command) : ∃ y, d.withCloses ks = { d with heads := y } := by
  induction ks generalizing d with
  | nil => exact ⟨d.heads, rfl⟩
  | cons k ks ih =>
    obtain ⟨y, hy⟩ := ih (d.withList k.head (closedList (d.heads.get k.head).commands k))
    exact ⟨y, hy⟩

/-- CLOSEs for distinct channels, with no command for these in the lists, taken into the lists of ONLINE heads that serve no LOCKED lane. -/
theorem drain_closes {n : Nat} {ws : List Work} {ks : List Command} (h : s.Sees i l c x) (hk : ∀ k ∈ ks, k.payload.kind = .close)
    (hx : ∀ k ∈ ks, x.state ≠ .locked) (on : ∀ k ∈ ks, (d.heads.get k.head).online = true)
    (free : ∀ k ∈ ks, ∀ q ∈ s.servedBy k.head, (s.lane q.1).state ≠ .locked)
    (fresh : ∀ k ∈ ks, ∀ e ∈ (d.heads.get k.head).commands, ¬(e.lane = k.lane ∧ e.channel = k.channel))
    (distinct : ks.Pairwise fun a b => ¬(a.lane = b.lane ∧ a.channel = b.channel)) :
    drain (n + ks.length) (ks.map Work.queue ++ ws) (s.view i l c x d r) = drain n ws (s.view i l c x (d.withCloses ks) r) := by
  induction ks generalizing d with
  | nil => rfl
  | cons k ks ih =>
    obtain ⟨apart, distinct⟩ := List.pairwise_cons.mp distinct
    have first := List.mem_cons_self (a := k) (l := ks)
    have queue := State.view_queue_close (d := d) (r := r) h (hx k first) (hk k first) (on k first) (free k first) (fresh k first)
    rw [List.length_cons, ← Nat.add_assoc, List.map_cons, List.cons_append, drain_step queue, List.nil_append]
    refine ih (fun e he => hk e (List.mem_cons_of_mem _ he)) (fun e he => hx e (List.mem_cons_of_mem _ he)) (fun e he => ?_)
      (fun e he => free e (List.mem_cons_of_mem _ he)) (fun e he f hf => ?_) distinct
    · rw [DispenserUnit.withList_head]
      split
      · exact on e (List.mem_cons_of_mem _ he)
      · exact on e (List.mem_cons_of_mem _ he)
    · rw [DispenserUnit.withList_head] at hf
      split at hf
      · rename_i same
        rcases mem_closed (same ▸ hf) with rfl | old
        · exact apart e he
        · exact fresh e (List.mem_cons_of_mem _ he) f (same ▸ old)
      · exact fresh e (List.mem_cons_of_mem _ he) f hf

/-- The CLOSEs of a stop: one for each channel in OPENING or FLOWING, of its lane. -/
theorem mem_stopCloses {n : Nat} {k : Command} (h : k ∈ stopCloses i n m cause rs) :
    ((rs.get k.channel).state = .opening ∨ (rs.get k.channel).state = .flowing) ∧ (∃ z, (rs.get k.channel).setup = some z ∧ z.head = k.head) ∧
      k.lane = m ∧ k.payload = .close cause false := by
  obtain ⟨ch, -, hk⟩ := List.mem_filterMap.mp h
  obtain ⟨stops, setup, lane, rfl, payload⟩ := stopClose_spec hk
  exact ⟨stops, setup, lane, payload⟩

theorem stopCloses_pairwise (i : ContextId) (n : Nat) (m : LaneId) (cause : EndCause) (rs : Triple ChannelRecord) :
    (stopCloses i n m cause rs).Pairwise fun a b => ¬(a.lane = b.lane ∧ a.channel = b.channel) := by
  refine List.pairwise_filterMap.mpr ((show Channel.letters.Pairwise (· ≠ ·) by decide).imp fun {a b} hn k hk e he hke => ?_)
  obtain ⟨-, -, -, hka, -⟩ := stopClose_spec hk
  obtain ⟨-, -, -, heb, -⟩ := stopClose_spec he
  exact hn (hka.symm.trans (hke.2.trans heb))

theorem stopCloses_length (i : ContextId) (n : Nat) (m : LaneId) (cause : EndCause) (rs : Triple ChannelRecord) :
    (stopCloses i n m cause rs).length ≤ 3 := List.length_filterMap_le _ _

/-! ### The work of a stop -/

/-- A context in STOPPING with the channels that its stop left. -/
def Context.stoppedBy (c : Context) (rs : Triple ChannelRecord) (cause : EndCause) : Context :=
  { c.stopping with channels := some (rs.map (·.stoppedBy cause)) }

/-- The state as a stop's work leaves it: the context closed where nothing of it is in progress (R21). -/
def State.testStopped (s : State) (i : ContextId) (c : Context) : State :=
  if c.anyInProgress then s else s.closeContext i .byVolume false

/-- What a stop asks of the heads of the channels that it closes. -/
def State.Closable (s : State) (l : LaneId) (x : Lane) (d : DispenserUnit) (ks : List Command) : Prop :=
  (∀ k ∈ ks, x.state ≠ .locked) ∧ (∀ k ∈ ks, (d.heads.get k.head).online = true) ∧
    (∀ k ∈ ks, ∀ q ∈ s.servedBy k.head, (s.lane q.1).state ≠ .locked) ∧ ∀ k ∈ ks, ∀ e ∈ (d.heads.get k.head).commands, e.lane ≠ l

/-- The whole work of a stop. -/
theorem drain_stop {n : Nat} {ws : List Work} (h : s.Sees i l c x) (hu : c.inUse = true) (ho : c.state ≠ .offered) (hc : c.channels = some rs)
    (hl : c.lane = some l) (cause : EndCause) (closable : s.Closable l x d (stopCloses i c.transaction l cause rs)) :
    drain (n + 1 + (stopCloses i c.transaction l cause rs).length + 1) (.stop i c.transaction cause :: ws) (s.view i l c x d r) =
      drain n ws ((s.view i l (c.stoppedBy rs cause) x (d.withCloses (stopCloses i c.transaction l cause rs)) (s.heed r)).testStopped i
        (c.stoppedBy rs cause)) := by
  obtain ⟨unlocked, on, free, fresh⟩ := closable
  have setups : (rs.map (·.stoppedBy cause)).map (·.setup) = rs.map (·.setup) := by
    have same : ∀ q : ChannelRecord, (q.stoppedBy cause).setup = q.setup := fun q => by
      unfold ChannelRecord.stoppedBy
      split <;> rfl
    simp only [Triple.map, same]
  have sees : s.Sees i l (c.stoppedBy rs cause) x := by
    have entered := h.stopping hu ho
    refine ⟨entered.inUse, entered.lane, entered.transaction, ?_, entered.offered, entered.config⟩
    rw [← h.setups, hc]
    exact congrArg some setups
  rw [drain_step (State.view_stop h hu ho hc hl cause), List.append_assoc]
  refine (drain_closes sees (fun k hk => ?_) unlocked on free (fun k hk e he hke => ?_) (stopCloses_pairwise ..)).trans ?_
  · obtain ⟨-, -, -, payload⟩ := mem_stopCloses hk
    rw [payload]
    rfl
  · obtain ⟨-, -, lane, -⟩ := mem_stopCloses hk
    exact fresh k hk e he (hke.1.trans lane)
  unfold State.testStopped
  by_cases going : (c.stoppedBy rs cause).anyInProgress = true
  · rw [if_pos going]
    exact drain_step (State.view_changed_stays (c := c.stoppedBy rs cause) rfl rfl going)
  · rw [if_neg going]
    exact drain_step (State.view_changed_closes (c := c.stoppedBy rs cause) rfl rfl (Bool.eq_false_iff.mpr going))

/-! ### STOP LANE and CANCEL TRANSACTION in delivery -/

/-- A context that a stop takes into STOPPING (R21). -/
theorem Context.stoppable_of {c : Context} (h : c.state = .delivering ∨ c.state = .ending ∨ c.state = .armed ∧ c.anyPastIdle = true) :
    c.stoppable = true ∧ c.cancellable = false ∧ c.state ≠ .recovering ∧ c.state ≠ .offered ∧ c.inUse = true := by
  unfold Context.stoppable Context.cancellable Context.inUse
  rcases h with h | h | ⟨h, past⟩
  · simp [h]
  · simp [h]
  · simp [h, past]

theorem State.stopContext_delivering {r : Reason} (h : (s.ctx i).stoppable = true) (hn : (s.ctx i).cancellable = false)
    (hr : (s.ctx i).state ≠ .recovering) (o : Contents) :
    s.stopContext i r o =
      ⟨s.modCtx i (·.withReason r), [.stop i (s.ctx i).transaction .stopped, .arbitrate], .done o⟩ := by
  rw [State.stopContext, if_neg hr, State.hostStop]
  simp only [h, hn, if_true, Bool.false_eq_true, if_false]
  rfl

/-- Which CLOSEs of a stop a head is sent. -/
theorem stopCloses_head (i : ContextId) (n : Nat) (m : LaneId) (cause : EndCause) (rs : Triple ChannelRecord) (h : HeadId) :
    (stopCloses i n m cause rs).filter (fun k => decide (k.head = h)) =
      Channel.letters.filterMap fun ch => match (rs.get ch).setup with
        | some z =>
          if ((rs.get ch).state = .opening ∨ (rs.get ch).state = .flowing) ∧ z.head = h then
            some (⟨h, z.headChannel, m, ch, some (i, n), .close cause false⟩ : Command)
          else none
        | none => none := by
  rw [stopCloses, List.filter_filterMap]
  congr 1
  funext ch
  unfold stopClose
  cases hz : (rs.get ch).setup with
  | none =>
    split <;> rfl
  | some z =>
    by_cases stops : (rs.get ch).state = .opening ∨ (rs.get ch).state = .flowing
    · by_cases hh : z.head = h
      · subst hh
        rw [if_pos stops]
        dsimp only
        rw [if_pos ⟨stops, rfl⟩]
        simp
      · rw [if_pos stops]
        dsimp only
        rw [if_neg fun both => hh both.2]
        simp [hh]
    · rw [if_neg stops]
      dsimp only
      rw [if_neg fun both => stops both.1]
      rfl

theorem joinCloses_eq (y : Head) (ks : List Command) : ({ y with commands := joinCloses y.commands ks } : Head) =
    if ks = [] then y else { y with commands := y.commands.filter Command.isClose ++ ks ++ y.commands.filter fun e => !e.isClose } := by
  unfold joinCloses
  split <;> rfl

theorem State.closeContext_lane_ne (hl : (s.ctx i).lane = some l) {k : LaneId} (hk : k ≠ l) (p : ClosePath) (lock : Bool) :
    (s.closeContext i p lock).lane k = s.lane k := by
  obtain ⟨lane, -⟩ := s.closeContext_unbinds i p lock hl
  obtain ⟨hlane, -⟩ := s.closed_rest i p
  exact (congrFun lane k).trans (((s.closed i p).unbind_lane_ne (fun h => hk (Option.some.inj h).symm) lock).trans (congrFun hlane k))

theorem State.closeContext_hlu (s : State) (i : ContextId) (p : ClosePath) (lock : Bool) : (s.closeContext i p lock).hlu = s.hlu :=
  congrArg Outside.hlu (State.outside_closeContext s i p lock)

/-- What a stop leaves, in the terms of the state it finds. -/
theorem State.testStopped_spec (hl : c.lane = some l) (s : State) :
    let t := (s.view i l c x d r).testStopped i c
    (c.anyInProgress = true → t = s.view i l c x d r) ∧
      (c.anyInProgress = false → t.ctx i = .cleared ∧ ∃ q, t.rd.records = s.rd.records ++ [q] ∧ q.transaction = c.transaction ∧
        q.reason = c.reason ∧ (c.flags.allStop = true → q.flags.allStop = true) ∧ q.kind = if 0 < c.totalVolume then .sale else .noSale) ∧
      (∀ j, j ≠ i → t.ctx j = s.ctx j) ∧ (∀ k, k ≠ l → t.lane k = s.lane k) ∧ t.dlu = d ∧ t.hlu = s.hlu := by
  dsimp only
  unfold State.testStopped
  by_cases going : c.anyInProgress = true
  · rw [if_pos going]
    exact ⟨fun _ => rfl, fun h => absurd (going.symm.trans h) (by decide), fun j hj => State.view_ctx_ne s hj,
      fun k hk => State.view_lane_ne s hk, rfl, rfl⟩
  · rw [if_neg going]
    refine ⟨fun h => absurd h going, fun _ => ⟨?_, ?_⟩, fun j hj => ?_, fun k hk => ?_, ?_, ?_⟩
    · exact (State.closeContext_ctx (s.view i l c x d r) i i .byVolume false).trans (if_pos rfl)
    · refine ⟨_, State.closeContext_records _ i .byVolume false, ?_⟩
      rw [State.closingRecord_eq, State.view_ctx]
      refine ⟨rfl, rfl, fun h => h, ?_⟩
      show c.recordKind .byVolume = _
      rfl
    · exact ((State.closeContext_ctx (s.view i l c x d r) i j .byVolume false).trans (if_neg (Ne.symm hj))).trans (State.view_ctx_ne s hj)
    · exact (State.closeContext_lane_ne (by rw [State.view_ctx]; exact hl) hk .byVolume false).trans (State.view_lane_ne s hk)
    · exact State.closeContext_dlu _ i .byVolume false
    · exact State.closeContext_hlu _ i .byVolume false

/-- A stop of a context in delivery, the link busy. -/
theorem finish_stop {s : State} {i : ContextId} {l : LaneId} {rs : Triple ChannelRecord} (hb : s.bound l = some i) (hc : (s.ctx i).channels = some rs)
    (busy : s.dlu.line ≠ .quiet)
    (state : (s.ctx i).state = .delivering ∨ (s.ctx i).state = .ending ∨ (s.ctx i).state = .armed ∧ (s.ctx i).anyPastIdle = true)
    (served : ∀ ch : Channel, (rs.get ch).state = .opening ∨ (rs.get ch).state = .flowing →
      ∃ z, (rs.get ch).setup = some z ∧ (s.head z.head).online = true ∧ ∀ q ∈ s.servedBy z.head, (s.lane q.1).state ≠ .locked)
    (fresh : ∀ h : HeadId, ∀ d ∈ (s.head h).commands, d.lane ≠ l) (why : Reason) :
    finish [.stop i (s.ctx i).transaction .stopped, .arbitrate] (s.modCtx i (·.withReason why)) =
      .next ((s.view i l (((s.ctx i).withReason why).stoppedBy rs .stopped) (s.lane l)
        (s.dlu.withCloses (stopCloses i (s.ctx i).transaction l .stopped rs)) (s.heed s.reu)).testStopped i
          (((s.ctx i).withReason why).stoppedBy rs .stopped)) := by
  obtain ⟨-, -, -, notOffered, inUse⟩ := Context.stoppable_of state
  have lane := (State.bound_lane hb).2
  have few := stopCloses_length i (s.ctx i).transaction l .stopped rs
  have own := State.Sees.refl s i l
  have sees : s.Sees i l ((s.ctx i).withReason why) (s.lane l) := ⟨own.inUse, own.lane, own.transaction, own.setups, own.offered, own.config⟩
  have self : s.modCtx i (·.withReason why) = s.view i l ((s.ctx i).withReason why) (s.lane l) s.dlu s.reu := by
    have := congrArg (fun u : State => u.modCtx i (·.withReason why)) (s.view_self i l)
    exact this.symm.trans (State.view_modCtx s _)
  have closable : s.Closable l (s.lane l) s.dlu (stopCloses i (s.ctx i).transaction l .stopped rs) := by
    have heads : ∀ k ∈ stopCloses i (s.ctx i).transaction l .stopped rs, (s.lane l).state ≠ .locked ∧ (s.head k.head).online = true ∧
        ∀ q ∈ s.servedBy k.head, (s.lane q.1).state ≠ .locked := fun k hk => by
      obtain ⟨stops, ⟨z, hz, head⟩, -, -⟩ := mem_stopCloses hk
      obtain ⟨z', hz', on, free⟩ := served k.channel stops
      obtain rfl : z = z' := Option.some.inj (hz.symm.trans hz')
      have present : s.setup l k.channel = some z := (State.setup_bound hb hc _).trans hz
      rw [← head]
      exact ⟨free _ (State.mem_servedBy present), on, free⟩
    exact ⟨fun k hk => (heads k hk).1, fun k hk => (heads k hk).2.1, fun k hk => (heads k hk).2.2, fun k _ e he => fresh k.head e he⟩
  rw [self]
  refine finish_of_drain (n := 1 + 1 + (stopCloses i (s.ctx i).transaction l .stopped rs).length + 1) ?_
    ((drain_stop (n := 1) (c := (s.ctx i).withReason why) sees inUse notOffered hc lane .stopped closable).trans (drain_quiet ?_))
  · show _ ≤ 65536
    omega
  · refine State.arbitrate_idle (.inl ?_)
    have stays : ((s.view i l (((s.ctx i).withReason why).stoppedBy rs .stopped) (s.lane l)
        (s.dlu.withCloses (stopCloses i (s.ctx i).transaction l .stopped rs)) (s.heed s.reu)).testStopped i
          (((s.ctx i).withReason why).stoppedBy rs .stopped)).dlu = s.dlu.withCloses (stopCloses i (s.ctx i).transaction l .stopped rs) := by
      obtain ⟨-, -, -, -, dlu, -⟩ := State.testStopped_spec (i := i) (l := l) (c := ((s.ctx i).withReason why).stoppedBy rs .stopped) (x := s.lane l)
        (d := s.dlu.withCloses (stopCloses i (s.ctx i).transaction l .stopped rs)) (r := s.heed s.reu) lane s
      exact dlu
    obtain ⟨y, hy⟩ := s.dlu.withCloses_rest (stopCloses i (s.ctx i).transaction l .stopped rs)
    exact fun quiet => busy ((congrArg DispenserUnit.line (stays.trans hy)).symm.trans quiet)

/-- A stopped channel written out. -/
theorem ChannelRecord.stoppedBy_eq (q : ChannelRecord) : q.stoppedBy .stopped = (match q.state with
    | .zeroing | .allocating => { q with
        state := .idle, points := none, endCause := none, noFlow := none, settle := none, closeQueued := none, awaiting := false }
    | .opening => { q with closeQueued := some .stopped }
    | .flowing => { q with state := .closing, endCause := some .stopped, closeQueued := none, noFlow := none }
    | .idle | .closing | .settling | .done | .refused | .failed => q : ChannelRecord) := by
  unfold ChannelRecord.stoppedBy
  cases q.state <;> rfl

theorem Context.anyInProgress_eq {qs : Triple ChannelRecord} (h : c.channels = some qs) :
    c.anyInProgress = qs.any fun q => q.state.inProgress := by
  unfold Context.anyInProgress Context.anyChannel
  rw [h]
  rfl

/-- What a stop of a context in delivery leaves, in the terms of the state that it finds. -/
structure State.StoppedTo (s t : State) (i : ContextId) (l : LaneId) (rs : Triple ChannelRecord) (c : Context) : Prop where
  stays : (rs.map (·.stoppedBy .stopped)).any (fun r => r.state.inProgress) = true →
    t.ctx i = c.stoppedBy rs .stopped ∧ t.rd.records = s.rd.records ∧ t.dcu = s.dcu
  closes : (rs.map (·.stoppedBy .stopped)).any (fun r => r.state.inProgress) = false →
    t.ctx i = .cleared ∧ ∃ r, t.rd.records = s.rd.records ++ [r] ∧ r.transaction = c.transaction ∧ r.reason = c.reason ∧
      r.kind = if 0 < (c.stoppedBy rs .stopped).totalVolume then .sale else .noSale
  others : ∀ j, j ≠ i → t.ctx j = s.ctx j
  lanes : ∀ m, m ≠ l → t.lane m = s.lane m
  line : t.dlu.line = s.dlu.line
  lists : ∀ h, (fun ks => t.head h = if ks = [] then s.head h else
    { s.head h with commands := (s.head h).commands.filter Command.isClose ++ ks ++ (s.head h).commands.filter fun e => !e.isClose })
      ((stopCloses i c.transaction l .stopped rs).filter fun k => decide (k.head = h))

/-- A stop of a context in delivery with the link busy, written out. -/
theorem finish_stop_done {s : State} {i : ContextId} {l : LaneId} {rs : Triple ChannelRecord} (hb : s.bound l = some i)
    (hc : (s.ctx i).channels = some rs) (busy : s.dlu.line ≠ .quiet)
    (state : (s.ctx i).state = .delivering ∨ (s.ctx i).state = .ending ∨ (s.ctx i).state = .armed ∧ (s.ctx i).anyPastIdle = true)
    (served : ∀ ch : Channel, (rs.get ch).state = .opening ∨ (rs.get ch).state = .flowing →
      ∃ z, (rs.get ch).setup = some z ∧ (s.head z.head).online = true ∧ ∀ q ∈ s.servedBy z.head, (s.lane q.1).state ≠ .locked)
    (fresh : ∀ h : HeadId, ∀ d ∈ (s.head h).commands, d.lane ≠ l) (why : Reason) :
    ∃ t : State, finish [.stop i (s.ctx i).transaction .stopped, .arbitrate] (s.modCtx i (·.withReason why)) = .next t ∧
      s.StoppedTo t i l rs ((s.ctx i).withReason why) ∧ t.hlu = s.hlu := by
  have lane := (State.bound_lane hb).2
  obtain ⟨stays, closes, others, lanes, dlu, hlu⟩ := State.testStopped_spec (i := i) (l := l) (c := ((s.ctx i).withReason why).stoppedBy rs .stopped)
    (x := s.lane l) (d := s.dlu.withCloses (stopCloses i (s.ctx i).transaction l .stopped rs)) (r := s.heed s.reu) lane s
  have progress : (((s.ctx i).withReason why).stoppedBy rs .stopped).anyInProgress =
      (rs.map (·.stoppedBy .stopped)).any fun r => r.state.inProgress := Context.anyInProgress_eq rfl
  rw [progress] at stays closes
  have isClose : ∀ k ∈ stopCloses i (s.ctx i).transaction l .stopped rs, k.isClose = true := fun k hk => by
    obtain ⟨-, -, -, payload⟩ := mem_stopCloses hk
    rw [Command.isClose, payload]
    rfl
  refine ⟨_, finish_stop hb hc busy state served fresh why, ⟨fun going => ?_, fun ended => ?_, others, lanes, ?_, fun h => ?_⟩, hlu⟩
  · rw [stays going]
    refine ⟨State.view_ctx s, rfl, ?_⟩
    have lanes : s.dcu.lanes.set l (s.lane l) = s.dcu.lanes := Tab.set_get _ _
    exact congrArg (fun y => { s.dcu with lanes := y }) lanes
  · obtain ⟨cleared, r, records, transaction, reason, -, kind⟩ := closes ended
    exact ⟨cleared, r, records, transaction, reason, kind⟩
  · obtain ⟨y, hy⟩ := s.dlu.withCloses_rest (stopCloses i (s.ctx i).transaction l .stopped rs)
    rw [dlu, hy]
  · dsimp only
    rw [← joinCloses_eq, State.head, dlu]
    exact s.dlu.withCloses_head isClose h

/-- What a stop leaves, where the state that it finds differs in what the host sees only. -/
theorem State.StoppedTo.of_eq {b : State} {rs : Triple ChannelRecord} (h : b.StoppedTo t i l rs c) (hctx : b.ctx = s.ctx)
    (hrecords : b.rd.records = s.rd.records) (hdcu : b.dcu = s.dcu) (hdlu : b.dlu = s.dlu) : s.StoppedTo t i l rs c := by
  obtain ⟨stays, closes, others, lanes, line, lists⟩ := h
  have hlanes : b.lane = s.lane := funext fun m => congrArg (fun y : DeliveryUnit => y.lanes.get m) hdcu
  have hheads : b.head = s.head := funext fun m => congrArg (fun y : DispenserUnit => y.heads.get m) hdlu
  rw [hrecords, hdcu] at stays
  rw [hrecords] at closes
  rw [hctx] at others
  rw [hlanes] at lanes
  rw [hdlu] at line
  rw [hheads] at lists
  exact ⟨stays, closes, others, lanes, line, lists⟩

/-- A request that stops a context in delivery, its link busy. -/
theorem arrive_stops {f : HostFrame} {o : Contents} {why : Reason} (h : s.takes) (hf : lengthGood f = true)
    (hs : s.heard.serveRequest f.request = s.heard.stopContext i why o) (hb : s.bound l = some i) (hc : (s.ctx i).channels = some rs)
    (busy : s.dlu.line ≠ .quiet)
    (state : (s.ctx i).state = .delivering ∨ (s.ctx i).state = .ending ∨ (s.ctx i).state = .armed ∧ (s.ctx i).anyPastIdle = true)
    (served : ∀ ch : Channel, (rs.get ch).state = .opening ∨ (rs.get ch).state = .flowing →
      ∃ z, (rs.get ch).setup = some z ∧ (s.head z.head).online = true ∧ ∀ q ∈ s.servedBy z.head, (s.lane q.1).state ≠ .locked)
    (fresh : ∀ h : HeadId, ∀ d ∈ (s.head h).commands, d.lane ≠ l) :
    ∃ t : State, s.arrive f = .next t ∧ s.StoppedTo t i l rs ((s.ctx i).withReason why) ∧
      t.hlu.answering = some ⟨answerCode (requestCode f.request), f.tag, .done o⟩ := by
  obtain ⟨stoppable, cancellable, recovering, -, -⟩ := Context.stoppable_of state
  obtain ⟨t, runs, stopped, hlu⟩ := finish_stop_done (s := s.heard.replied (answerCode (requestCode f.request)) f.tag (.done o)) hb hc busy state served
    fresh why
  refine ⟨t, ?_, stopped.of_eq rfl rfl rfl rfl, by rw [hlu]; rfl⟩
  rw [State.arrive_good h hf, hs, State.stopContext_delivering (s := s.heard) stoppable cancellable recovering]
  exact runs

/-- Settles O24. -/
theorem stoppingActsOnEveryChannel : Obligations.StoppingActsOnEveryChannel := by
  unfold Obligations.StoppingActsOnEveryChannel
  intro s tag l i rs h hl hb hc busy state served fresh c stopped closes done
  have stoppedEq : stopped = (·.stoppedBy .stopped) := funext fun q => (ChannelRecord.stoppedBy_eq q).symm
  have closesEq : ∀ k, closes k = (stopCloses i c.transaction l .stopped rs).filter fun d => decide (d.head = k) := fun k =>
    (stopCloses_head i c.transaction l .stopped rs k).symm
  have reaches : ∀ {why : Reason} {t : State}, s.StoppedTo t i l rs (c.withReason why) → done why t := by
    intro why t ⟨stays, ended, others, lanes, line, lists⟩
    refine ⟨?_, ?_, others, lanes, line, fun k => ?_⟩
    · rw [stoppedEq]
      exact stays
    · rw [stoppedEq]
      exact ended
    · rw [closesEq k]
      exact lists k
  refine ⟨?_, fun n hn hf => ?_⟩
  · have serves : s.heard.serveRequest (.stopLane (BitVec.ofNat 8 (l.val + 1))) =
        s.heard.stopContext i .hostStop (.transaction (s.ctx i).transaction) := State.serveStopLane_bound (s := s.heard) hl hb
    obtain ⟨t, runs, stops, answer⟩ := arrive_stops (f := ⟨tag, 1, .stopLane _⟩) h rfl serves hb hc busy state served fresh
    exact ⟨t, runs, reaches stops, answer⟩
  · have serves : s.heard.serveRequest (.cancelTransaction n) = s.heard.stopContext i .hostCancel .nothing :=
      State.serveCancelTransaction_found (s := s.heard) hl hn hf
    obtain ⟨t, runs, stops, answer⟩ := arrive_stops (f := ⟨tag, 4, .cancelTransaction n⟩) h rfl serves hb hc busy state served fresh
    exact ⟨t, runs, reaches stops, answer⟩

end Sys2Proof.Machine
end

section
/-! Acceptances (O43): the exchange ended and the outcome of each kind of command, first where a single channel changes. -/

namespace Sys2Proof.Machine

open Sys2Proof

variable {s t : State} {i : ContextId} {l : LaneId} {rs : Triple ChannelRecord} {c k : Command} {x : Context} {o : CommandOutcome}
  {count totalizer : BitVec 32} {valve : Valve} {retries : Nat}

/-! ### The outcome of a command, by its kind -/

theorem accepted_ne : CommandOutcome.accepted count totalizer valve ≠ .discarded false := nofun

theorem State.ownLockout_ne (ho : o ≠ .discarded false) : ¬ s.ownLockout k o = true := by
  unfold State.ownLockout
  rw [decide_eq_false ho]
  exact Bool.false_ne_true

theorem handle_zeroOutcome {price entry : Nat} (hp : k.payload = .zero price entry) (ho : o ≠ .discarded false) :
    handle (.outcome k o) s = s.zeroOutcome k entry o := by
  show s.takeOutcome k o = _
  rw [State.takeOutcome, if_neg (State.ownLockout_ne ho), hp]

theorem handle_limitOutcome {p : Points} {lowers : Bool} (hp : k.payload = .limit p lowers) (ho : o ≠ .discarded false) :
    handle (.outcome k o) s = s.limitOutcome k p lowers o := by
  show s.takeOutcome k o = _
  rw [State.takeOutcome, if_neg (State.ownLockout_ne ho), hp]

theorem handle_openOutcome (hp : k.opening = true) (ho : o ≠ .discarded false) : handle (.outcome k o) s = s.openOutcome k o := by
  show s.takeOutcome k o = _
  rw [State.takeOutcome, if_neg (State.ownLockout_ne ho)]
  unfold Command.opening at hp
  split at hp
  · rename_i payload
    rw [payload]
  · rename_i payload
    rw [payload]
  · cases hp

theorem handle_closeOutcome {cause : EndCause} {byFault : Bool} (hp : k.payload = .close cause byFault) (ho : o ≠ .discarded false) :
    handle (.outcome k o) s = s.closeOutcome k byFault o := by
  show s.takeOutcome k o = _
  rw [State.takeOutcome, if_neg (State.ownLockout_ne ho), hp]

theorem handle_finalOutcome (hp : k.payload = .final) (ho : o ≠ .discarded false) : handle (.outcome k o) s = s.finalOutcome k o := by
  show s.takeOutcome k o = _
  rw [State.takeOutcome, if_neg (State.ownLockout_ne ho), hp]

/-! ### An active transaction -/

/-- The transaction of a command and the record of its channel, where that transaction is active. -/
theorem State.activeRecord_of (hu : (s.ctx i).state ≠ .free) (hc : (s.ctx i).channels = some rs) (ho : k.owner = some (i, (s.ctx i).transaction)) :
    s.activeRecord k = some (i, (s.ctx i).transaction, rs.get k.channel) := by
  have held : s.holds i (s.ctx i).transaction = true := by
    rw [State.holds, Context.inUse, decide_eq_true hu, decide_eq_true rfl]
    rfl
  unfold State.activeRecord
  rw [ho]
  dsimp only
  rw [held, hc, Context.records, hc]
  rfl

theorem State.modChannel_eq (hc : (s.ctx i).channels = some rs) (ch : Channel) (f : ChannelRecord → ChannelRecord) :
    s.modChannel i ch f = s.setCtx i { s.ctx i with channels := some (rs.set ch (f (rs.get ch))) } :=
  congrArg (s.setCtx i) (Context.modChannel_eq hc f)

/-- A change of a context, reported. -/
theorem handle_changed {n : Nat} (hu : x.state ≠ .free) (hn : x.transaction = n) :
    handle (.changed i n) (s.setCtx i x) = ((s.setCtx i x).contextChanged i, []) := by
  refine if_pos ?_
  rw [State.holds, State.setCtx_ctx_self, hn, Context.inUse, decide_eq_true hu, decide_eq_true rfl]
  rfl

/-- A DELIVERING or STOPPING context with a channel in progress stays (R19, R21). -/
theorem State.contextChanged_stays (hs : (s.ctx i).state = .delivering ∨ (s.ctx i).state = .stopping) (hp : (s.ctx i).anyInProgress = true) :
    s.contextChanged i = s := by
  rcases hs with hs | hs
  · rw [State.contextChanged_delivering hs, hp]
    rfl
  · rw [State.contextChanged_stopping hs, hp]
    rfl

theorem State.contextChanged_dlu (s : State) (i : ContextId) : (s.contextChanged i).dlu = s.dlu := by
  have ending : ∀ u : State, (u.testEnding i).dlu = u.dlu := fun u => by
    unfold State.testEnding
    split
    · exact State.closeContext_dlu u i .byVolume false
    · rfl
  unfold State.contextChanged
  dsimp only
  split
  · unfold State.changedArmed
    dsimp only
    split
    · rfl
    · split
      · exact State.closeContext_dlu s i (.kind .noSale) false
      · split <;> rfl
  · split
    · unfold State.enterEnding
      dsimp only
      split
      · exact State.closeContext_dlu _ i .byVolume false
      · exact ending _
    · rfl
  · split
    · rfl
    · exact ending s
  · split
    · rfl
    · exact State.closeContext_dlu s i .byVolume false
  · split
    · exact State.closeContext_dlu s i .byVolume false
    · rfl
  · rfl

theorem LatchClean.contextChanged (h : s.LatchClean) (i : ContextId) : (s.contextChanged i).LatchClean :=
  State.LatchClean.of_eq h (congrArg Outside.latch (State.outside_contextChanged s i)) (State.contextChanged_dlu s i)

theorem LatchClean.closeContext (h : s.LatchClean) (i : ContextId) (p : ClosePath) (lock : Bool) : (s.closeContext i p lock).LatchClean :=
  State.LatchClean.of_eq h (congrArg Outside.latch (State.outside_closeContext s i p lock)) (State.closeContext_dlu s i p lock)

theorem LatchClean.setCtx (h : s.LatchClean) (i : ContextId) (x : Context) : (s.setCtx i x).LatchClean := LatchClean.congr h rfl rfl

/-! ### Acceptances -/

theorem LatchClean.exchangeDone (h : s.LatchClean) (k : HeadId) : (s.exchangeDone k).LatchClean := by
  refine LatchClean.of_lists h rfl fun j e he => .inl ?_
  by_cases hj : j = k
  · subst hj
    have read : (s.exchangeDone j).head j = { s.head j with failures := 0 } := Tab.get_set_self _ _ _
    rw [read] at he
    exact he
  · have read : (s.exchangeDone k).head j = s.head j := Tab.get_set_ne _ (Ne.symm hj) _
    rw [read] at he
    exact he

/-- An acceptance that is awaited. -/
theorem exec_accepted (ha : s.awaitsHead ⟨c.head, some c, retries⟩) (count : BitVec 32) (valve : Valve) (totalizer : BitVec 32) :
    exec (.dispenserAccepted c.head count valve totalizer) s =
      finish [.outcome c (.accepted count totalizer valve), .arbitrate] ((s.exchangeDone c.head).keepTotalizer c totalizer) := by
  refine (State.inWindow_runs ha (fun x s => s.takeAccepted c.head count valve totalizer x)).trans ?_
  have taken : s.takeAccepted c.head count valve totalizer ⟨c.head, some c, retries⟩ =
      ((s.exchangeDone c.head).keepTotalizer c totalizer, [.outcome c (.accepted count totalizer valve)]) := if_pos rfl
  rw [taken]
  rfl

theorem State.keepTotalizer_other (h : c.payload ≠ .final) (totalizer : BitVec 32) : s.keepTotalizer c totalizer = s := if_neg h

/-- An accepted ZERO (R110). -/
theorem exec_acceptedZero {price entry : Nat} (ha : s.awaitsHead ⟨c.head, some c, retries⟩) (clean : s.LatchClean)
    (ho : c.owner = some (i, (s.ctx i).transaction)) (hu : (s.ctx i).state ≠ .free) (hc : (s.ctx i).channels = some rs)
    (hp : c.payload = .zero price entry) :
    exec (.dispenserAccepted c.head count valve totalizer) s =
      .next (if (rs.get c.channel).state = .zeroing ∧ (rs.get c.channel).zeroEntry = entry then
        (s.exchangeDone c.head).setCtx i { s.ctx i with channels := some (rs.set c.channel { rs.get c.channel with zeroAccepted := true }) }
        else s.exchangeDone c.head).arbitrate.1 := by
  have clean' := LatchClean.exchangeDone clean c.head
  have active : (s.exchangeDone c.head).activeRecord c = some (i, (s.ctx i).transaction, rs.get c.channel) :=
    State.activeRecord_of (s := s.exchangeDone c.head) hu hc ho
  rw [exec_accepted ha, State.keepTotalizer_other (by rw [hp]; exact nofun)]
  have outcome : handle (.outcome c (.accepted count totalizer valve)) (s.exchangeDone c.head) =
      (if (rs.get c.channel).state = .zeroing ∧ (rs.get c.channel).zeroEntry = entry then
        (s.exchangeDone c.head).setCtx i { s.ctx i with channels := some (rs.set c.channel { rs.get c.channel with zeroAccepted := true }) }
        else s.exchangeDone c.head, []) := by
    rw [handle_zeroOutcome hp accepted_ne, State.zeroOutcome, active]
    dsimp only
    by_cases latest : (rs.get c.channel).state = .zeroing ∧ (rs.get c.channel).zeroEntry = entry
    · rw [if_neg (by rw [not_or, not_not, not_not]; exact latest), if_pos latest]
      exact congrArg (·, []) (State.modChannel_eq (s := s.exchangeDone c.head) hc c.channel _)
    · rw [if_pos (by rw [← not_and_or]; exact latest), if_neg latest]
  refine finish_then_arbitrate (n := 1) (drain_step outcome) ?_
  split
  · exact LatchClean.setCtx clean' i _
  · exact clean'

/-- A context in no allocation has no lowering channel. -/
theorem Context.fixLowering_clear (h : x.allocation = .clear) (ch : Channel) (f : Lowering → Nat) : x.fixLowering ch f = x := by
  have same : x.allocation.lowering.set ch ((x.allocation.lowering.get ch).map fun w => if w.fixed.isSome then w else { w with fixed := some (f w) }) =
      x.allocation.lowering := by
    rw [h]
    cases ch <;> rfl
  unfold Context.fixLowering
  dsimp only
  rw [same]

/-- Phase 1's test of a context in no allocation. -/
theorem State.testLowered_clear (h : (s.ctx i).allocation = .clear) (n : Nat) : s.testLowered i n = (s, []) := by
  refine if_neg ?_
  rw [h]
  simp [Allocation.clear]

/-- An accepted CLOSE of a CLOSING channel (R120). -/
theorem exec_acceptedClose {cause : EndCause} (ha : s.awaitsHead ⟨c.head, some c, retries⟩) (clean : s.LatchClean)
    (ho : c.owner = some (i, (s.ctx i).transaction)) (hu : (s.ctx i).state ≠ .free) (hc : (s.ctx i).channels = some rs)
    (hp : c.payload = .close cause false) (clear : (s.ctx i).allocation = .clear) (closing : (rs.get c.channel).state = .closing) :
    exec (.dispenserAccepted c.head count valve totalizer) s =
      .next ((s.exchangeDone c.head).setCtx i { s.ctx i with
        channels := some (rs.set c.channel ((rs.get c.channel).beginSettling count.toNat s.settleTime)) }).arbitrate.1 := by
  have active : (s.exchangeDone c.head).activeRecord c = some (i, (s.ctx i).transaction, rs.get c.channel) :=
    State.activeRecord_of (s := s.exchangeDone c.head) hu hc ho
  have settled : (s.exchangeDone c.head).modChannel i c.channel
      (fun r => if r.state = .closing then r.beginSettling count.toNat (s.exchangeDone c.head).settleTime else r) =
      (s.exchangeDone c.head).setCtx i { s.ctx i with
        channels := some (rs.set c.channel ((rs.get c.channel).beginSettling count.toNat s.settleTime)) } := by
    rw [State.modChannel_eq (s := s.exchangeDone c.head) hc, if_pos closing]
    rfl
  rw [exec_accepted ha, State.keepTotalizer_other (by rw [hp]; exact nofun)]
  have outcome : handle (.outcome c (.accepted count totalizer valve)) (s.exchangeDone c.head) =
      ((s.exchangeDone c.head).setCtx i { s.ctx i with
        channels := some (rs.set c.channel ((rs.get c.channel).beginSettling count.toNat s.settleTime)) }, [.lowered i (s.ctx i).transaction]) := by
    rw [handle_closeOutcome hp accepted_ne, State.closeOutcome]
    simp only [Bool.false_eq_true, if_false]
    rw [active]
    dsimp only
    rw [settled, State.modCtx_setCtx, Context.fixLowering_clear (x := { s.ctx i with
      channels := some (rs.set c.channel ((rs.get c.channel).beginSettling count.toNat s.settleTime)) }) clear]
  refine finish_then_arbitrate (n := 2) ((drain_step outcome).trans (drain_quiet ?_)) (LatchClean.setCtx (LatchClean.exchangeDone clean c.head) i _)
  exact State.testLowered_clear (by rw [State.setCtx_ctx_self]; exact clear) _

/-- An opened channel. -/
theorem Context.anyInProgress_set {r : ChannelRecord} {ch : Channel} (hc : x.channels = some (rs.set ch r)) (h : r.state.inProgress = true) :
    x.anyInProgress = true :=
  Context.anyInProgress_of (ch := ch) hc (by rw [Triple.get_set_self]; exact h)

theorem ChannelRecord.opened_inProgress (r : ChannelRecord) (noFlow : Nat) : (r.opened noFlow).state.inProgress = true := by
  unfold ChannelRecord.opened
  split <;> rfl

/-- An accepted OPEN or RELEASE (R117, R118). -/
theorem exec_acceptedOpen (ha : s.awaitsHead ⟨c.head, some c, retries⟩) (clean : s.LatchClean)
    (ho : c.owner = some (i, (s.ctx i).transaction)) (hc : (s.ctx i).channels = some rs)
    (hp : c.opening = true) (opening : (rs.get c.channel).state = .opening)
    (state : (s.ctx i).state = .armed ∨ (s.ctx i).state = .delivering ∨ (s.ctx i).state = .stopping) :
    exec (.dispenserAccepted c.head count valve totalizer) s =
      .next ((s.exchangeDone c.head).setCtx i { s.ctx i with
        state := if (s.ctx i).state = .armed then .delivering else (s.ctx i).state
        deadline := if (s.ctx i).state = .armed then none else (s.ctx i).deadline
        channels := some (rs.set c.channel ((rs.get c.channel).opened s.noFlowTime)) }).arbitrate.1 := by
  have hu : (s.ctx i).state ≠ .free := by rcases state with h | h | h <;> rw [h] <;> decide
  have active : (s.exchangeDone c.head).activeRecord c = some (i, (s.ctx i).transaction, rs.get c.channel) :=
    State.activeRecord_of (s := s.exchangeDone c.head) hu hc ho
  have notFinal : c.payload ≠ .final := fun h => by
    rw [Command.opening, h] at hp
    cases hp
  rw [exec_accepted ha, State.keepTotalizer_other notFinal]
  have outcome : handle (.outcome c (.accepted count totalizer valve)) (s.exchangeDone c.head) =
      ((s.exchangeDone c.head).setCtx i { s.ctx i with
        state := if (s.ctx i).state = .armed then .delivering else (s.ctx i).state
        deadline := if (s.ctx i).state = .armed then none else (s.ctx i).deadline
        channels := some (rs.set c.channel ((rs.get c.channel).opened s.noFlowTime)) }, [.changed i (s.ctx i).transaction]) := by
    rw [handle_openOutcome hp accepted_ne]
    unfold State.openOutcome
    rw [active]
    dsimp only
    rw [if_pos opening, State.valveOpened]
    rw [State.modChannel_eq (s := s.exchangeDone c.head) hc, State.modCtx_setCtx]
    have context : (s.exchangeDone c.head).ctx i = s.ctx i := rfl
    rw [context]
    by_cases armed : (s.ctx i).state = .armed
    · simp only [armed, if_true]
      rfl
    · simp only [armed, if_false]
      rfl
  have state' : ∀ st, (s.ctx i).state = st → (if st = .armed then ContextState.delivering else st) = .delivering ∨
      (if st = .armed then ContextState.delivering else st) = .stopping := fun st hst => by
    subst hst
    rcases state with h | h | h <;> simp [h]
  refine finish_then_arbitrate (n := 2) ((drain_step outcome).trans (drain_step ((handle_changed ?_ rfl).trans (congrArg (·, []) ?_))))
    (LatchClean.setCtx (LatchClean.exchangeDone clean c.head) i _)
  · rcases state' _ rfl with h | h <;> (dsimp only; rw [h]; decide)
  · refine State.contextChanged_stays ?_ ?_
    · rw [State.setCtx_ctx_self]
      exact state' _ rfl
    · rw [State.setCtx_ctx_self]
      exact Context.anyInProgress_set rfl (ChannelRecord.opened_inProgress _ _)

/-! ### FINAL -/

/-- The state as an accepted FINAL leaves its exchange, the totalizer kept (R99). -/
def State.finalTaken (s : State) (c : Command) (totalizer : BitVec 32) : State :=
  (s.exchangeDone c.head).setHead c.head { s.head c.head with
    failures := 0, totalizer := (s.head c.head).totalizer.set c.headChannel (some totalizer.toNat) }

theorem State.keepTotalizer_final (h : c.payload = .final) (totalizer : BitVec 32) :
    (s.exchangeDone c.head).keepTotalizer c totalizer = s.finalTaken c totalizer := by
  have read : (s.exchangeDone c.head).head c.head = { s.head c.head with failures := 0 } := Tab.get_set_self _ _ _
  rw [State.keepTotalizer, if_pos h, State.modHead, read]
  rfl

theorem LatchClean.finalTaken (h : s.LatchClean) (c : Command) (totalizer : BitVec 32) : (s.finalTaken c totalizer).LatchClean := by
  refine LatchClean.of_lists (LatchClean.exchangeDone h c.head) rfl fun j e he => .inl ?_
  by_cases hj : j = c.head
  · subst hj
    have read : (s.finalTaken c totalizer).head c.head = { s.head c.head with
      failures := 0, totalizer := (s.head c.head).totalizer.set c.headChannel (some totalizer.toNat) } := Tab.get_set_self _ _ _
    have before : (s.exchangeDone c.head).head c.head = { s.head c.head with failures := 0 } := Tab.get_set_self _ _ _
    rw [read] at he
    rw [before]
    exact he
  · have read : (s.finalTaken c totalizer).head j = (s.exchangeDone c.head).head j := Tab.get_set_ne _ (Ne.symm hj) _
    rw [read] at he
    exact he

/-- The outcome of an accepted FINAL of a SETTLING channel (R99, R121). -/
theorem handle_acceptedFinal {u : State} (hp : c.payload = .final) (ho : c.owner = some (i, (u.ctx i).transaction)) (hu : (u.ctx i).state ≠ .free)
    (hc : (u.ctx i).channels = some rs) (settling : (rs.get c.channel).state = .settling) :
    handle (.outcome c (.accepted count totalizer valve)) u =
      if (rs.get c.channel).extended ≤ count.toNat ∧ count.toNat < (rs.get c.channel).extended + 65536 then
        (u.setCtx i { u.ctx i with channels := some (rs.set c.channel ((rs.get c.channel).finish count)) },
          [.trigger i (u.ctx i).transaction true, .changed i (u.ctx i).transaction])
      else (u.setCtx i ({ u.ctx i with channels := some (rs.set c.channel ((rs.get c.channel).finish count)) } : Context).flagMismatch,
        [.fault c.lane .meterMismatch, .trigger i (u.ctx i).transaction true, .changed i (u.ctx i).transaction]) := by
  rw [handle_finalOutcome hp accepted_ne]
  unfold State.finalOutcome
  rw [State.activeRecord_of hu hc ho]
  dsimp only
  rw [if_pos settling, State.finalAccepted]
  rw [State.modChannel_eq hc, State.modCtx_setCtx, finalGood]
  by_cases good : (rs.get c.channel).extended ≤ count.toNat ∧ count.toNat < (rs.get c.channel).extended + 65536
  · rw [if_pos good, decide_eq_true good, if_pos rfl]
  · rw [if_neg good, decide_eq_false good, if_neg Bool.false_ne_true]

/-- The states in which a channel shares in a division (R112). -/
theorem sharing_iff (st : ChannelState) :
    st ∉ [ChannelState.opening, .flowing, .allocating] ↔ (st.isFlowing || decide (st = .allocating)) = false := by cases st <;> decide

/-- A trigger 2 for a context that is not DELIVERING, or has no channel to divide for, does nothing (R112). -/
theorem handle_trigger_idle (h : (s.ctx i).state ≠ .delivering ∨
    (s.ctx i).anyChannel (fun r => r.state.isFlowing || decide (r.state = .allocating)) = false) (n : Nat) :
    handle (.trigger i n true) s = (s, []) := by
  have idle : (true && (decide ((s.ctx i).state ≠ .delivering) || !(s.ctx i).anyChannel fun r => r.state.isFlowing || decide (r.state = .allocating))) =
      true := by
    rcases h with h | h
    · rw [decide_eq_true h]
      rfl
    · rw [h, Bool.not_false, Bool.or_true]
      rfl
  show s.takeTrigger i n true = _
  unfold State.takeTrigger
  split
  · rfl
  · exact if_pos idle

theorem Context.anyChannel_none {p : ChannelRecord → Bool} (hc : x.channels = some rs) (h : ∀ e, p (rs.get e) = false) : x.anyChannel p = false := by
  unfold Context.anyChannel
  rw [hc, Option.any_some, ← Bool.not_eq_true, Triple.any_iff]
  rintro ⟨e, he⟩
  rw [h e] at he
  cases he

/-- A good FINAL of a context that it triggers no allocation for (R99, R112). -/
theorem exec_acceptedFinal (ha : s.awaitsHead ⟨c.head, some c, retries⟩) (clean : s.LatchClean) (hp : c.payload = .final)
    (ho : c.owner = some (i, (s.ctx i).transaction)) (hu : (s.ctx i).state ≠ .free) (hc : (s.ctx i).channels = some rs)
    (settling : (rs.get c.channel).state = .settling)
    (good : (rs.get c.channel).extended ≤ count.toNat ∧ count.toNat < (rs.get c.channel).extended + 65536)
    (idle : (s.ctx i).state ≠ .delivering ∨ ∀ e, e ≠ c.channel → (rs.get e).state ∉ [ChannelState.opening, .flowing, .allocating]) :
    exec (.dispenserAccepted c.head count valve totalizer) s =
      .next (((s.finalTaken c totalizer).setCtx i { s.ctx i with
        channels := some (rs.set c.channel ((rs.get c.channel).finish count)) }).contextChanged i).arbitrate.1 := by
  have outcome := handle_acceptedFinal (u := s.finalTaken c totalizer) (totalizer := totalizer) (valve := valve) hp ho hu hc settling (count := count)
  rw [if_pos good] at outcome
  rw [exec_accepted ha, State.keepTotalizer_final hp]
  refine finish_then_arbitrate (n := 3) ((drain_step outcome).trans ((drain_quiet (handle_trigger_idle ?_ _)).trans (drain_step
    (handle_changed (x := { s.ctx i with channels := some (rs.set c.channel ((rs.get c.channel).finish count)) }) hu rfl))))
    (LatchClean.contextChanged (LatchClean.setCtx (LatchClean.finalTaken clean c totalizer) i _) i)
  rw [State.setCtx_ctx_self]
  refine idle.imp id fun others => Context.anyChannel_none rfl fun e => ?_
  by_cases he : e = c.channel
  · rw [he, Triple.get_set_self]
    rfl
  · rw [Triple.get_set_ne _ (Ne.symm he)]
    exact (sharing_iff _).mp (others e he)

/-! ### A lowering LIMIT -/

/-- The context once an accepted LIMIT has put its points in force and fixed its channel's count (R108, R114). -/
def Context.limited (x : Context) (rs : Triple ChannelRecord) (ch : Channel) (p : Points) (w : Lowering) (count : Nat) : Context :=
  { x with
    channels := some (rs.set ch { rs.get ch with points := some p })
    allocation := { x.allocation with lowering := x.allocation.lowering.set ch (some { w with fixed := some (max w.target.stop count) }) } }

/-- The outcome of an accepted lowering LIMIT (R114). -/
theorem handle_acceptedLimit {u : State} {p : Points} {w : Lowering} (hp : c.payload = .limit p true) (ho : c.owner = some (i, (u.ctx i).transaction))
    (hu : (u.ctx i).state ≠ .free) (hc : (u.ctx i).channels = some rs) (flows : (rs.get c.channel).state.isFlowing = true)
    (hw : (u.ctx i).allocation.lowering.get c.channel = some w) (unfixed : w.fixed = none) :
    handle (.outcome c (.accepted count totalizer valve)) u =
      (u.setCtx i ((u.ctx i).limited rs c.channel p w count.toNat), [.lowered i (u.ctx i).transaction]) := by
  rw [handle_limitOutcome hp accepted_ne, State.limitOutcome, State.activeRecord_of hu hc ho]
  dsimp only
  rw [State.limitAccepted, if_pos rfl]
  dsimp only
  rw [State.modChannel_eq hc, State.modCtx_setCtx, if_pos flows]
  refine congrArg (fun y => (u.setCtx i y, [Work.lowered i (u.ctx i).transaction])) ?_
  unfold Context.fixLowering Context.limited
  dsimp only
  rw [hw, Option.map_some, unfixed]
  rfl

theorem Triple.all_iff {α : Type} (p : α → Bool) (xs : Triple α) : xs.all p = true ↔ ∀ ch, p (xs.get ch) = true := by
  unfold Triple.all
  rw [Bool.and_eq_true, Bool.and_eq_true]
  refine ⟨fun h ch => ?_, fun h => ⟨⟨h .a, h .b⟩, h .c⟩⟩
  obtain ⟨⟨ha, hb⟩, hc⟩ := h
  cases ch
  · exact ha
  · exact hb
  · exact hc

theorem Allocation.allFixed_iff (a : Allocation) : a.allFixed = true ↔ ∀ d v, a.lowering.get d = some v → v.fixed.isSome = true := by
  unfold Allocation.allFixed
  rw [Triple.all_iff]
  refine forall_congr' fun d => ?_
  cases a.lowering.get d <;> simp

end Sys2Proof.Machine
end

section
/-! Allocations (O43): phase 1 begun by a DONE channel, and phase 2 once every lowering channel has its count. -/

namespace Sys2Proof.Machine

open Sys2Proof

variable {s t : State} {i : ContextId} {l : LaneId} {rs : Triple ChannelRecord} {c k : Command} {x : Context} {d : DispenserUnit} {r : EventUnit}
  {count totalizer : BitVec 32} {valve : Valve} {retries : Nat} {e : Channel} {z : ChannelSetup}

/-! ### Commands queued on a view that changes no lane -/

theorem State.view_headLocked_same (h : s.Sees i l x (s.lane l)) {k : HeadId} (hk : ∀ q ∈ s.servedBy k, (s.lane q.1).state ≠ .locked) :
    (s.view i l x (s.lane l) d r).headLocked k = false := by
  refine Bool.eq_false_iff.mpr fun locked => ?_
  obtain ⟨q, hq, hl⟩ := (State.headLocked_iff _ _).mp locked
  rw [State.view_servedBy h] at hq
  have same : (s.view i l x (s.lane l) d r).lane q.1 = s.lane q.1 := by
    by_cases hm : q.1 = l
    · rw [hm, State.view_lane]
    · rw [State.view_lane_ne s hm]
  rw [same] at hl
  exact hk q hq hl

/-- A command other than a CLOSE that replaces none joins at the end. -/
theorem joinList_last {cs : List Command} (hk : k.isClose = false) (h : ∀ e ∈ cs, k.sameKind e = false) :
    joinList cs k = cs ++ [k] ∧ joinWithdrawn cs k = [] := by
  have none : ¬ cs.any k.sameKind = true := by
    rw [Bool.not_eq_true, List.any_eq_false]
    exact fun e he => by rw [h e he]; exact Bool.false_ne_true
  have other : ¬ k.isClose = true := by rw [hk]; exact Bool.false_ne_true
  rw [joinList, joinWithdrawn, if_neg none, if_neg other, if_neg none, if_neg other]
  exact ⟨rfl, rfl⟩

theorem State.join_end (hk : k.isClose = false) (h : ∀ e ∈ (s.head k.head).commands, k.sameKind e = false) :
    s.join k = (s.setCommands k.head ((s.head k.head).commands ++ [k]), []) := by
  obtain ⟨list, withdrawn⟩ := joinList_last hk h
  unfold State.join
  dsimp only
  rw [list, withdrawn]
  rfl

theorem DispenserUnit.withList_commands (d : DispenserUnit) (h : HeadId) (cs : List Command) : ((d.withList h cs).heads.get h).commands = cs :=
  congrArg Head.commands (Tab.get_set_self _ _ _)

theorem DispenserUnit.withList_withList (d : DispenserUnit) (h : HeadId) (cs ds : List Command) :
    (d.withList h cs).withList h ds = d.withList h ds := by
  unfold DispenserUnit.withList
  simp only [Tab.get_set_self, Tab.set_set]

theorem State.view_withList {y : Lane} (s : State) (h : HeadId) (cs : List Command) :
    (s.view i l x y d r).setCommands h cs = s.view i l x y (d.withList h cs) r := rfl

/-- A LIMIT queued for an ONLINE head that serves no LOCKED lane. -/
theorem State.view_queue_limit (h : s.Sees i l x (s.lane l)) {p : Points} {lowers : Bool} (hk : k.payload = .limit p lowers)
    (on : (d.heads.get k.head).online = true) (free : ∀ q ∈ s.servedBy k.head, (s.lane q.1).state ≠ .locked)
    (fresh : ∀ e ∈ (d.heads.get k.head).commands, ¬(e.lane = k.lane ∧ e.channel = k.channel)) :
    handle (.queue k) (s.view i l x (s.lane l) d r) =
      (s.view i l x (s.lane l) (d.withList k.head ((d.heads.get k.head).commands ++ [k])) r, []) := by
  have opening : k.opening = false := by rw [Command.opening, hk]
  have isClose : k.isClose = false := by
    rw [Command.isClose, hk]
    rfl
  rw [State.handle_queue (s := s.view i l x (s.lane l) d r) (k := k) on (State.view_headLocked_same h free) (by rw [opening, Bool.and_false])
    (fun p hp => by rw [hk] at hp; cases hp), State.join_end (s := s.view i l x (s.lane l) d r) isClose
    (fun e he => Command.sameKind_of_channel (fresh e he))]
  rfl

/-- A RELEASE as its head's list takes it, split for a head that takes single frames (R90). -/
def releaseEntries (k : Command) (p : Points) (single : Bool) : List Command :=
  if single = true then [{ k with payload := .limit p false }, { k with payload := .openValve }] else [k]

/-- A RELEASE queued for an ONLINE head that serves no LOCKED lane, the latch clear. -/
theorem State.view_queue_release (h : s.Sees i l x (s.lane l)) {p : Points} (hk : k.payload = .release p) (latch : s.rd.latch = false)
    (on : (d.heads.get k.head).online = true) (free : ∀ q ∈ s.servedBy k.head, (s.lane q.1).state ≠ .locked)
    (fresh : ∀ e ∈ (d.heads.get k.head).commands, ¬(e.lane = k.lane ∧ e.channel = k.channel)) :
    handle (.queue k) (s.view i l x (s.lane l) d r) =
      (s.view i l x (s.lane l) (d.withList k.head
        ((d.heads.get k.head).commands ++ releaseEntries k p (d.heads.get k.head).singleFrame)) r, []) := by
  have unlocked : (s.view i l x (s.lane l) d r).headLocked k.head = false := State.view_headLocked_same h free
  have fresh' : ∀ e ∈ (d.heads.get k.head).commands, ∀ j : Command, j.lane = k.lane → j.channel = k.channel → j.sameKind e = false :=
    fun e he j hl hc => Command.sameKind_of_channel (by rw [hl, hc]; exact fresh e he)
  by_cases single : (d.heads.get k.head).singleFrame = true
  · have first : (s.view i l x (s.lane l) d r).join (k.splitLimit p) =
        (s.view i l x (s.lane l) (d.withList k.head ((d.heads.get k.head).commands ++ [k.splitLimit p])) r, []) := by
      rw [State.join_end (s := s.view i l x (s.lane l) d r) (k := k.splitLimit p) rfl (fun e he => fresh' e he _ rfl rfl)]
      rfl
    have list := d.withList_commands k.head ((d.heads.get k.head).commands ++ [k.splitLimit p])
    have second := State.join_end (s := s.view i l x (s.lane l) (d.withList k.head ((d.heads.get k.head).commands ++ [k.splitLimit p])) r)
      (k := k.splitOpen) rfl (fun e he => by
        have listed : e ∈ (d.heads.get k.head).commands ++ [k.splitLimit p] := list ▸ he
        rcases List.mem_append.mp listed with old | new
        · exact fresh' e old _ rfl rfl
        · rw [List.mem_singleton.mp new]
          simp [Command.sameKind, Command.splitOpen, Command.splitLimit, Payload.kind])
    rw [State.handle_queue_split (s := s.view i l x (s.lane l) d r) on unlocked latch hk single, first, releaseEntries, if_pos single]
    refine second.trans (congrArg (·, []) ?_)
    have same : ((s.view i l x (s.lane l) (d.withList k.head ((d.heads.get k.head).commands ++ [k.splitLimit p])) r).head k.splitOpen.head).commands =
        (d.heads.get k.head).commands ++ [k.splitLimit p] := list
    rw [same, State.view_withList, List.append_assoc]
    exact congrArg (fun y => s.view i l x (s.lane l) y r) (d.withList_withList k.head _ _)
  · have bundled : (d.heads.get k.head).singleFrame = false := Bool.eq_false_iff.mpr single
    have isClose : k.isClose = false := by
      rw [Command.isClose, hk]
      rfl
    rw [State.handle_queue (s := s.view i l x (s.lane l) d r) (k := k) on unlocked
      (by rw [show (s.view i l x (s.lane l) d r).rd.latch = false from latch, Bool.false_and]) (fun _ _ => bundled),
      State.join_end (s := s.view i l x (s.lane l) d r) isClose (fun e he => fresh' e he k rfl rfl), releaseEntries, if_neg single]
    rfl

/-! ### Phase 2 -/

variable {y : Lane}

/-- A context in phase 2 of its allocation (R115). -/
def Context.raising (x : Context) : Context := { x with allocation := { x.allocation with phase := .raising } }

/-- Phase 1's test where a lowering channel still waits for its count (R114). -/
theorem State.view_lowered_waits (h : x.allocation.allFixed = false) (n : Nat) :
    handle (.lowered i n) (s.view i l x y d r) = (s.view i l x y d r, []) := by
  refine if_neg ?_
  rw [State.view_ctx, h, Bool.and_false]
  exact Bool.false_ne_true

/-- Phase 2 begun (R114, R115). -/
theorem State.view_lowered (hu : x.inUse = true) (phase : x.allocation.phase = .lowering) (fixed : x.allocation.allFixed = true) :
    handle (.lowered i x.transaction) (s.view i l x y d r) = (s.view i l x.raising y d r,
      (Channel.letters.map fun ch => Work.raise i x.transaction ch ((x.phaseTwo s.productClass s.slowVolume).get ch)) ++
        [.allocated i x.transaction]) := by
  have begins : ((s.view i l x y d r).holds i x.transaction && decide (((s.view i l x y d r).ctx i).allocation.phase = .lowering) &&
      ((s.view i l x y d r).ctx i).allocation.allFixed) = true := by
    rw [State.view_holds hu, State.view_ctx, phase, fixed]
    rfl
  show (s.view i l x y d r).testLowered i x.transaction = _
  unfold State.testLowered
  rw [if_pos begins, State.view_modCtx, State.view_ctx]
  rfl

/-- A context in phase 2 raises its channels. -/
theorem State.view_raises (hu : x.inUse = true) (phase : x.allocation.phase = .raising) :
    ((s.view i l x y d r).holds i x.transaction && decide (((s.view i l x y d r).ctx i).allocation.phase = .raising)) = true := by
  rw [State.view_holds hu, State.view_ctx, phase]
  rfl

/-- A flowing channel whose points phase 2 raises (R115). -/
theorem State.view_raise_flowing (hu : x.inUse = true) (phase : x.allocation.phase = .raising) (hc : x.channels = some rs) {ch : Channel} {sh : Share}
    (flows : (rs.get ch).state.isFlowing = true) (more : (rs.get ch).stopInForce < sh.points.stop) :
    handle (.raise i x.transaction ch (some sh)) (s.view i l x y d r) =
      (s.view i l { x with channels := some (rs.set ch { rs.get ch with points := some sh.points }) } y d r,
        (s.view i l x y d r).queueFor i ch (.limit sh.points false)) := by
  show (s.view i l x y d r).raiseChannel i x.transaction ch (some sh) = _
  unfold State.raiseChannel
  rw [if_pos (State.view_raises hu phase)]
  dsimp only
  rw [State.view_records hc, if_pos flows, if_pos more, State.withChannel, State.view_modChannel, Context.modChannel_eq hc]

/-- A joining channel that phase 2 gives something opens (R115). -/
theorem State.view_raise_joins (hu : x.inUse = true) (phase : x.allocation.phase = .raising) (hc : x.channels = some rs) {ch : Channel} {sh : Share}
    (joins : (rs.get ch).state = .allocating) (some' : 0 < sh.volume) :
    handle (.raise i x.transaction ch (some sh)) (s.view i l x y d r) =
      (s.view i l { x with channels := some (rs.set ch { rs.get ch with state := .opening, points := some sh.points }) } y d r,
        (s.view i l x y d r).queueFor i ch (.release sh.points)) := by
  show (s.view i l x y d r).raiseChannel i x.transaction ch (some sh) = _
  unfold State.raiseChannel
  rw [if_pos (State.view_raises hu phase)]
  dsimp only
  rw [State.view_records hc, if_neg (by rw [joins]; decide), if_pos joins, if_pos some', State.withChannel, State.view_modChannel,
    Context.modChannel_eq hc]

/-- A channel that phase 2 gives nothing, or leaves as it is (R115). -/
theorem State.view_raise_idle (hu : x.inUse = true) (phase : x.allocation.phase = .raising) (hc : x.channels = some rs) {ch : Channel}
    {share : Option Share} (h : share = none ∨ ((rs.get ch).state.isFlowing || decide ((rs.get ch).state = .allocating)) = false ∨
      (rs.get ch).state.isFlowing = true ∧ ∀ sh, share = some sh → sh.points.stop ≤ (rs.get ch).stopInForce) :
    handle (.raise i x.transaction ch share) (s.view i l x y d r) = (s.view i l x y d r, []) := by
  cases share with
  | none =>
    show (s.view i l x y d r).raiseChannel i x.transaction ch none = _
    unfold State.raiseChannel
    split <;> rfl
  | some sh =>
    show (s.view i l x y d r).raiseChannel i x.transaction ch (some sh) = _
    unfold State.raiseChannel
    rw [if_pos (State.view_raises hu phase)]
    dsimp only
    rw [State.view_records hc]
    rcases h with h | h | ⟨flows, kept⟩
    · cases h
    · obtain ⟨flows, joins⟩ := Bool.or_eq_false_iff.mp h
      rw [if_neg (by rw [flows]; exact Bool.false_ne_true), if_neg (of_decide_eq_false joins)]
    · rw [if_pos flows, if_neg (Nat.not_lt.mpr (kept sh rfl))]

/-- The end of phase 2 with no other allocation wanted (R112). -/
theorem State.view_allocated (hu : x.inUse = true) (phase : x.allocation.phase = .raising) (h : x.allocation.resplit = false) :
    handle (.allocated i x.transaction) (s.view i l x y d r) = (s.view i l x.abandon y d r, []) := by
  show (s.view i l x y d r).endAllocation i x.transaction = _
  unfold State.endAllocation
  rw [if_pos (State.view_raises hu phase)]
  dsimp only
  rw [State.view_modCtx, State.view_ctx, h, if_neg Bool.false_ne_true]

/-- The whole of phase 2 where only one channel is given anything: its own work takes `m` pieces (R114, R115). -/
theorem drain_phaseTwo {n m : Nat} {ws : List Work} {x' : Context} {d' : DispenserUnit} {rs' : Triple ChannelRecord} (hu : x.inUse = true)
    (phase : x.allocation.phase = .lowering) (fixed : x.allocation.allFixed = true) (hc : x.channels = some rs) (hu' : x'.inUse = true)
    (phase' : x'.allocation.phase = .raising) (hr' : x'.allocation.resplit = false) (hn : x'.transaction = x.transaction)
    (hc' : x'.channels = some rs') (same : ∀ f, f ≠ e → rs'.get f = rs.get f)
    (idle : ∀ f, f ≠ e → (x.phaseTwo s.productClass s.slowVolume).get f = none ∨
      ((rs.get f).state.isFlowing || decide ((rs.get f).state = .allocating)) = false)
    (raise : ∀ n ws, drain (n + m) (.raise i x.transaction e ((x.phaseTwo s.productClass s.slowVolume).get e) :: ws) (s.view i l x.raising y d r) =
      drain n ws (s.view i l x' y d' r)) :
    drain (n + m + 4) (.lowered i x.transaction :: ws) (s.view i l x y d r) = drain n ws (s.view i l x'.abandon y d' r) := by
  have before : ∀ f, f ≠ e → handle (.raise i x.transaction f ((x.phaseTwo s.productClass s.slowVolume).get f)) (s.view i l x.raising y d r) =
      (s.view i l x.raising y d r, []) := fun f hf =>
    State.view_raise_idle (x := x.raising) hu rfl hc ((idle f hf).imp id .inl)
  have after : ∀ f, f ≠ e → handle (.raise i x.transaction f ((x.phaseTwo s.productClass s.slowVolume).get f)) (s.view i l x' y d' r) =
      (s.view i l x' y d' r, []) := fun f hf => by
    rw [← hn]
    refine State.view_raise_idle hu' phase' hc' ?_
    rw [same f hf]
    exact (idle f hf).imp id .inl
  have ends : drain (n + 1) (.allocated i x.transaction :: ws) (s.view i l x' y d' r) = drain n ws (s.view i l x'.abandon y d' r) := by
    rw [← hn]
    exact drain_quiet (State.view_allocated hu' phase' hr')
  rw [show n + m + 4 = n + m + 3 + 1 from rfl, drain_step (State.view_lowered hu phase fixed)]
  generalize x.phaseTwo s.productClass s.slowVolume = shares at before after raise ⊢
  cases e
  · show drain _ (.raise i x.transaction .a (shares.get .a) :: .raise i x.transaction .b (shares.get .b) :: .raise i x.transaction .c (shares.get .c) ::
      .allocated i x.transaction :: ws) _ = _
    rw [show n + m + 3 = n + 3 + m by omega, raise, drain_quiet (after .b (by decide)), drain_quiet (after .c (by decide)), ends]
  · show drain _ (.raise i x.transaction .a (shares.get .a) :: .raise i x.transaction .b (shares.get .b) :: .raise i x.transaction .c (shares.get .c) ::
      .allocated i x.transaction :: ws) _ = _
    rw [drain_quiet (before .a (by decide)), show n + m + 2 = n + 2 + m by omega, raise, drain_quiet (after .c (by decide)), ends]
  · show drain _ (.raise i x.transaction .a (shares.get .a) :: .raise i x.transaction .b (shares.get .b) :: .raise i x.transaction .c (shares.get .c) ::
      .allocated i x.transaction :: ws) _ = _
    rw [drain_quiet (before .a (by decide)), drain_quiet (before .b (by decide)), show n + m + 1 = n + 1 + m by omega, raise, ends]

/-! ### Contexts, lists and lanes of a view put back -/

theorem State.setCtx_view (s : State) (i : ContextId) (l : LaneId) (x : Context) (d : DispenserUnit) :
    ({ s with dlu := d } : State).setCtx i x = s.view i l x (s.lane l) d s.reu := by
  have lanes : s.dcu.lanes.set l (s.lane l) = s.dcu.lanes := Tab.set_get _ _
  simp only [State.view, lanes]
  rfl

theorem State.setHead_view (s : State) (i : ContextId) (l : LaneId) (x : Context) (d : DispenserUnit) (h : HeadId) (cs : List Command) :
    (({ s with dlu := d } : State).setCtx i x).setHead h { d.heads.get h with commands := cs } =
      s.view i l x (s.lane l) (d.withList h cs) s.reu := by
  rw [State.setCtx_view s i l]
  rfl

theorem State.Sees.of_records {qs : Triple ChannelRecord} (hc : (s.ctx i).channels = some rs) (hq : x.channels = some qs)
    (setups : ∀ ch, (qs.get ch).setup = (rs.get ch).setup) (inUse : x.inUse = (s.ctx i).inUse) (lane : x.lane = (s.ctx i).lane)
    (transaction : x.transaction = (s.ctx i).transaction) (offered : decide (x.state = .offered) = decide ((s.ctx i).state = .offered)) :
    s.Sees i l x (s.lane l) := by
  refine ⟨inUse, lane, transaction, ?_, offered, rfl⟩
  have maps : qs.map (·.setup) = rs.map (·.setup) := by
    have ha : qs.a.setup = rs.a.setup := setups .a
    have hb : qs.b.setup = rs.b.setup := setups .b
    have hc : qs.c.setup = rs.c.setup := setups .c
    simp only [Triple.map, ha, hb, hc]
  rw [hq, hc, Option.map_some, Option.map_some, maps]

theorem Triple.set_setup {q : ChannelRecord} {ch : Channel} (hq : q.setup = (rs.get ch).setup) (f : Channel) :
    ((rs.set ch q).get f).setup = (rs.get f).setup := by
  by_cases hf : f = ch
  · rw [hf, Triple.get_set_self, hq]
  · rw [Triple.get_set_ne _ (Ne.symm hf)]

/-- What the end of an exchange leaves of the heads. -/
theorem State.exchangeDone_reads (s : State) (h k : HeadId) :
    ((s.exchangeDone h).head k).commands = (s.head k).commands ∧ ((s.exchangeDone h).head k).online = (s.head k).online ∧
      ((s.exchangeDone h).head k).singleFrame = (s.head k).singleFrame := by
  by_cases hk : k = h
  · subst hk
    have read : (s.exchangeDone k).head k = { s.head k with failures := 0 } := Tab.get_set_self _ _ _
    rw [read]
    exact ⟨rfl, rfl, rfl⟩
  · have read : (s.exchangeDone h).head k = s.head k := Tab.get_set_ne _ (Ne.symm hk) _
    rw [read]
    exact ⟨rfl, rfl, rfl⟩

/-! ### An accepted lowering LIMIT -/

/-- The lowering LIMIT of a channel is accepted while another still waits (R114). -/
theorem exec_acceptedLimit_waits {p : Points} {w : Lowering} (ha : s.awaitsHead ⟨c.head, some c, retries⟩) (clean : s.LatchClean)
    (ho : c.owner = some (i, (s.ctx i).transaction)) (hu : (s.ctx i).state ≠ .free) (hc : (s.ctx i).channels = some rs)
    (hp : c.payload = .limit p true) (flows : (rs.get c.channel).state.isFlowing = true)
    (hw : (s.ctx i).allocation.lowering.get c.channel = some w) (unfixed : w.fixed = none)
    (waits : ∃ e v, e ≠ c.channel ∧ (s.ctx i).allocation.lowering.get e = some v ∧ v.fixed = none) :
    exec (.dispenserAccepted c.head count valve totalizer) s =
      .next ((s.exchangeDone c.head).setCtx i ((s.ctx i).limited rs c.channel p w count.toNat)).arbitrate.1 := by
  rw [exec_accepted ha, State.keepTotalizer_other (by rw [hp]; exact nofun)]
  have outcome := handle_acceptedLimit (u := s.exchangeDone c.head) (totalizer := totalizer) (valve := valve) (count := count) hp ho hu hc flows hw unfixed
  refine finish_then_arbitrate (n := 2) ((drain_step outcome).trans (drain_quiet ?_)) (LatchClean.setCtx (LatchClean.exchangeDone clean c.head) i _)
  have self : (s.exchangeDone c.head).setCtx i ((s.ctx i).limited rs c.channel p w count.toNat) =
      s.view i c.lane ((s.ctx i).limited rs c.channel p w count.toNat) (s.lane c.lane) (s.exchangeDone c.head).dlu s.reu :=
    State.setCtx_view s i c.lane _ _
  refine (congrArg (handle _) self).trans (Eq.trans ?_ (congrArg (·, []) self.symm))
  refine State.view_lowered_waits (Bool.eq_false_iff.mpr fun all => ?_) _
  obtain ⟨e, v, he, hv, hn⟩ := waits
  have other : ((s.ctx i).allocation.lowering.set c.channel (some { w with fixed := some (max w.target.stop count.toNat) })).get e = some v := by
    rw [Triple.get_set_ne _ (Ne.symm he)]
    exact hv
  have := (Allocation.allFixed_iff _).mp all e v other
  rw [hn] at this
  cases this

/-- The last lowering LIMIT accepted: phase 2 opens the one channel that joins (R114, R115). -/
theorem exec_acceptedLimit_joins {p : Points} {w : Lowering} {sh : Share} (ha : s.awaitsHead ⟨c.head, some c, retries⟩)
    (ho : c.owner = some (i, (s.ctx i).transaction)) (hu : (s.ctx i).state ≠ .free) (hc : (s.ctx i).channels = some rs)
    (hp : c.payload = .limit p true) (flows : (rs.get c.channel).state.isFlowing = true) (phase : (s.ctx i).allocation.phase = .lowering)
    (hw : (s.ctx i).allocation.lowering.get c.channel = some w) (unfixed : w.fixed = none)
    (all : ∀ d v, d ≠ c.channel → (s.ctx i).allocation.lowering.get d = some v → v.fixed ≠ none) (resplit : (s.ctx i).allocation.resplit = false)
    (latch : s.rd.latch = false) (lane : (s.ctx i).lane = some l) (joins : (rs.get e).state = .allocating) (hz : (rs.get e).setup = some z)
    (share : (((s.ctx i).limited rs c.channel p w count.toNat).phaseTwo s.productClass s.slowVolume).get e = some sh) (some' : 0 < sh.volume)
    (others : ∀ d, d ≠ e → (((s.ctx i).limited rs c.channel p w count.toNat).phaseTwo s.productClass s.slowVolume).get d = none)
    (on : (s.head z.head).online = true) (free : ∀ q ∈ s.servedBy z.head, (s.lane q.1).state ≠ .locked)
    (fresh : ∀ d ∈ (s.head z.head).commands, ¬(d.lane = l ∧ d.channel = e)) :
    exec (.dispenserAccepted c.head count valve totalizer) s =
      .next (((s.exchangeDone c.head).setCtx i { (s.ctx i).limited rs c.channel p w count.toNat with
        channels := some ((rs.set c.channel { rs.get c.channel with points := some p }).set e
          { rs.get e with state := .opening, points := some sh.points })
        allocation := .clear }).setHead z.head { (s.exchangeDone c.head).head z.head with
          commands := ((s.exchangeDone c.head).head z.head).commands ++
            releaseEntries ⟨z.head, z.headChannel, l, e, some (i, (s.ctx i).transaction), .release sh.points⟩ sh.points (s.head z.head).singleFrame
        }).arbitrate.1 := by
  have apart : e ≠ c.channel := fun h => by
    rw [← h, joins] at flows
    cases flows
  have inUse : (s.ctx i).inUse = true := decide_eq_true hu
  obtain ⟨commands, online, single⟩ := s.exchangeDone_reads c.head z.head
  have getE : (rs.set c.channel { rs.get c.channel with points := some p }).get e = rs.get e := Triple.get_set_ne _ (Ne.symm apart) _
  have fixed : ((s.ctx i).limited rs c.channel p w count.toNat).allocation.allFixed = true := (Allocation.allFixed_iff _).mpr fun d v hd => by
    have lowering : ((s.ctx i).allocation.lowering.set c.channel (some { w with fixed := some (max w.target.stop count.toNat) })).get d = some v := hd
    by_cases hdc : d = c.channel
    · rw [hdc, Triple.get_set_self] at lowering
      rw [← Option.some.inj lowering]
      rfl
    · rw [Triple.get_set_ne _ (Ne.symm hdc)] at lowering
      exact Option.isSome_iff_ne_none.mpr (all d v hdc lowering)
  let opened : Triple ChannelRecord := (rs.set c.channel { rs.get c.channel with points := some p }).set e
    { rs.get e with state := .opening, points := some sh.points }
  let x' : Context := { ((s.ctx i).limited rs c.channel p w count.toNat).raising with channels := some opened }
  let k : Command := ⟨z.head, z.headChannel, l, e, some (i, (s.ctx i).transaction), .release sh.points⟩
  have sees : s.Sees i l x' (s.lane l) := State.Sees.of_records hc rfl (fun ch =>
    (Triple.set_setup (rs := rs.set c.channel { rs.get c.channel with points := some p })
      (q := { rs.get e with state := .opening, points := some sh.points }) (by rw [getE]) ch).trans
      (Triple.set_setup (q := { rs.get c.channel with points := some p }) rfl ch)) rfl rfl rfl rfl
  have queueing : (s.view i l ((s.ctx i).limited rs c.channel p w count.toNat).raising (s.lane l) (s.exchangeDone c.head).dlu s.reu).queueFor i e
      (.release sh.points) = [.queue k] :=
    State.view_queueFor (c := ((s.ctx i).limited rs c.channel p w count.toNat).raising) lane rfl (by rw [getE]; exact hz) _
  have opens := State.view_raise_joins (s := s) (i := i) (l := l) (y := s.lane l) (d := (s.exchangeDone c.head).dlu) (r := s.reu)
    (x := ((s.ctx i).limited rs c.channel p w count.toNat).raising) inUse rfl (rs := rs.set c.channel { rs.get c.channel with points := some p }) rfl
    (ch := e) (sh := sh) (by rw [getE]; exact joins) some'
  rw [queueing, getE] at opens
  have queue := State.view_queue_release (d := (s.exchangeDone c.head).dlu) (r := s.reu) sees (k := k) rfl latch (online.trans on) free
    (fun d hd => fresh d (commands ▸ hd))
  have outcome := handle_acceptedLimit (u := s.exchangeDone c.head) (totalizer := totalizer) (valve := valve) (count := count) hp ho hu hc flows hw unfixed
  rw [exec_accepted ha, State.keepTotalizer_other (by rw [hp]; exact nofun)]
  refine finish_then_arbitrate (n := 7) ((drain_step outcome).trans ?_) (fun latched => absurd (latched.symm.trans latch) (by decide))
  have self : (s.exchangeDone c.head).setCtx i ((s.ctx i).limited rs c.channel p w count.toNat) =
      s.view i l ((s.ctx i).limited rs c.channel p w count.toNat) (s.lane l) (s.exchangeDone c.head).dlu s.reu :=
    State.setCtx_view s i l _ _
  refine (congrArg (drain _ _) self).trans ?_
  refine (drain_phaseTwo (n := 1) (m := 2) (e := e) (x := (s.ctx i).limited rs c.channel p w count.toNat) (x' := x') (rs' := opened)
    (d' := (s.exchangeDone c.head).dlu.withList z.head (((s.exchangeDone c.head).head z.head).commands ++
      releaseEntries k sh.points ((s.exchangeDone c.head).head z.head).singleFrame)) (rs := rs.set c.channel { rs.get c.channel with points := some p }) inUse phase fixed rfl inUse rfl resplit rfl rfl
    (fun f hf => Triple.get_set_ne _ (Ne.symm hf) _) (fun f hf => .inl (others f hf)) (fun n ws => ?_)).trans ?_
  · rw [share]
    exact (drain_step (n := n + 1) opens).trans (drain_step queue)
  · rw [← single]
    exact congrArg (drain _ _) (State.setHead_view s i l x'.abandon (s.exchangeDone c.head).dlu z.head _).symm

end Sys2Proof.Machine
end

section
/-! Allocations begun (O43): a trigger, the LIMIT of the one channel that is lowered, and phase 2 at once where none is. -/

namespace Sys2Proof.Machine

open Sys2Proof

variable {s t : State} {i : ContextId} {l : LaneId} {rs : Triple ChannelRecord} {c k : Command} {x : Context} {d : DispenserUnit} {r : EventUnit}
  {count totalizer : BitVec 32} {valve : Valve} {retries : Nat} {e : Channel} {z : ChannelSetup} {y : Lane}

/-! ### Triggers -/

/-- The allocation that a trigger begins (R112, R113). -/
def Context.begun (x : Context) (cls : Product → ProductClass) (slow : Nat) : Allocation :=
  { phase := .lowering, joining := x.records.map fun r => decide (r.state = .allocating),
    lowering := Triple.build fun ch => loweringOf (x.records.get ch) ((x.phaseOne cls slow).get ch), resplit := false }

/-- The trigger of an allocation where none is in flight (R112, R113). -/
theorem State.view_trigger (hu : x.inUse = true) (phase : x.allocation.phase = .none) {second : Bool}
    (go : second = false ∨ x.state = .delivering ∧ x.anyChannel (fun r => r.state.isFlowing || decide (r.state = .allocating)) = true) :
    handle (.trigger i x.transaction second) (s.view i l x y d r) =
      (s.view i l { x with allocation := x.begun s.productClass s.slowVolume } y d r,
        (Channel.letters.flatMap fun ch => ((x.begun s.productClass s.slowVolume).lowering.get ch).elim [] fun w =>
          (s.view i l { x with allocation := x.begun s.productClass s.slowVolume } y d r).queueFor i ch (.limit w.target true)) ++
          [.lowered i x.transaction]) := by
  have begins : (s.view i l x y d r).beginAllocation i x.transaction =
      (s.view i l { x with allocation := x.begun s.productClass s.slowVolume } y d r,
        (Channel.letters.flatMap fun ch => ((x.begun s.productClass s.slowVolume).lowering.get ch).elim [] fun w =>
          (s.view i l { x with allocation := x.begun s.productClass s.slowVolume } y d r).queueFor i ch (.limit w.target true)) ++
          [.lowered i x.transaction]) := by
    unfold State.beginAllocation
    dsimp only
    have classes : (s.view i l x y d r).productClass = s.productClass := rfl
    have slow : (s.view i l x y d r).slowVolume = s.slowVolume := rfl
    rw [State.view_modCtx, State.view_ctx, classes, slow]
    refine Prod.ext rfl (congrArg (· ++ [Work.lowered i x.transaction]) (List.flatMap_congr fun ch _ => ?_))
    unfold Context.begun
    dsimp only
    cases (Triple.build fun ch => loweringOf (x.records.get ch) ((x.phaseOne s.productClass s.slowVolume).get ch)).get ch <;> rfl
  have held : ¬ (!(s.view i l x y d r).holds i x.transaction) = true := by
    rw [State.view_holds hu]
    decide
  have taken : ¬ (second && (decide (x.state ≠ .delivering) || !x.anyChannel fun r => r.state.isFlowing || decide (r.state = .allocating))) = true := by
    rcases go with h | ⟨h1, h2⟩
    · rw [h, Bool.false_and]
      exact Bool.false_ne_true
    · rw [h1, h2]
      simp
  show (s.view i l x y d r).takeTrigger i x.transaction second = _
  unfold State.takeTrigger
  rw [if_neg held]
  dsimp only
  rw [State.view_ctx, if_neg taken, if_pos phase, begins]

/-- The lowering list of a context whose flowing channels are all its one channel `e`. -/
theorem Context.begun_lowering (hc : x.channels = some rs) (others : ∀ f, f ≠ e → (rs.get f).state.isFlowing = false)
    (cls : Product → ProductClass) (slow : Nat) :
    (x.begun cls slow).lowering = (Triple.fill none).set e (loweringOf (rs.get e) ((x.phaseOne cls slow).get e)) := by
  have none : ∀ f, f ≠ e → loweringOf (rs.get f) ((x.phaseOne cls slow).get f) = none := fun f hf => by
    unfold loweringOf
    split
    · rw [others f hf, Bool.false_and, if_neg Bool.false_ne_true]
    · rfl
  have records : x.records = rs := by rw [Context.records, hc]; rfl
  unfold Context.begun
  dsimp only
  rw [records]
  generalize loweringOf = low at none ⊢
  generalize (x.phaseOne cls slow) = shares at none ⊢
  cases e
  · exact congrArg₂ (fun b c => (⟨_, b, c⟩ : Triple (Option Lowering))) (none .b (by decide)) (none .c (by decide))
  · exact congrArg₂ (fun a c => (⟨a, _, c⟩ : Triple (Option Lowering))) (none .a (by decide)) (none .c (by decide))
  · exact congrArg₂ (fun a b => (⟨a, b, _⟩ : Triple (Option Lowering))) (none .a (by decide)) (none .b (by decide))

theorem loweringOf_lower {q : ChannelRecord} {sh : Share} (flows : q.state.isFlowing = true) (less : sh.points.stop < q.stopInForce) :
    loweringOf q (some sh) = some ⟨sh.points, none⟩ := by
  unfold loweringOf
  dsimp only
  rw [flows, decide_eq_true less]
  rfl

theorem loweringOf_keep {q : ChannelRecord} {share : Option Share} (h : ∀ sh, share = some sh → q.stopInForce ≤ sh.points.stop) :
    loweringOf q share = none := by
  cases share with
  | none => rfl
  | some sh =>
    unfold loweringOf
    dsimp only
    rw [decide_eq_false (Nat.not_lt.mpr (h sh rfl)), Bool.and_false]
    exact if_neg Bool.false_ne_true

/-- The allocation in which one flowing channel is lowered (R113). -/
def Allocation.lowerOne (rs : Triple ChannelRecord) (e : Channel) (p : Points) : Allocation :=
  ⟨.lowering, rs.map fun r => decide (r.state = .allocating), (Triple.fill none).set e (some ⟨p, none⟩), false⟩

/-- The allocation in which no channel is lowered (R113). -/
def Allocation.raiseOnly (rs : Triple ChannelRecord) : Allocation :=
  ⟨.lowering, rs.map fun r => decide (r.state = .allocating), .fill none, false⟩

/-- A trigger that lowers the one flowing channel: its LIMIT is queued, and the others wait (R113, R114). -/
theorem drain_trigger_lowers {n : Nat} {ws : List Work} {sh : Share} {second : Bool} (hu : x.inUse = true) (phase : x.allocation.phase = .none)
    (go : second = false ∨ x.state = .delivering ∧ x.anyChannel (fun r => r.state.isFlowing || decide (r.state = .allocating)) = true)
    (hc : x.channels = some rs) (hl : x.lane = some l) (hz : (rs.get e).setup = some z)
    (flows : (rs.get e).state.isFlowing = true) (others : ∀ f, f ≠ e → (rs.get f).state.isFlowing = false)
    (target : (x.phaseOne s.productClass s.slowVolume).get e = some sh) (less : sh.points.stop < (rs.get e).stopInForce)
    (sees : s.Sees i l x (s.lane l)) (on : (d.heads.get z.head).online = true) (free : ∀ q ∈ s.servedBy z.head, (s.lane q.1).state ≠ .locked)
    (fresh : ∀ f ∈ (d.heads.get z.head).commands, ¬(f.lane = l ∧ f.channel = e)) :
    drain (n + 3) (.trigger i x.transaction second :: ws) (s.view i l x (s.lane l) d r) =
      drain n ws (s.view i l { x with allocation := .lowerOne rs e sh.points } (s.lane l)
        (d.withList z.head ((d.heads.get z.head).commands ++ [⟨z.head, z.headChannel, l, e, some (i, x.transaction), .limit sh.points true⟩])) r) := by
  have records : x.records = rs := by rw [Context.records, hc]; rfl
  have lowering := Context.begun_lowering hc others s.productClass s.slowVolume
  rw [target, loweringOf_lower flows less] at lowering
  have begun : x.begun s.productClass s.slowVolume = .lowerOne rs e sh.points := by
    rw [Allocation.lowerOne, ← lowering, ← records]
    rfl
  have queueing : (s.view i l { x with allocation := .lowerOne rs e sh.points } (s.lane l) d r).queueFor i e (.limit sh.points true) =
      [.queue ⟨z.head, z.headChannel, l, e, some (i, x.transaction), .limit sh.points true⟩] :=
    State.view_queueFor (c := { x with allocation := .lowerOne rs e sh.points }) hl hc hz _
  have trigger := State.view_trigger (s := s) (i := i) (l := l) (y := s.lane l) (d := d) (r := r) hu phase go
  rw [begun] at trigger
  have work : (Channel.letters.flatMap fun ch => ((Allocation.lowerOne rs e sh.points).lowering.get ch).elim [] fun w =>
      (s.view i l { x with allocation := .lowerOne rs e sh.points } (s.lane l) d r).queueFor i ch (.limit w.target true)) =
        [.queue ⟨z.head, z.headChannel, l, e, some (i, x.transaction), .limit sh.points true⟩] := by
    rw [← queueing]
    cases e
    · exact List.append_nil _
    · exact List.append_nil _
    · exact List.append_nil _
  rw [work] at trigger
  have queue := State.view_queue_limit (d := d) (r := r) (k := ⟨z.head, z.headChannel, l, e, some (i, x.transaction), .limit sh.points true⟩)
    (x := { x with allocation := .lowerOne rs e sh.points }) ⟨sees.inUse, sees.lane, sees.transaction, sees.setups, sees.offered, sees.config⟩ rfl on free fresh
  have waits : (Allocation.lowerOne rs e sh.points).allFixed = false := Bool.eq_false_iff.mpr fun all => by
    have := (Allocation.allFixed_iff _).mp all e _ (Triple.get_set_self _ _ _)
    cases this
  rw [show n + 3 = n + 1 + 1 + 1 from rfl, drain_step trigger]
  refine (drain_step queue).trans (drain_quiet ?_)
  exact State.view_lowered_waits (x := { x with allocation := .lowerOne rs e sh.points }) waits _

/-- A trigger that lowers no channel: phase 2 follows at once (R113 to R115). -/
theorem drain_trigger_raises {n m : Nat} {ws : List Work} {x' : Context} {d' : DispenserUnit} {rs' : Triple ChannelRecord} {second : Bool}
    (hu : x.inUse = true) (phase : x.allocation.phase = .none)
    (go : second = false ∨ x.state = .delivering ∧ x.anyChannel (fun r => r.state.isFlowing || decide (r.state = .allocating)) = true)
    (hc : x.channels = some rs) (others : ∀ f, f ≠ e → (rs.get f).state.isFlowing = false)
    (keeps : loweringOf (rs.get e) ((x.phaseOne s.productClass s.slowVolume).get e) = none)
    (hu' : x'.inUse = true) (phase' : x'.allocation.phase = .raising) (hr' : x'.allocation.resplit = false) (hn : x'.transaction = x.transaction)
    {g : Channel} (hc' : x'.channels = some rs') (same : ∀ f, f ≠ g → rs'.get f = rs.get f)
    (idle : ∀ f, f ≠ g → (({ x with allocation := .raiseOnly rs } : Context).phaseTwo s.productClass s.slowVolume).get f = none ∨
      ((rs.get f).state.isFlowing || decide ((rs.get f).state = .allocating)) = false)
    (raise : ∀ n ws, drain (n + m) (.raise i x.transaction g ((({ x with allocation := .raiseOnly rs } : Context).phaseTwo s.productClass
        s.slowVolume).get g) :: ws) (s.view i l ({ x with allocation := .raiseOnly rs } : Context).raising y d r) =
      drain n ws (s.view i l x' y d' r)) :
    drain (n + m + 5) (.trigger i x.transaction second :: ws) (s.view i l x y d r) = drain n ws (s.view i l x'.abandon y d' r) := by
  have records : x.records = rs := by rw [Context.records, hc]; rfl
  have lowering := Context.begun_lowering hc others s.productClass s.slowVolume
  have empty : (Triple.fill (none : Option Lowering)).set e none = .fill none := by cases e <;> rfl
  rw [keeps, empty] at lowering
  have begun : x.begun s.productClass s.slowVolume = .raiseOnly rs := by
    rw [Allocation.raiseOnly, ← lowering, ← records]
    rfl
  have trigger := State.view_trigger (s := s) (i := i) (l := l) (y := y) (d := d) (r := r) hu phase go
  rw [begun] at trigger
  have fixed : (Allocation.raiseOnly rs).allFixed = true := rfl
  rw [show n + m + 5 = n + m + 4 + 1 from rfl, drain_step trigger]
  exact drain_phaseTwo (x := { x with allocation := .raiseOnly rs }) hu rfl fixed hc hu' phase' hr' hn hc' same idle raise

/-- A change of a DELIVERING or STOPPING context with a channel in progress (R19, R21). -/
theorem State.view_changed_going (hu : x.inUse = true) (hs : x.state = .delivering ∨ x.state = .stopping) (hp : x.anyInProgress = true) :
    handle (.changed i x.transaction) (s.view i l x y d r) = (s.view i l x y d r, []) := by
  rw [State.view_changed hu, State.contextChanged_stays]
  · rw [State.view_ctx]
    exact hs
  · rw [State.view_ctx]
    exact hp

/-! ### A FINAL that triggers an allocation -/

theorem State.finalTaken_reads (s : State) (c : Command) (totalizer : BitVec 32) (k : HeadId) :
    ((s.finalTaken c totalizer).head k).commands = (s.head k).commands ∧ ((s.finalTaken c totalizer).head k).online = (s.head k).online := by
  by_cases hk : k = c.head
  · subst hk
    have read : (s.finalTaken c totalizer).head c.head = { s.head c.head with
      failures := 0, totalizer := (s.head c.head).totalizer.set c.headChannel (some totalizer.toNat) } := Tab.get_set_self _ _ _
    rw [read]
    exact ⟨rfl, rfl⟩
  · obtain ⟨commands, online, -⟩ := s.exchangeDone_reads c.head k
    have read : (s.finalTaken c totalizer).head k = (s.exchangeDone c.head).head k := Tab.get_set_ne _ (Ne.symm hk) _
    rw [read]
    exact ⟨commands, online⟩

/-- Setting a head's list to entries that stood there, and others that open nothing. -/
theorem LatchClean.setHead (clean : s.LatchClean) {h : HeadId} {y : Head} (hy : ∀ e ∈ y.commands, e ∈ (s.head h).commands ∨ e.opening = false) :
    (s.setHead h y).LatchClean := by
  refine LatchClean.of_lists clean rfl fun j e he => ?_
  by_cases hj : j = h
  · subst hj
    have read : (s.setHead j y).head j = y := Tab.get_set_self _ _ _
    rw [read] at he
    exact hy e he
  · have read : (s.setHead h y).head j = s.head j := Tab.get_set_ne _ (Ne.symm hj) _
    rw [read] at he
    exact .inl he

theorem mem_append_one {cs : List Command} {k e : Command} (hk : k.opening = false) (he : e ∈ cs ++ [k]) : e ∈ cs ∨ e.opening = false := by
  rcases List.mem_append.mp he with old | new
  · exact .inl old
  · rw [List.mem_singleton.mp new]
    exact .inr hk

/-- A context whose channel a FINAL has made DONE (R121). -/
def Context.finished (x : Context) (rs : Triple ChannelRecord) (ch : Channel) (count : BitVec 32) : Context :=
  { x with channels := some (rs.set ch ((rs.get ch).finish count)) }

/-- A good FINAL with one other channel that shares, FLOWING: trigger 2 (R112 to R115). -/
theorem exec_acceptedFinal_allocates (ha : s.awaitsHead ⟨c.head, some c, retries⟩) (clean : s.LatchClean) (hp : c.payload = .final)
    (ho : c.owner = some (i, (s.ctx i).transaction)) (hc : (s.ctx i).channels = some rs) (settling : (rs.get c.channel).state = .settling)
    (good : (rs.get c.channel).extended ≤ count.toNat ∧ count.toNat < (rs.get c.channel).extended + 65536)
    (state : (s.ctx i).state = .delivering) (clear : (s.ctx i).allocation = .clear) (lane : (s.ctx i).lane = some l) (apart : e ≠ c.channel)
    (flowing : (rs.get e).state = .flowing) (hz : (rs.get e).setup = some z)
    (rest : ∀ d, d ≠ c.channel → d ≠ e → (rs.get d).state ∉ [ChannelState.opening, .flowing, .allocating])
    (on : (s.head z.head).online = true) (free : ∀ q ∈ s.servedBy z.head, (s.lane q.1).state ≠ .locked)
    (fresh : ∀ d ∈ (s.head z.head).commands, ¬(d.lane = l ∧ d.channel = e)) {v : State} (hv : v = (s.finalTaken c totalizer).setCtx i
      ((s.ctx i).finished rs c.channel count)) :
    (∀ sh, (((s.ctx i).finished rs c.channel count).phaseOne s.productClass s.slowVolume).get e = some sh →
      sh.points.stop < (rs.get e).stopInForce →
      exec (.dispenserAccepted c.head count valve totalizer) s = .next (((v.setCtx i { (s.ctx i).finished rs c.channel count with
        allocation := ⟨.lowering, .fill false, (Triple.fill none).set e (some ⟨sh.points, none⟩), false⟩ }).setHead z.head { v.head z.head with
          commands := (v.head z.head).commands ++
            [⟨z.head, z.headChannel, l, e, some (i, (s.ctx i).transaction), .limit sh.points true⟩] }).arbitrate.1)) ∧
    ((∀ sh, (((s.ctx i).finished rs c.channel count).phaseOne s.productClass s.slowVolume).get e = some sh →
        (rs.get e).stopInForce ≤ sh.points.stop) →
      (∀ sh, (({ (s.ctx i).finished rs c.channel count with allocation := ⟨.lowering, .fill false, .fill none, false⟩ } : Context).phaseTwo
          s.productClass s.slowVolume).get e = some sh → (rs.get e).stopInForce < sh.points.stop →
        exec (.dispenserAccepted c.head count valve totalizer) s = .next ((v.setCtx i { (s.ctx i).finished rs c.channel count with
          channels := some ((rs.set c.channel ((rs.get c.channel).finish count)).set e { rs.get e with points := some sh.points }) }).setHead
            z.head { v.head z.head with commands := (v.head z.head).commands ++
              [⟨z.head, z.headChannel, l, e, some (i, (s.ctx i).transaction), .limit sh.points false⟩] }).arbitrate.1) ∧
      ((∀ sh, (({ (s.ctx i).finished rs c.channel count with allocation := ⟨.lowering, .fill false, .fill none, false⟩ } : Context).phaseTwo
          s.productClass s.slowVolume).get e = some sh → sh.points.stop ≤ (rs.get e).stopInForce) →
        exec (.dispenserAccepted c.head count valve totalizer) s = .next v.arbitrate.1)) := by
  let qs : Triple ChannelRecord := rs.set c.channel ((rs.get c.channel).finish count)
  let x : Context := (s.ctx i).finished rs c.channel count
  let u : State := s.finalTaken c totalizer
  have hu : (s.ctx i).state ≠ .free := by rw [state]; decide
  have inUse : x.inUse = true := decide_eq_true hu
  obtain ⟨commands, online⟩ := s.finalTaken_reads c totalizer z.head
  have getE : qs.get e = rs.get e := Triple.get_set_ne _ (Ne.symm apart) _
  have idle : ∀ f, f ≠ e → ((qs.get f).state.isFlowing || decide ((qs.get f).state = .allocating)) = false := fun f hf => by
    by_cases hfc : f = c.channel
    · rw [hfc, show qs.get c.channel = (rs.get c.channel).finish count from Triple.get_set_self _ _ _]
      rfl
    · rw [show qs.get f = rs.get f from Triple.get_set_ne _ (Ne.symm hfc) _]
      exact (sharing_iff _).mp (rest f hfc hf)
  have quiet : ∀ f, f ≠ e → (qs.get f).state.isFlowing = false := fun f hf => (Bool.or_eq_false_iff.mp (idle f hf)).1
  have flows : (qs.get e).state.isFlowing = true := by rw [getE, flowing]; rfl
  have joining : (qs.map fun r => decide (r.state = .allocating)) = .fill false := by
    have none : ∀ f, decide ((qs.get f).state = .allocating) = false := fun f => by
      by_cases hf : f = e
      · rw [hf, getE, flowing]
        rfl
      · exact (Bool.or_eq_false_iff.mp (idle f hf)).2
    have ha : decide (qs.a.state = .allocating) = false := none .a
    have hb : decide (qs.b.state = .allocating) = false := none .b
    have hc : decide (qs.c.state = .allocating) = false := none .c
    rw [Triple.map, ha, hb, hc]
    rfl
  have go : true = false ∨ x.state = .delivering ∧ x.anyChannel (fun r => r.state.isFlowing || decide (r.state = .allocating)) = true := by
    refine .inr ⟨state, ?_⟩
    unfold Context.anyChannel
    rw [show x.channels = some qs from rfl, Option.any_some, Triple.any_iff]
    exact ⟨e, by rw [flows, Bool.true_or]⟩
  have sees : s.Sees i l x (s.lane l) := State.Sees.of_records hc rfl (fun ch => Triple.set_setup (q := (rs.get c.channel).finish count) rfl ch)
    rfl rfl rfl rfl
  have put : ∀ w : Context, u.setCtx i w = s.view i l w (s.lane l) u.dlu s.reu := fun w => State.setCtx_view s i l w u.dlu
  have listed : ∀ (w : Context) (cs : List Command), (u.setCtx i w).setHead z.head { u.head z.head with commands := cs } =
      s.view i l w (s.lane l) (u.dlu.withList z.head cs) s.reu := fun w cs => State.setHead_view s i l w u.dlu z.head cs
  have outcome := handle_acceptedFinal (u := u) (totalizer := totalizer) (valve := valve) (count := count) hp ho hu hc settling
  rw [if_pos good] at outcome
  have cleanU : u.LatchClean := LatchClean.finalTaken clean c totalizer
  have cleanL : ∀ (w : Context) (p : Points) (b : Bool), ((u.setCtx i w).setHead z.head { u.head z.head with commands := (u.head z.head).commands ++
      [⟨z.head, z.headChannel, l, e, some (i, (s.ctx i).transaction), .limit p b⟩] }).LatchClean := fun w p b =>
    LatchClean.setHead (LatchClean.setCtx cleanU i w) fun f hf => mem_append_one rfl hf
  have going : ∀ w : Context, w.channels = some qs → w.anyInProgress = true := fun w hw =>
    Context.anyInProgress_of hw (ch := e) (by rw [getE, flowing]; rfl)
  have phase : x.allocation.phase = .none := by
    show (s.ctx i).allocation.phase = .none
    rw [clear]
    rfl
  have raiseOnly : Allocation.raiseOnly qs = ⟨.lowering, .fill false, .fill none, false⟩ := by rw [Allocation.raiseOnly, joining]
  subst hv
  rw [exec_accepted ha, State.keepTotalizer_final hp]
  refine ⟨fun sh target less => ?_, fun keeps => ⟨fun sh share more => ?_, fun kept => ?_⟩⟩
  · have steps := drain_trigger_lowers (n := 2) (ws := [.changed i x.transaction, .arbitrate]) (x := x) (rs := qs) (e := e) (z := z) (sh := sh)
      (d := u.dlu) (r := s.reu) inUse phase go rfl lane (by rw [getE]; exact hz) flows quiet target (by rw [getE]; exact less) sees (online.trans on)
      free (fun f hf => fresh f (commands ▸ hf))
    have changed := drain_step (n := 1) (ws := [.arbitrate]) (State.view_changed_going (s := s) (i := i) (l := l) (y := s.lane l)
      (d := u.dlu.withList z.head ((u.dlu.heads.get z.head).commands ++
        [⟨z.head, z.headChannel, l, e, some (i, x.transaction), .limit sh.points true⟩])) (r := s.reu)
      (x := { x with allocation := .lowerOne qs e sh.points }) inUse (.inl state) (going { x with allocation := .lowerOne qs e sh.points } rfl))
    rw [State.setCtx_setCtx, ← joining]
    refine finish_then_arbitrate (n := 5) ((drain_step outcome).trans ((congrArg (drain _ _) (put x)).trans (steps.trans (changed.trans ?_))))
      (cleanL _ _ _)
    exact congrArg (drain _ _) (listed _ _).symm
  · rw [← raiseOnly] at share
    have keep : loweringOf (qs.get e) ((x.phaseOne s.productClass s.slowVolume).get e) = none := loweringOf_keep fun sh h => by
      rw [getE]
      exact keeps sh h
    have raised := State.view_raise_flowing (s := s) (i := i) (l := l) (y := s.lane l) (d := u.dlu) (r := s.reu)
      (x := ({ x with allocation := .raiseOnly qs } : Context).raising) inUse rfl (rs := qs) rfl (ch := e) (sh := sh) flows (by rw [getE]; exact more)
    have queueing : (s.view i l ({ x with allocation := .raiseOnly qs } : Context).raising (s.lane l) u.dlu s.reu).queueFor i e (.limit sh.points false) =
        [.queue ⟨z.head, z.headChannel, l, e, some (i, (s.ctx i).transaction), .limit sh.points false⟩] :=
      State.view_queueFor (c := ({ x with allocation := .raiseOnly qs } : Context).raising) lane rfl (by rw [getE]; exact hz) _
    rw [queueing, getE] at raised
    let x' : Context := { ({ x with allocation := .raiseOnly qs } : Context).raising with
      channels := some (qs.set e { rs.get e with points := some sh.points }) }
    have sees' : s.Sees i l x' (s.lane l) := State.Sees.of_records hc rfl (fun ch =>
      (Triple.set_setup (rs := qs) (q := { rs.get e with points := some sh.points }) (by rw [getE]) ch).trans
        (Triple.set_setup (q := (rs.get c.channel).finish count) rfl ch)) rfl rfl rfl rfl
    have queue := State.view_queue_limit (d := u.dlu) (r := s.reu)
      (k := ⟨z.head, z.headChannel, l, e, some (i, (s.ctx i).transaction), .limit sh.points false⟩) sees' rfl (online.trans on) free
      (fun f hf => fresh f (commands ▸ hf))
    have steps := drain_trigger_raises (s := s) (i := i) (l := l) (n := 2) (m := 2) (ws := [.changed i x.transaction, .arbitrate]) (x := x) (rs := qs) (e := e) (g := e)
      (d := u.dlu) (r := s.reu) (y := s.lane l) (x' := x')
      (d' := u.dlu.withList z.head ((u.dlu.heads.get z.head).commands ++
        [⟨z.head, z.headChannel, l, e, some (i, (s.ctx i).transaction), .limit sh.points false⟩]))
      inUse phase go rfl quiet keep inUse rfl rfl rfl rfl (fun f hf => Triple.get_set_ne _ (Ne.symm hf) _) (fun f hf => .inr (idle f hf))
      (fun n ws => by
        rw [show (({ x with allocation := .raiseOnly qs } : Context).phaseTwo s.productClass s.slowVolume).get e = some sh from share]
        exact (drain_step (n := n + 1) raised).trans (drain_step queue))
    have final : x'.abandon = { x with channels := some (qs.set e { rs.get e with points := some sh.points }) } := by
      show ({ x with channels := some (qs.set e { rs.get e with points := some sh.points }), allocation := .clear } : Context) =
        { x with channels := some (qs.set e { rs.get e with points := some sh.points }), allocation := (s.ctx i).allocation }
      rw [clear]
    rw [final] at steps
    have changed := drain_step (n := 1) (ws := [.arbitrate]) (State.view_changed_going (s := s) (i := i) (l := l) (y := s.lane l)
      (d := u.dlu.withList z.head ((u.dlu.heads.get z.head).commands ++
        [⟨z.head, z.headChannel, l, e, some (i, (s.ctx i).transaction), .limit sh.points false⟩])) (r := s.reu)
      (x := { x with channels := some (qs.set e { rs.get e with points := some sh.points }) }) inUse (.inl state)
      (Context.anyInProgress_of (ch := e) rfl (by rw [Triple.get_set_self, flowing]; rfl)))
    rw [State.setCtx_setCtx]
    refine finish_then_arbitrate (n := 9) ((drain_step outcome).trans ((congrArg (drain _ _) (put x)).trans (steps.trans (changed.trans ?_))))
      (cleanL _ _ _)
    exact congrArg (drain _ _) (listed _ _).symm
  · rw [← raiseOnly] at kept
    have keep : loweringOf (qs.get e) ((x.phaseOne s.productClass s.slowVolume).get e) = none := loweringOf_keep fun sh h => by
      rw [getE]
      exact keeps sh h
    have steps := drain_trigger_raises (s := s) (i := i) (l := l) (n := 2) (m := 1) (ws := [.changed i x.transaction, .arbitrate]) (x := x) (rs := qs) (e := e) (g := e)
      (d := u.dlu) (r := s.reu) (y := s.lane l) (x' := ({ x with allocation := .raiseOnly qs } : Context).raising) (d' := u.dlu)
      inUse phase go rfl quiet keep inUse rfl rfl rfl rfl (fun f _ => rfl) (fun f hf => .inr (idle f hf))
      (fun n ws => drain_quiet (State.view_raise_idle (x := ({ x with allocation := .raiseOnly qs } : Context).raising) (rs := qs) inUse rfl rfl
        (.inr (.inr ⟨flows, fun sh h => by rw [getE]; exact kept sh h⟩))))
    have final : (({ x with allocation := .raiseOnly qs } : Context).raising).abandon = x := by
      show ({ x with allocation := .clear } : Context) = { x with allocation := (s.ctx i).allocation }
      rw [clear]
    rw [final] at steps
    have changed := drain_step (n := 1) (ws := [.arbitrate]) (State.view_changed_going (s := s) (i := i) (l := l) (y := s.lane l) (d := u.dlu)
      (r := s.reu) (x := x) inUse (.inl state) (going x rfl))
    refine finish_then_arbitrate (n := 8) ((drain_step outcome).trans ((congrArg (drain _ _) (put x)).trans (steps.trans (changed.trans ?_))))
      (LatchClean.setCtx cleanU i _)
    exact congrArg (drain _ _) (put x).symm

end Sys2Proof.Machine
end

section
/-! A first fault that closes its context (O43, O44): the CLOSEs of the fault are queued for the lane that is left without one. -/

namespace Sys2Proof.Machine

open Sys2Proof

variable {s t : State} {i : ContextId} {l : LaneId} {rs : Triple ChannelRecord} {c k : Command} {x : Context} {d : DispenserUnit} {r : EventUnit}
  {count totalizer : BitVec 32} {valve : Valve} {retries : Nat} {ch e : Channel} {z : ChannelSetup} {y : Lane} {p : ClosePath}

/-! ### The CLOSEs of a fault on a lane with no context -/

theorem State.setLane_view (s : State) (l : LaneId) (y : Lane) : s.setLane l y = s.view 0 l (s.ctx 0) y s.dlu s.reu := by
  have := congrArg (fun u : State => u.setLane l y) (s.view_self 0 l)
  exact this.symm.trans (s.view_setLane y)

theorem State.setLane_setup (hy : y.config = (s.lane l).config) : (s.setLane l y).setup = s.setup := by
  rw [State.setLane_view]
  exact State.view_setup ⟨rfl, rfl, rfl, rfl, rfl, hy⟩

/-- The CLOSE that a fault queues for a channel of a lane with no context. -/
def freeClose (z : ChannelSetup) (l : LaneId) (ch : Channel) (k : FaultKind) : Command :=
  ⟨z.head, z.headChannel, l, ch, none, .close (.fault k) true⟩

/-- The CLOSEs of a fault on a lane with no context and one present channel (R127). -/
theorem handle_faultCloses_free (stop : (s.lane l).state = .faultStop) (hb : s.bound l = none) (hz : s.setup l ch = some z)
    (hn : ∀ e, e ≠ ch → s.setup l e = none) (on : (s.head z.head).online = true) (k : FaultKind) :
    handle (.faultCloses l k) s = (s.setLane l ((s.lane l).closeQueued ch), [.queue (freeClose z l ch k)]) := by
  have absent : ∀ u : State, u.setup = s.setup → ∀ e, e ≠ ch → u.faultCloseOne l k e = (u, []) := fun u hu e he => by
    unfold State.faultCloseOne
    rw [hu, hn e he]
  have record : s.laneRecord l ch = none := by
    unfold State.laneRecord
    rw [hb]
  have unbound : (s.modLaneChannel l ch fun y => { y with faultClose := .queued }).ownerOf l = none := by
    show Option.map _ (s.bound l) = none
    rw [hb]
    rfl
  have one : s.faultCloseOne l k ch = (s.setLane l ((s.lane l).closeQueued ch), [.queue (freeClose z l ch k)]) := by
    unfold State.faultCloseOne
    rw [hz]
    dsimp only
    rw [record, if_neg (by exact Bool.false_ne_true), if_pos on, unbound]
    rfl
  have single := State.gather_single (s := s) (f := fun s ch => s.faultCloseOne l k ch) (ch := ch) (fun e he => absent s rfl e he) (fun e he => by
    show ((s.faultCloseOne l k ch).1).faultCloseOne l k e = ((s.faultCloseOne l k ch).1, [])
    rw [one]
    exact absent (s.setLane l ((s.lane l).closeQueued ch)) (State.setLane_setup rfl) e he)
  show s.queueFaultCloses l k = _
  unfold State.queueFaultCloses
  rw [if_pos stop, single]
  exact one

/-- The CLOSE of a fault on a lane with no context and one present channel, taken into its head's list (R127). -/
theorem drain_freeCloses {n : Nat} {ws : List Work} (stop : (s.lane l).state = .faultStop) (hb : s.bound l = none) (hz : s.setup l ch = some z)
    (hn : ∀ e, e ≠ ch → s.setup l e = none) (on : (s.head z.head).online = true) (free : ∀ q ∈ s.servedBy z.head, (s.lane q.1).state ≠ .locked)
    (fresh : ∀ d ∈ (s.head z.head).commands, ¬(d.lane = l ∧ d.channel = ch)) (k : FaultKind) :
    drain (n + 2) (.faultCloses l k :: ws) s = drain n ws ((s.setLane l ((s.lane l).closeQueued ch)).setHead z.head { s.head z.head with
      commands := closedList (s.head z.head).commands (freeClose z l ch k) }) := by
  have sees : s.Sees 0 l (s.ctx 0) ((s.lane l).closeQueued ch) := ⟨rfl, rfl, rfl, rfl, rfl, rfl⟩
  have unlocked : ((s.lane l).closeQueued ch).state ≠ .locked := by
    show (s.lane l).state ≠ .locked
    rw [stop]
    decide
  have queue := State.view_queue_close (d := s.dlu) (r := s.reu) (k := freeClose z l ch k) sees unlocked rfl on free fresh
  rw [show n + 2 = n + 1 + 1 from rfl, drain_step (handle_faultCloses_free stop hb hz hn on k), State.setLane_view]
  exact drain_step queue

/-! ### The state that a closing leaves -/

/-- A lane in FAULT STOP whose context closes, and that stays in it: one of its channels is not quiet. -/
structure State.ClosesLoud (s : State) (i : ContextId) (l : LaneId) (rs : Triple ChannelRecord) : Prop where
  bound : s.bound l = some i
  alone : ∀ j, j ≠ i → (s.ctx j).lane ≠ some l
  channels : (s.ctx i).channels = some rs
  config : ∀ e, (s.lane l).config.channels.get e = (rs.get e).setup
  stop : (s.lane l).state = .faultStop
  loud : ∃ ch z, (rs.get ch).setup = some z ∧ ((s.lane l).channels.get ch).quiet ≠ 2

theorem State.ClosesLoud.lane (h : s.ClosesLoud i l rs) : (s.closeContext i p false).lane l = s.adoptedLane l := by
  obtain ⟨-, stop, -⟩ := s.closeContext_lane i p (State.bound_lane h.bound).2
  refine (stop h.stop h.alone).2 fun quiet => ?_
  obtain ⟨ch, z, hz, loud⟩ := h.loud
  exact loud (quiet ch z ((h.config ch).trans hz))

theorem State.ClosesLoud.lane_ne (h : s.ClosesLoud i l rs) {m : LaneId} (hm : m ≠ l) : (s.closeContext i p false).lane m = s.lane m :=
  State.closeContext_lane_ne (State.bound_lane h.bound).2 hm p false

theorem State.ClosesLoud.unbound (h : s.ClosesLoud i l rs) : (s.closeContext i p false).bound l = none := by
  unfold State.bound
  refine List.find?_eq_none.mpr fun j _ => ?_
  rw [State.closeContext_ctx]
  by_cases hj : i = j
  · rw [if_pos hj]
    simp [Context.cleared]
  · rw [if_neg hj]
    simp [h.alone j (Ne.symm hj)]

theorem State.ClosesLoud.bound_ne (h : s.ClosesLoud i l rs) {m : LaneId} (hm : m ≠ l) : (s.closeContext i p false).bound m = s.bound m := by
  unfold State.bound
  congr 1
  funext j
  rw [State.closeContext_ctx]
  by_cases hj : i = j
  · subst hj
    have elsewhere : (s.ctx i).lane ≠ some m := by
      rw [(State.bound_lane h.bound).2]
      exact fun e => hm (Option.some.inj e).symm
    rw [if_pos rfl, decide_eq_false elsewhere, Bool.and_false]
    rfl
  · rw [if_neg hj]

theorem State.ClosesLoud.setup (h : s.ClosesLoud i l rs) : (s.closeContext i p false).setup = s.setup := by
  funext m e
  unfold State.setup
  by_cases hm : m = l
  · subst hm
    rw [h.unbound, h.bound, h.lane, Option.bind_some, h.channels]
    exact h.config e
  · rw [h.bound_ne hm, h.lane_ne hm]
    cases hb : s.bound m with
    | none => rfl
    | some j =>
      have other : i ≠ j := fun hj => by
        subst hj
        exact hm (Option.some.inj ((State.bound_lane hb).2.symm.trans (State.bound_lane h.bound).2))
      rw [Option.bind_some, Option.bind_some, State.closeContext_ctx, if_neg other]

theorem State.ClosesLoud.servedBy (h : s.ClosesLoud i l rs) : (s.closeContext i p false).servedBy = s.servedBy := by
  funext k
  unfold State.servedBy
  rw [h.setup]

/-- No lane that a head serves is LOCKED after the closing where none was before. -/
theorem State.ClosesLoud.free (h : s.ClosesLoud i l rs) {k : HeadId} (free : ∀ q ∈ s.servedBy k, (s.lane q.1).state ≠ .locked) :
    ∀ q ∈ (s.closeContext i p false).servedBy k, ((s.closeContext i p false).lane q.1).state ≠ .locked := fun q hq => by
  rw [h.servedBy] at hq
  by_cases hm : q.1 = l
  · rw [hm, h.lane]
    show (s.lane l).state ≠ .locked
    rw [h.stop]
    decide
  · rw [h.lane_ne hm]
    exact free q hq

/-- The CLOSEs of the fault that closed a context: one, that nothing owns, for its one present channel (R127; notes/assumptions/51.md). -/
theorem drain_closedCloses {n : Nat} {ws : List Work} (h : s.ClosesLoud i l rs) (hz : (rs.get ch).setup = some z)
    (hn : ∀ e, e ≠ ch → (rs.get e).setup = none) (on : (s.head z.head).online = true) (free : ∀ q ∈ s.servedBy z.head, (s.lane q.1).state ≠ .locked)
    (fresh : ∀ d ∈ (s.head z.head).commands, ¬(d.lane = l ∧ d.channel = ch)) (k : FaultKind) {u : State} (hu : u = s.closeContext i p false) :
    drain (n + 2) (.faultCloses l k :: ws) u = drain n ws ((u.setLane l ((u.lane l).closeQueued ch)).setHead z.head { u.head z.head with
      commands := closedList (u.head z.head).commands (freeClose z l ch k) }) := by
  have heads : u.head = s.head := funext fun k => congrArg (fun y : DispenserUnit => y.heads.get k) (hu ▸ State.closeContext_dlu s i p false)
  have setup : ∀ e, u.setup l e = (rs.get e).setup := fun e => by
    rw [hu, h.setup]
    exact State.setup_bound h.bound h.channels e
  have stop : (u.lane l).state = .faultStop := by
    rw [hu, h.lane]
    exact h.stop
  refine drain_freeCloses stop (hu ▸ h.unbound) ((setup ch).trans hz) (fun e he => (setup e).trans (hn e he)) ?_ (hu ▸ h.free free) ?_ k
  · rw [heads]
    exact on
  · rw [heads]
    exact fresh

/-! ### First faults -/

/-- A context flagged by a first fault and taken into STOPPING (R127, R21). -/
def Context.faulted (x : Context) : Context := (x.flagFault.withReason .laneFault).stopping

theorem State.Sees.faulted (h : s.Sees i l x y) (hu : x.inUse = true) (offered : x.state ≠ .offered) (k : FaultKind) :
    s.Sees i l x.faulted (y.enterFaultStop k) :=
  State.Sees.stopping (c := x.flagFault.withReason .laneFault) ⟨h.inUse, h.lane, h.transaction, h.setups, h.offered, h.config⟩ hu offered

theorem Context.stoppable_flagFault (x : Context) : x.flagFault.stoppable = x.stoppable ∧ x.flagFault.cancellable = x.cancellable := ⟨rfl, rfl⟩

/-- What a first fault makes of the view: FAULT STOP, and its event. -/
def State.faultView (s : State) (i : ContextId) (l : LaneId) (x : Context) (y : Lane) (d : DispenserUnit) (r : EventUnit) (k : FaultKind) : State :=
  s.view i l x (y.enterFaultStop k) d (s.heed (r.occur .laneFault (.lane l) k.code s.stamp))

theorem Lane.enterFaultStop_quiet (y : Lane) (k : FaultKind) (ch : Channel) : ((y.enterFaultStop k).channels.get ch).quiet = 0 := by
  cases ch <;> rfl

/-- A first fault of a context that it does not stop: one in STOPPING or RECOVERING already (R127). -/
theorem State.view_fault_flags (h : s.Sees i l x y) (hb : s.bound l = some i) (k : FaultKind) (h1 : y.state ≠ .faultStop) (h2 : y.state ≠ .locked)
    (cancel : x.cancellable = false) (stop : x.stoppable = false) :
    handle (.fault l k) (s.view i l x y d r) = (s.faultView i l x.flagFault y d r k, [.faultCloses l k]) := by
  have fault := State.view_firstFault (d := d) (r := r) h hb k h1 h2 cancel
  have calm : ¬ x.flagFault.stoppable = true := by
    rw [(Context.stoppable_flagFault x).1, stop]
    exact Bool.false_ne_true
  rw [if_neg calm, if_neg calm] at fault
  exact fault

/-- A first fault of a context that it takes into STOPPING (R127). -/
theorem State.view_fault_stops (h : s.Sees i l x y) (hb : s.bound l = some i) (k : FaultKind) (h1 : y.state ≠ .faultStop) (h2 : y.state ≠ .locked)
    (cancel : x.cancellable = false) (stop : x.stoppable = true) :
    handle (.fault l k) (s.view i l x y d r) =
      (s.faultView i l (x.flagFault.withReason .laneFault) y d r k, [.stop i x.transaction (.fault k), .faultCloses l k]) := by
  have fault := State.view_firstFault (d := d) (r := r) h hb k h1 h2 cancel
  have stops : x.flagFault.stoppable = true := stop
  rw [if_pos stops, if_pos stops] at fault
  exact fault

/-- A first fault that closes the context: it is stopped with no channel in progress (R127, R21; notes/assumptions/51.md). -/
theorem drain_fault_closes {n : Nat} {ws : List Work} (h : s.Sees i l x y) (hb : s.bound l = some i) (hc : x.channels = some rs)
    (hz : (rs.get ch).setup = some z) (hn : ∀ e, e ≠ ch → (rs.get e).setup = none)
    (rests : ∀ e, (rs.get e).state.stops = false) (ended : ∀ e, (rs.get e).state.inProgress = false) (cancel : x.cancellable = false)
    (stop : x.stoppable = true) (offered : x.state ≠ .offered) (hu : x.inUse = true) (h1 : y.state ≠ .faultStop) (h2 : y.state ≠ .locked)
    (alone : ∀ j, j ≠ i → (s.ctx j).lane ≠ some l) (config : ∀ e, y.config.channels.get e = (rs.get e).setup)
    (on : (d.heads.get z.head).online = true) (free : ∀ q ∈ s.servedBy z.head, (s.lane q.1).state ≠ .locked)
    (fresh : ∀ f ∈ (d.heads.get z.head).commands, ¬(f.lane = l ∧ f.channel = ch)) (k : FaultKind) {u : State}
    (hclosed : u = (s.faultView i l x.faulted y d r k).closeContext i .byVolume false) :
    drain (n + 5) (.fault l k :: ws) (s.view i l x y d r) = drain n ws ((u.setLane l ((u.lane l).closeQueued ch)).setHead z.head { u.head z.head with
      commands := closedList (u.head z.head).commands (freeClose z l ch k) }) := by
  have sees1 : s.Sees i l (x.flagFault.withReason .laneFault) (y.enterFaultStop k) := ⟨h.inUse, h.lane, h.transaction, h.setups, h.offered, h.config⟩
  have sees2 := h.faulted hu offered k
  have bound : (s.faultView i l x.faulted y d r k).bound l = some i := (congrFun (State.view_bound sees2) l).trans hb
  have loud : (s.faultView i l x.faulted y d r k).ClosesLoud i l rs :=
    { bound := bound
      alone := fun j hj => by
        rw [State.faultView, State.view_ctx_ne s hj]
        exact alone j hj
      channels := by
        rw [State.faultView, State.view_ctx]
        exact hc
      config := fun e => by
        rw [State.faultView, State.view_lane]
        exact config e
      stop := by
        rw [State.faultView, State.view_lane]
        rfl
      loud := ⟨ch, z, hz, by
        rw [State.faultView, State.view_lane, Lane.enterFaultStop_quiet]
        decide⟩ }
  have none : x.faulted.anyInProgress = false := Context.anyInProgress_none (rs := rs) hc ended
  have stops := State.view_stop_rests (d := d) (r := s.heed (r.occur .laneFault (.lane l) k.code s.stamp)) sees1 hu offered hc rests (.fault k)
  rw [State.heed_heed] at stops
  have closes := State.view_changed_closes (s := s) (i := i) (l := l) (x := y.enterFaultStop k) (d := d)
    (r := s.heed (r.occur .laneFault (.lane l) k.code s.stamp)) (c := x.faulted) rfl rfl none
  rw [show n + 5 = n + 2 + 1 + 1 + 1 from rfl, drain_step (State.view_fault_stops h hb k h1 h2 cancel stop)]
  refine (drain_step stops).trans ((drain_step closes).trans ?_)
  refine (congrArg (drain _ _) hclosed.symm).trans (drain_closedCloses loud hz hn on (fun q hq => ?_) fresh k hclosed)
  rw [State.faultView, State.view_servedBy sees2] at hq
  by_cases hm : q.1 = l
  · rw [State.faultView, hm, State.view_lane]
    exact show LaneState.faultStop ≠ .locked by decide
  · rw [State.faultView, State.view_lane_ne s hm]
    exact free q hq

/-- A lane with the fault close of a channel complete (R128). -/
def Lane.closeComplete (y : Lane) (ch : Channel) : Lane :=
  { y with channels := y.channels.set ch { y.channels.get ch with faultClose := .complete } }

/-- A lane in FAULT STOP with the fault close of one of its channels as given (R127). -/
def Lane.hit (y : Lane) (k : FaultKind) (ch : Channel) (close : FaultClose) : Lane :=
  { y with
    state := .faultStop
    fault := some k
    channels := (y.channels.map fun w => { w with quiet := 0, faultClose := .none, faultSettle := none }).set ch
      { y.channels.get ch with quiet := 0, faultClose := close, faultSettle := none } }

theorem Lane.hit_none (y : Lane) (k : FaultKind) (ch : Channel) : y.hit k ch .none = y.enterFaultStop k := by
  cases ch <;> rfl

theorem Lane.hit_queued (y : Lane) (k : FaultKind) (ch : Channel) : y.hit k ch .queued = (y.enterFaultStop k).closeQueued ch := by
  cases ch <;> rfl

theorem Lane.hit_complete (y : Lane) (k : FaultKind) (ch : Channel) : y.hit k ch .complete = (y.enterFaultStop k).closeComplete ch := by
  cases ch <;> rfl

/-- A context, a lane and an event put into a state, as a view. -/
theorem State.put_view (d : DispenserUnit) (h : s.Sees i l x y) (k : EventKind) (sub : Subject) (n : Nat) :
    ((({ s with dlu := d } : State).setCtx i x).setLane l y).queueEvent k sub n = s.view i l x y d (s.heed (s.reu.occur k sub n s.stamp)) := by
  rw [State.setCtx_view s i l, State.view_setLane, State.view_queueEvent h]

theorem LatchClean.setLane (h : s.LatchClean) (l : LaneId) (y : Lane) : (s.setLane l y).LatchClean := LatchClean.congr h rfl rfl

theorem LatchClean.view (h : ({ s with dlu := d } : State).LatchClean) : (s.view i l x y d r).LatchClean := LatchClean.congr h rfl rfl

/-! ### METER MISMATCH -/

/-- The CLOSEs of a fault on a bound lane whose one present channel is DONE: its fault close is complete (R128). -/
theorem State.view_faultCloses_done (h : s.Sees i l x y) (hb : s.bound l = some i) (hc : x.channels = some rs) (hy : y.state = .faultStop)
    (hz : s.setup l ch = some z) (hq : ∀ e, e ≠ ch → s.setup l e = none) (done : (rs.get ch).state = .done) (k : FaultKind) :
    handle (.faultCloses l k) (s.view i l x y d r) =
      (s.view i l x (y.closeComplete ch) d r, []) := by
  have absent : ∀ (w : Lane), s.Sees i l x w → ∀ e, e ≠ ch → (s.view i l x w d r).faultCloseOne l k e = (s.view i l x w d r, []) := fun w hw e he => by
    unfold State.faultCloseOne
    rw [State.view_setup hw, hq e he]
  have one : (s.view i l x y d r).faultCloseOne l k ch =
      (s.view i l x (y.closeComplete ch) d r, []) := by
    have isDone : ((s.view i l x y d r).laneRecord l ch).any (fun p => decide (p.2.state = .done)) = true := by
      rw [State.view_laneRecord h hb hc]
      simpa using done
    unfold State.faultCloseOne
    rw [State.view_setup h, hz]
    dsimp only
    rw [if_pos isDone, State.view_modLaneChannel]
    rfl
  have single := State.gather_single (s := s.view i l x y d r) (f := fun s ch => s.faultCloseOne l k ch) (ch := ch)
    (fun e he => absent y h e he) (fun e he => by
      show (((s.view i l x y d r).faultCloseOne l k ch).1).faultCloseOne l k e = (((s.view i l x y d r).faultCloseOne l k ch).1, [])
      rw [one]
      exact absent (y.closeComplete ch) ⟨h.inUse, h.lane, h.transaction, h.setups, h.offered, h.config⟩ e he)
  show (s.view i l x y d r).queueFaultCloses l k = _
  unfold State.queueFaultCloses
  rw [if_pos (by rw [State.view_lane]; exact hy), single]
  exact one

/-- Work on behalf of a context that is FREE does nothing (R2). -/
theorem handle_gone (h : (s.ctx i).state = .free) (n : Nat) (second : Bool) :
    handle (.changed i n) s = (s, []) ∧ handle (.trigger i n second) s = (s, []) := by
  have gone : s.holds i n = false := by
    rw [State.holds, Context.inUse, h]
    rfl
  refine ⟨if_neg (by rw [gone]; exact Bool.false_ne_true), ?_⟩
  show s.takeTrigger i n second = _
  unfold State.takeTrigger
  rw [if_pos (by rw [gone]; rfl)]

end Sys2Proof.Machine
end

section
/-! METER MISMATCH as a first fault, and O43 settled. -/

namespace Sys2Proof.Machine

open Sys2Proof

variable {s t : State} {i : ContextId} {l : LaneId} {rs : Triple ChannelRecord} {c k : Command} {x : Context} {d : DispenserUnit} {r : EventUnit}
  {count totalizer : BitVec 32} {valve : Valve} {retries : Nat} {ch e : Channel} {z : ChannelSetup} {y : Lane} {p : ClosePath}

/-- The channels of a context in which a FINAL leaves nothing in progress. -/
theorem finished_rests (others : ∀ e, e ≠ ch → (rs.get e).state = .idle ∧ (rs.get e).setup = none) (count : BitVec 32) (e : Channel) :
    ((rs.set ch ((rs.get ch).finish count)).get e).state.stops = false ∧
      ((rs.set ch ((rs.get ch).finish count)).get e).state.inProgress = false := by
  by_cases he : e = ch
  · rw [he, Triple.get_set_self]
    exact ⟨rfl, rfl⟩
  · rw [Triple.get_set_ne _ (Ne.symm he), (others e he).1]
    exact ⟨rfl, rfl⟩

/-- What both clauses on a FINAL that fails its check start from: the channel DONE, METER MISMATCH flagged, the fault found. -/
theorem exec_acceptedFinal_mismatch (ha : s.awaitsHead ⟨c.head, some c, retries⟩) (hp : c.payload = .final)
    (ho : c.owner = some (i, (s.ctx i).transaction)) (hu : (s.ctx i).state ≠ .free) (hc : (s.ctx i).channels = some rs)
    (settling : (rs.get c.channel).state = .settling)
    (bad : ¬((rs.get c.channel).extended ≤ count.toNat ∧ count.toNat < (rs.get c.channel).extended + 65536)) {n : Nat} (hn : n + 1 < 65536)
    (clean : t.LatchClean)
    (rest : drain (n + 1) [.fault c.lane .meterMismatch, .trigger i (s.ctx i).transaction true, .changed i (s.ctx i).transaction, .arbitrate]
      (s.view i c.lane ((s.ctx i).finished rs c.channel count).flagMismatch (s.lane c.lane) (s.finalTaken c totalizer).dlu s.reu) =
        drain 1 [.arbitrate] t) :
    exec (.dispenserAccepted c.head count valve totalizer) s = .next t.arbitrate.1 := by
  have outcome := handle_acceptedFinal (u := s.finalTaken c totalizer) (totalizer := totalizer) (valve := valve) (count := count) hp ho hu hc settling
  rw [if_neg bad] at outcome
  rw [exec_accepted ha, State.keepTotalizer_final hp]
  refine finish_then_arbitrate (n := n + 1) ((drain_step outcome).trans (Eq.trans ?_ rest)) clean hn
  exact congrArg (drain _ _) (State.setCtx_view s i c.lane _ _)

/-- A first fault of a STOPPING context whose one present channel is DONE: its fault close is complete, and the context closes (R127, R128). -/
theorem drain_fault_done {n m : Nat} {ws : List Work} (h : s.Sees i l x y) (hb : s.bound l = some i) (hc : x.channels = some rs)
    (hz : (rs.get ch).setup = some z) (hn : ∀ e, e ≠ ch → (rs.get e).setup = none) (same : ∀ e, s.setup l e = (rs.get e).setup)
    (done : (rs.get ch).state = .done) (ended : ∀ e, (rs.get e).state.inProgress = false) (state : x.state = .stopping)
    (h1 : y.state ≠ .faultStop) (h2 : y.state ≠ .locked) (k : FaultKind) :
    drain (n + 4) (.fault l k :: .trigger i m true :: .changed i x.transaction :: ws) (s.view i l x y d r) =
      drain n ws ((s.view i l x.flagFault ((y.enterFaultStop k).closeComplete ch) d
        (s.heed (r.occur .laneFault (.lane l) k.code s.stamp))).closeContext i .byVolume false) := by
  have sees1 : s.Sees i l x.flagFault (y.enterFaultStop k) := ⟨h.inUse, h.lane, h.transaction, h.setups, h.offered, h.config⟩
  have none : x.flagFault.anyInProgress = false := Context.anyInProgress_none (rs := rs) hc ended
  have cancel : x.cancellable = false := by rw [Context.cancellable, state]
  have stop : x.stoppable = false := by rw [Context.stoppable, state]
  have inUse : x.flagFault.inUse = true := decide_eq_true (by
    show x.state ≠ .free
    rw [state]
    decide)
  have closes := State.view_faultCloses_done (d := d) (r := s.heed (r.occur .laneFault (.lane l) k.code s.stamp)) sees1 hb hc rfl ((same ch).trans hz)
    (fun e he => (same e).trans (hn e he)) done k
  have changed := State.view_changed_closes (s := s) (i := i) (l := l) (x := (y.enterFaultStop k).closeComplete ch) (d := d)
    (r := s.heed (r.occur .laneFault (.lane l) k.code s.stamp)) (c := x.flagFault) inUse state none
  rw [show n + 4 = n + 1 + 1 + 1 + 1 from rfl, drain_step (State.view_fault_flags h hb k h1 h2 cancel stop)]
  refine (drain_step closes).trans ((drain_quiet (handle_trigger_idle (.inl ?_) _)).trans (drain_step changed))
  rw [State.view_ctx]
  show x.state ≠ .delivering
  rw [state]
  decide

/-- A FINAL that fails its check in a STOPPING context: the context closes, the fault close complete (R99, R121, R127, R128). -/
theorem exec_mismatch_stopping (ha : s.awaitsHead ⟨c.head, some c, retries⟩) (clean : s.LatchClean) (hp : c.payload = .final)
    (ho : c.owner = some (i, (s.ctx i).transaction)) (hc : (s.ctx i).channels = some rs) (settling : (rs.get c.channel).state = .settling)
    (bad : ¬((rs.get c.channel).extended ≤ count.toNat ∧ count.toNat < (rs.get c.channel).extended + 65536))
    (hb : s.bound c.lane = some i) (h1 : (s.lane c.lane).state ≠ .faultStop) (h2 : (s.lane c.lane).state ≠ .locked)
    (hz : (rs.get c.channel).setup = some z) (others : ∀ e, e ≠ c.channel → (rs.get e).state = .idle ∧ (rs.get e).setup = none)
    (state : (s.ctx i).state = .stopping) :
    exec (.dispenserAccepted c.head count valve totalizer) s =
      .next ((((((s.finalTaken c totalizer).setCtx i ((s.ctx i).finished rs c.channel count).flagMismatch.flagFault).setLane c.lane
        ((s.lane c.lane).hit .meterMismatch c.channel .complete)).queueEvent .laneFault (.lane c.lane) FaultKind.meterMismatch.code).closeContext i
          .byVolume false).arbitrate.1) := by
  have hu : (s.ctx i).state ≠ .free := by rw [state]; decide
  have setups : ∀ e, ((rs.set c.channel ((rs.get c.channel).finish count)).get e).setup = (rs.get e).setup := Triple.set_setup rfl
  have sees : s.Sees i c.lane ((s.ctx i).finished rs c.channel count).flagMismatch (s.lane c.lane) :=
    State.Sees.of_records hc rfl setups rfl rfl rfl rfl
  have sees' : s.Sees i c.lane ((s.ctx i).finished rs c.channel count).flagMismatch.flagFault
      (((s.lane c.lane).enterFaultStop .meterMismatch).closeComplete c.channel) :=
    ⟨sees.inUse, sees.lane, sees.transaction, sees.setups, sees.offered, rfl⟩
  have steps := drain_fault_done (n := 1) (ws := [.arbitrate]) (d := (s.finalTaken c totalizer).dlu) (r := s.reu) (m := (s.ctx i).transaction)
    (rs := rs.set c.channel ((rs.get c.channel).finish count)) (ch := c.channel) sees hb rfl ((setups _).trans hz)
    (fun e he => (setups e).trans (others e he).2) (fun e => (State.setup_bound hb hc e).trans (setups e).symm)
    (by rw [Triple.get_set_self]; rfl) (fun e => (finished_rests others count e).2) state h1 h2 .meterMismatch
  have put : (((s.finalTaken c totalizer).setCtx i ((s.ctx i).finished rs c.channel count).flagMismatch.flagFault).setLane c.lane
      (((s.lane c.lane).enterFaultStop .meterMismatch).closeComplete c.channel)).queueEvent .laneFault (.lane c.lane) FaultKind.meterMismatch.code =
        s.view i c.lane ((s.ctx i).finished rs c.channel count).flagMismatch.flagFault
          (((s.lane c.lane).enterFaultStop .meterMismatch).closeComplete c.channel) (s.finalTaken c totalizer).dlu
            (s.heed (s.reu.occur .laneFault (.lane c.lane) FaultKind.meterMismatch.code s.stamp)) :=
    State.put_view (s.finalTaken c totalizer).dlu sees' .laneFault (.lane c.lane) FaultKind.meterMismatch.code
  have clean' : (s.view i c.lane ((s.ctx i).finished rs c.channel count).flagMismatch.flagFault
      (((s.lane c.lane).enterFaultStop .meterMismatch).closeComplete c.channel) (s.finalTaken c totalizer).dlu
        (s.heed (s.reu.occur .laneFault (.lane c.lane) FaultKind.meterMismatch.code s.stamp))).LatchClean :=
    LatchClean.view (LatchClean.finalTaken clean c totalizer)
  rw [← put] at clean' steps
  rw [Lane.hit_complete]
  exact exec_acceptedFinal_mismatch ha hp ho hu hc settling bad (n := 4) (by decide) (LatchClean.closeContext clean' i .byVolume false) steps

/-- The state once the CLOSE of a fault has been queued for a lane whose context the fault closed. -/
def State.closedBy (u : State) (l : LaneId) (ch : Channel) (z : ChannelSetup) (k : FaultKind) : State :=
  (u.setLane l ((u.lane l).closeQueued ch)).setHead z.head { u.head z.head with commands := closedList (u.head z.head).commands (freeClose z l ch k) }

theorem LatchClean.closedBy (h : s.LatchClean) (l : LaneId) (ch : Channel) (z : ChannelSetup) (k : FaultKind) : (s.closedBy l ch z k).LatchClean := by
  refine LatchClean.setHead (LatchClean.setLane h l _) fun e he => ?_
  rcases mem_closed he with rfl | old
  · exact .inr rfl
  · exact .inl old

/-- A FINAL that fails its check in a DELIVERING context: it closes before the CLOSE of the fault is queued (R99, R121, R127; notes/assumptions/51.md). -/
theorem exec_mismatch_delivering (ha : s.awaitsHead ⟨c.head, some c, retries⟩) (clean : s.LatchClean) (hp : c.payload = .final)
    (ho : c.owner = some (i, (s.ctx i).transaction)) (hc : (s.ctx i).channels = some rs) (settling : (rs.get c.channel).state = .settling)
    (bad : ¬((rs.get c.channel).extended ≤ count.toNat ∧ count.toNat < (rs.get c.channel).extended + 65536))
    (hb : s.bound c.lane = some i) (h1 : (s.lane c.lane).state ≠ .faultStop) (h2 : (s.lane c.lane).state ≠ .locked)
    (hz : (rs.get c.channel).setup = some z) (others : ∀ e, e ≠ c.channel → (rs.get e).state = .idle ∧ (rs.get e).setup = none)
    (state : (s.ctx i).state = .delivering) (alone : ∀ j, j ≠ i → (s.ctx j).lane ≠ some c.lane)
    (config : ∀ d, (s.lane c.lane).config.channels.get d = (rs.get d).setup) (on : (s.head z.head).online = true)
    (free : ∀ q ∈ s.servedBy z.head, (s.lane q.1).state ≠ .locked)
    (fresh : ∀ d ∈ (s.head z.head).commands, ¬(d.lane = c.lane ∧ d.channel = c.channel)) :
    exec (.dispenserAccepted c.head count valve totalizer) s =
      .next (((((((s.finalTaken c totalizer).setCtx i ((s.ctx i).finished rs c.channel count).flagMismatch.faulted).setLane c.lane
        ((s.lane c.lane).hit .meterMismatch c.channel .none)).queueEvent .laneFault (.lane c.lane) FaultKind.meterMismatch.code).closeContext i
          .byVolume false).closedBy c.lane c.channel z .meterMismatch).arbitrate.1) := by
  have hu : (s.ctx i).state ≠ .free := by rw [state]; decide
  obtain ⟨commands, online⟩ := s.finalTaken_reads c totalizer z.head
  have setups : ∀ e, ((rs.set c.channel ((rs.get c.channel).finish count)).get e).setup = (rs.get e).setup := Triple.set_setup rfl
  have sees : s.Sees i c.lane ((s.ctx i).finished rs c.channel count).flagMismatch (s.lane c.lane) :=
    State.Sees.of_records hc rfl setups rfl rfl rfl rfl
  have inUse : ((s.ctx i).finished rs c.channel count).flagMismatch.inUse = true := decide_eq_true hu
  have offered : ((s.ctx i).finished rs c.channel count).flagMismatch.state ≠ .offered := by
    show (s.ctx i).state ≠ .offered
    rw [state]
    decide
  have sees' := sees.faulted inUse offered .meterMismatch
  have cancel : ((s.ctx i).finished rs c.channel count).flagMismatch.cancellable = false := by
    unfold Context.cancellable
    rw [show ((s.ctx i).finished rs c.channel count).flagMismatch.state = .delivering from state]
  have stop : ((s.ctx i).finished rs c.channel count).flagMismatch.stoppable = true := by
    unfold Context.stoppable
    rw [show ((s.ctx i).finished rs c.channel count).flagMismatch.state = .delivering from state]
  have put : (((s.finalTaken c totalizer).setCtx i ((s.ctx i).finished rs c.channel count).flagMismatch.faulted).setLane c.lane
      ((s.lane c.lane).enterFaultStop .meterMismatch)).queueEvent .laneFault (.lane c.lane) FaultKind.meterMismatch.code =
        s.faultView i c.lane ((s.ctx i).finished rs c.channel count).flagMismatch.faulted (s.lane c.lane) (s.finalTaken c totalizer).dlu s.reu
          .meterMismatch :=
    State.put_view (s.finalTaken c totalizer).dlu sees' .laneFault (.lane c.lane) FaultKind.meterMismatch.code
  have clean' : (s.faultView i c.lane ((s.ctx i).finished rs c.channel count).flagMismatch.faulted (s.lane c.lane) (s.finalTaken c totalizer).dlu s.reu
      .meterMismatch).LatchClean := LatchClean.view (LatchClean.finalTaken clean c totalizer)
  rw [Lane.hit_none, put]
  generalize hclosed : (s.faultView i c.lane ((s.ctx i).finished rs c.channel count).flagMismatch.faulted (s.lane c.lane)
    (s.finalTaken c totalizer).dlu s.reu .meterMismatch).closeContext i .byVolume false = u
  have steps := drain_fault_closes (n := 3) (ws := [.trigger i (s.ctx i).transaction true, .changed i (s.ctx i).transaction, .arbitrate])
    (d := (s.finalTaken c totalizer).dlu) (r := s.reu) (rs := rs.set c.channel ((rs.get c.channel).finish count)) (ch := c.channel) (z := z) sees hb rfl
    ((setups _).trans hz) (fun e he => (setups e).trans (others e he).2) (fun e => (finished_rests others count e).1)
    (fun e => (finished_rests others count e).2) cancel stop offered inUse h1 h2 alone (fun e => (config e).trans (setups e).symm) (online.trans on) free (fun f hf => fresh f (commands ▸ hf))
    .meterMismatch hclosed.symm
  have cleared : u.ctx i = .cleared := by
    rw [← hclosed]
    exact (State.closeContext_ctx _ i i .byVolume false).trans (if_pos rfl)
  have gone : ((u.closedBy c.lane c.channel z .meterMismatch).ctx i).state = .free := congrArg Context.state cleared
  obtain ⟨changed, trigger⟩ := handle_gone gone (s.ctx i).transaction true
  refine exec_acceptedFinal_mismatch ha hp ho hu hc settling bad (n := 7) (by decide) (LatchClean.closedBy ?_ _ _ _ _)
    (steps.trans ((drain_quiet trigger).trans (drain_quiet changed)))
  rw [← hclosed]
  exact LatchClean.closeContext clean' i .byVolume false

/-- Settles O43. -/
theorem acceptancesRunTheirChannel : Obligations.AcceptancesRunTheirChannel := by
  unfold Obligations.AcceptancesRunTheirChannel
  intro s c retries i rs count totalizer valve ha clean ho hu hc r u put
  refine ⟨fun price entry hp => ⟨fun latest => ?_, fun stale => ?_⟩, fun cause hp clear closing => ?_, fun hp state settling g1 g2 => ?_,
    fun hp settling => ?_, fun hp opening state => ?_, fun p w hp flows phase hw unfixed => ?_⟩
  · rw [exec_acceptedZero ha clean ho hu hc hp, if_pos latest]
  · rw [exec_acceptedZero ha clean ho hu hc hp, if_neg stale]
  · exact exec_acceptedClose ha clean ho hu hc hp clear closing
  · refine (exec_acceptedFinal ha clean hp ho hu hc settling ⟨g1, g2⟩ (.inl (by rw [state]; decide))).trans ?_
    rw [State.contextChanged_stopping]
    · rfl
    · rw [State.setCtx_ctx_self]
      exact state
  · intro ended v answers good
    have hv : v = (s.finalTaken c totalizer).setCtx i ((s.ctx i).finished rs c.channel count) := rfl
    have context : v.ctx i = (s.ctx i).finished rs c.channel count := by rw [hv, State.setCtx_ctx_self]
    refine ⟨fun passes idle => exec_acceptedFinal ha clean hp ho hu hc settling passes idle, ?_, ?_⟩
    · intro e x l passes state clear lane apart flowing hx rest on free fresh stop target share limited
      obtain ⟨lowers, raises⟩ := exec_acceptedFinal_allocates (valve := valve) ha clean hp ho hc settling passes state clear lane apart flowing hx rest on
        free fresh hv
      have target' : target = (((s.ctx i).finished rs c.channel count).phaseOne s.productClass s.slowVolume).get e := by
        rw [← context]
      have share' : share = (({ (s.ctx i).finished rs c.channel count with allocation := ⟨.lowering, .fill false, .fill none, false⟩ } :
          Context).phaseTwo s.productClass s.slowVolume).get e := by
        rw [← context]
      rw [target', share', context]
      exact ⟨lowers, raises⟩
    · intro z fails hb h1 h2 hz others hit
      have hits : ∀ (w : Context) (close : FaultClose), hit w close = (((s.finalTaken c totalizer).setCtx i { w with
          flags := { w.flags with meterMismatch := true, fault := true } }).setLane c.lane
            ((s.lane c.lane).hit .meterMismatch c.channel close)).queueEvent .laneFault (.lane c.lane) FaultKind.meterMismatch.code := fun w close => by
        show ((v.setCtx i _).setLane c.lane _).queueEvent _ _ _ = _
        rw [hv, State.setCtx_setCtx]
        rfl
      rw [context]
      refine ⟨fun state => ?_, fun state alone config on free fresh => ?_⟩
      · refine (exec_mismatch_stopping ha clean hp ho hc settling fails hb h1 h2 hz others state).trans ?_
        rw [hits]
        rfl
      · refine (exec_mismatch_delivering ha clean hp ho hc settling fails hb h1 h2 hz others state alone config on free fresh).trans ?_
        rw [hits]
        rfl
  · intro noFlow opened
    have same : (rs.get c.channel).opened s.noFlowTime = opened := by
      show (rs.get c.channel).opened s.noFlowTime = match (rs.get c.channel).closeQueued with | some cause => _ | none => _
      unfold ChannelRecord.opened
      cases (rs.get c.channel).closeQueued <;> rfl
    rw [exec_acceptedOpen ha clean ho hc hp opening state, same]
  · intro lowered fixed
    have isFlowing : (rs.get c.channel).state.isFlowing = true := by rcases flows with h | h <;> rw [show (rs.get c.channel).state = _ from h] <;> rfl
    refine ⟨fun waits => exec_acceptedLimit_waits ha clean ho hu hc hp isFlowing hw unfixed waits, ?_⟩
    intro e sh l z all resplit latch lane joins hz share more others on free fresh command
    exact exec_acceptedLimit_joins ha ho hu hc hp isFlowing phase hw unfixed all resplit latch lane joins hz share more others on free fresh

end Sys2Proof.Machine
end

section
/-! Refusals (O44): a refused ZERO, an unsupported RELEASE, and the end of an exchange that fails. -/

namespace Sys2Proof.Machine

open Sys2Proof

variable {s t : State} {i : ContextId} {l : LaneId} {rs : Triple ChannelRecord} {c k : Command} {x : Context} {d : DispenserUnit} {r : EventUnit}
  {retries : Nat} {ch e : Channel} {z : ChannelSetup} {y : Lane} {cs : List Command}

/-! ### A refused exchange -/

theorem failed_ne {f : FailureKind} {why : Option RefusalKind} : CommandOutcome.failed f why ≠ .discarded false := nofun

theorem withdrawn_ne : CommandOutcome.withdrawn ≠ .discarded false := nofun

/-- A change of a context in use, reported. -/
theorem State.handle_change (hu : (s.ctx i).state ≠ .free) : handle (.changed i (s.ctx i).transaction) s = (s.contextChanged i, []) := by
  refine if_pos ?_
  rw [State.holds, Context.inUse, decide_eq_true hu, decide_eq_true rfl]
  rfl

/-- A refusal that is awaited. -/
theorem exec_refused (ha : s.awaitsHead ⟨c.head, some c, retries⟩) :
    exec (.refusedBusy c.head) s = finish [.outcome c (.failed .refused (some .busy)), .capture c.head (some c.headChannel) c.payload.kind .refused,
        .arbitrate] (s.exchangeDone c.head) ∧
      exec (.refusedBad c.head) s = finish [.outcome c (.failed .refused (some .bad)), .capture c.head (some c.headChannel) c.payload.kind .refused,
        .arbitrate] (s.exchangeDone c.head) := by
  have taken : ∀ why, s.takeRefusal c.head why ⟨c.head, some c, retries⟩ =
      (s.exchangeDone c.head, [.outcome c (.failed .refused (some why)), .capture c.head (some c.headChannel) c.payload.kind .refused]) :=
    fun _ => if_pos rfl
  refine ⟨(State.inWindow_runs ha fun x s => s.takeRefusal c.head .busy x).trans ?_, (State.inWindow_runs ha fun x s => s.takeRefusal c.head .bad x).trans ?_⟩
  · rw [taken]
    rfl
  · rw [taken]
    rfl

/-- The work of a failed exchange: what its outcome leads to, then the capture. -/
theorem finish_failed {n : Nat} {o : CommandOutcome} {h : HeadId} {hc : Option HeadChannel} {kind : ExchangeKind} {f : FailureKind} {v : State}
    (run : drain (n + 2) [.outcome c o, .capture h hc kind f, .arbitrate] t = drain 2 [.capture h hc kind f, .arbitrate] v)
    (clean : v.LatchClean) (hn : n + 1 < 65536) :
    finish [.outcome c o, .capture h hc kind f, .arbitrate] t = .next (v.captureFailure h hc kind f).arbitrate.1 :=
  finish_then_arbitrate (n := n + 1) (run.trans (drain_quiet rfl)) (LatchClean.captureFailure clean _ _ _ _) hn

/-- The outcome of a ZERO that fails for its channel's latest entry to ZEROING (R111). -/
theorem handle_refusedZero {price entry : Nat} {f : FailureKind} {why : Option RefusalKind} (hp : c.payload = .zero price entry)
    (ho : c.owner = some (i, (s.ctx i).transaction)) (hu : (s.ctx i).state ≠ .free) (hc : (s.ctx i).channels = some rs)
    (zeroing : (rs.get c.channel).state = .zeroing) (latest : (rs.get c.channel).zeroEntry = entry) :
    handle (.outcome c (.failed f why)) s = (s.setCtx i { s.ctx i with channels := some (rs.set c.channel (rs.get c.channel).refuse) },
      [.event .laneFault (.lane c.lane) zeroFailedCode, .changed i (s.ctx i).transaction]) := by
  rw [handle_zeroOutcome hp failed_ne, State.zeroOutcome, State.activeRecord_of hu hc ho]
  dsimp only
  rw [if_neg (by rw [not_or, not_not, not_not]; exact ⟨zeroing, latest⟩), State.zeroFailed, State.withChannel, State.modChannel_eq hc]

/-- A refused ZERO (R111). -/
theorem exec_refusedZero {price entry : Nat} {why : RefusalKind} (clean : s.LatchClean) (hp : c.payload = .zero price entry)
    (ho : c.owner = some (i, (s.ctx i).transaction)) (hu : (s.ctx i).state ≠ .free) (hc : (s.ctx i).channels = some rs)
    (zeroing : (rs.get c.channel).state = .zeroing) (latest : (rs.get c.channel).zeroEntry = entry) :
    finish [.outcome c (.failed .refused (some why)), .capture c.head (some c.headChannel) c.payload.kind .refused, .arbitrate] (s.exchangeDone c.head) =
      .next ((((((s.exchangeDone c.head).setCtx i { s.ctx i with channels := some (rs.set c.channel (rs.get c.channel).refuse) }).queueEvent
        .laneFault (.lane c.lane) zeroFailedCode).contextChanged i).captureFailure c.head (some c.headChannel) .zero .refused).arbitrate.1) := by
  have kind : c.payload.kind = .zero := by rw [hp]; rfl
  have outcome := handle_refusedZero (s := s.exchangeDone c.head) (f := .refused) (why := some why) hp ho hu hc zeroing latest
  have clean' := LatchClean.setCtx (LatchClean.exchangeDone clean c.head) i { s.ctx i with channels := some (rs.set c.channel (rs.get c.channel).refuse) }
  rw [kind]
  refine finish_failed (n := 3) ((drain_step outcome).trans ((drain_quiet rfl).trans (drain_quiet ?_))) (LatchClean.contextChanged ?_ i) (by decide)
  · have context : ((((s.exchangeDone c.head).setCtx i { s.ctx i with channels := some (rs.set c.channel (rs.get c.channel).refuse) }).queueEvent
        .laneFault (.lane c.lane) zeroFailedCode).ctx i) = { s.ctx i with channels := some (rs.set c.channel (rs.get c.channel).refuse) } :=
      Tab.get_set_self _ _ _
    have change := State.handle_change (s := (((s.exchangeDone c.head).setCtx i { s.ctx i with
      channels := some (rs.set c.channel (rs.get c.channel).refuse) }).queueEvent .laneFault (.lane c.lane) zeroFailedCode)) (i := i)
      (by rw [context]; exact hu)
    rw [context] at change
    exact change
  · exact LatchClean.congr clean' rfl rfl

/-! ### A RELEASE refused as unsupported -/

theorem exec_unsupported {p : Points} (ha : s.awaitsHead ⟨c.head, some c, retries⟩) (hp : c.payload = .release p) :
    exec (.refusedUnsupported c.head) s = finish ((s.splitRelease c.head c p).2 ++ [.arbitrate]) (s.splitRelease c.head c p).1 := by
  refine (State.inWindow_runs ha fun x s => s.takeUnsupported c.head x).trans ?_
  have taken : s.takeUnsupported c.head ⟨c.head, some c, retries⟩ = s.splitRelease c.head c p := by
    unfold State.takeUnsupported
    dsimp only
    rw [hp]
    exact if_pos rfl
  rw [taken]

/-- The head as the end of a refused RELEASE leaves it: it takes single frames (R90). -/
theorem State.singleFrame_eq (s : State) (h : HeadId) :
    (s.endExchange h).modHead h (fun x => { x with singleFrame := true }) =
      (s.exchangeDone h).setHead h { s.head h with failures := 0, singleFrame := true } := by
  have read : (s.exchangeDone h).head h = { s.head h with failures := 0 } := Tab.get_set_self _ _ _
  show (s.exchangeDone h).modHead h _ = _
  rw [State.modHead, read]

/-- A RELEASE comes back as LIMIT and OPEN right behind the CLOSEs where the list holds neither for its channel (R90). -/
theorem splitBack_fresh {p : Points}
    (fresh : ∀ d ∈ cs, d.lane = c.lane → d.channel = c.channel → d.payload.kind ≠ .limit ∧ d.payload.kind ≠ .openValve) :
    splitBack cs c p = cs.filter Command.isClose ++ { c with payload := .limit p false } :: { c with payload := .openValve } ::
      cs.filter fun d => !d.isClose := by
  have other : ∀ d ∈ cs, (c.splitLimit p).sameKind d = false ∧ c.splitOpen.sameKind d = false := fun d hd => by
    by_cases same : d.lane = c.lane ∧ d.channel = c.channel
    · obtain ⟨limit, opens⟩ := fresh d hd same.1 same.2
      exact ⟨Bool.and_eq_false_iff.mpr (.inr (decide_eq_false (Ne.symm limit))), Bool.and_eq_false_iff.mpr (.inr (decide_eq_false (Ne.symm opens)))⟩
    · exact ⟨Command.sameKind_of_channel (k := c.splitLimit p) same, Command.sameKind_of_channel (k := c.splitOpen) same⟩
  have newer : cs.find? (c.splitLimit p).sameKind = none := List.find?_eq_none.mpr fun d hd => by rw [(other d hd).1]; exact Bool.false_ne_true
  have rest : (cs.filter fun d => !((c.splitLimit p).sameKind d || c.splitOpen.sameKind d)) = cs :=
    List.filter_eq_self.mpr fun d hd => by rw [(other d hd).1, (other d hd).2]; rfl
  unfold splitBack
  dsimp only
  rw [newer, rest]
  rfl

/-- An unsupported RELEASE, in whose course no stop and no lockout fell (R90). -/
theorem exec_unsupported_split {p : Points} (ha : s.awaitsHead ⟨c.head, some c, retries⟩) (hp : c.payload = .release p) (latch : s.rd.latch = false)
    (stop : s.dlu.cutByStop = false) (lock : s.dlu.cutByLock = false) (free : ∀ q ∈ s.servedBy c.head, (s.lane q.1).state ≠ .locked)
    (fresh : ∀ d ∈ (s.head c.head).commands, d.lane = c.lane → d.channel = c.channel → d.payload.kind ≠ .limit ∧ d.payload.kind ≠ .openValve) :
    exec (.refusedUnsupported c.head) s = .next ((s.exchangeDone c.head).setHead c.head { s.head c.head with
        failures := 0
        singleFrame := true
        commands := (s.head c.head).commands.filter Command.isClose ++
          { c with payload := .limit p false } :: { c with payload := .openValve } ::
            (s.head c.head).commands.filter (fun d => !d.isClose) }).arbitrate.1 := by
  have unlocked : s.headLocked c.head = false := Bool.eq_false_iff.mpr fun locked => by
    obtain ⟨q, hq, hl⟩ := (State.headLocked_iff _ _).mp locked
    exact free q hq hl
  let v := (s.exchangeDone c.head).setHead c.head { s.head c.head with failures := 0, singleFrame := true }
  have calm : ¬ (v.rd.latch || v.dlu.cutByStop) = true := by
    show ¬ (s.rd.latch || s.dlu.cutByStop) = true
    rw [latch, stop]
    exact Bool.false_ne_true
  have served : ¬ (v.headLocked c.head || v.dlu.cutByLock) = true := by
    show ¬ (s.headLocked c.head || s.dlu.cutByLock) = true
    rw [unlocked, lock]
    exact Bool.false_ne_true
  have read : v.head c.head = { s.head c.head with failures := 0, singleFrame := true } := Tab.get_set_self _ _ _
  have split : s.splitRelease c.head c p = (v.setCommands c.head (splitBack (s.head c.head).commands c p), []) := by
    unfold State.splitRelease
    rw [State.singleFrame_eq]
    dsimp only
    rw [if_neg calm, if_neg served, read]
  have put : v.setCommands c.head (splitBack (s.head c.head).commands c p) = (s.exchangeDone c.head).setHead c.head { s.head c.head with
        failures := 0
        singleFrame := true
        commands := splitBack (s.head c.head).commands c p } := by
    rw [State.setCommands, State.modHead, read]
    simp only [v, State.setHead, Tab.set_set]
  rw [exec_unsupported ha hp, split, put, splitBack_fresh fresh]
  exact finish_arbitrate fun latched => absurd latched (by
    show ¬ s.rd.latch = true
    rw [latch]
    exact Bool.false_ne_true)

/-- An OPEN or RELEASE withdrawn: its OPENING channel returns to IDLE (R117). -/
theorem handle_withdrawnOpen (hk : k.opening = true) (ho : k.owner = some (i, (s.ctx i).transaction)) (hu : (s.ctx i).state ≠ .free)
    (hc : (s.ctx i).channels = some rs) (opening : (rs.get k.channel).state = .opening) :
    handle (.outcome k .withdrawn) s = (s.setCtx i { s.ctx i with channels := some (rs.set k.channel (rs.get k.channel).toIdle) },
      [.changed i (s.ctx i).transaction]) := by
  rw [handle_openOutcome hk withdrawn_ne]
  unfold State.openOutcome
  rw [State.activeRecord_of hu hc ho]
  dsimp only
  rw [if_pos opening, State.withChannel, State.modChannel_eq hc]

theorem finish_withdrawn (clean : s.LatchClean) (hk : k.opening = true) (ho : k.owner = some (i, (s.ctx i).transaction)) (hu : (s.ctx i).state ≠ .free)
    (hc : (s.ctx i).channels = some rs) (opening : (rs.get k.channel).state = .opening) :
    finish [.outcome k .withdrawn, .arbitrate] s =
      .next ((s.setCtx i { s.ctx i with channels := some (rs.set k.channel (rs.get k.channel).toIdle) }).contextChanged i).arbitrate.1 := by
  have changed := handle_changed (s := s) (i := i) (x := { s.ctx i with channels := some (rs.set k.channel (rs.get k.channel).toIdle) })
    (n := (s.ctx i).transaction) hu rfl
  exact finish_then_arbitrate (n := 2) ((drain_step (handle_withdrawnOpen hk ho hu hc opening)).trans (drain_step changed))
    (LatchClean.contextChanged (LatchClean.setCtx clean i _) i)

/-- An unsupported RELEASE under the all-stop latch (R90, R157). -/
theorem exec_unsupported_latched {p : Points} (ha : s.awaitsHead ⟨c.head, some c, retries⟩) (clean : s.LatchClean) (hp : c.payload = .release p)
    (latch : s.rd.latch = true) (ho : c.owner = some (i, (s.ctx i).transaction)) (hu : (s.ctx i).state ≠ .free) (hc : (s.ctx i).channels = some rs)
    (opening : (rs.get c.channel).state = .opening) :
    exec (.refusedUnsupported c.head) s = .next ((((s.exchangeDone c.head).setHead c.head { s.head c.head with
        failures := 0, singleFrame := true }).setCtx i { s.ctx i with
          channels := some (rs.set c.channel (rs.get c.channel).toIdle) }).contextChanged i).arbitrate.1 := by
  have clean' : ((s.exchangeDone c.head).setHead c.head { s.head c.head with failures := 0, singleFrame := true }).LatchClean := by
    refine LatchClean.setHead (LatchClean.exchangeDone clean c.head) fun e he => .inl ?_
    rw [show (s.exchangeDone c.head).head c.head = { s.head c.head with failures := 0 } from Tab.get_set_self _ _ _]
    exact he
  have latched : ((s.exchangeDone c.head).setHead c.head { s.head c.head with failures := 0, singleFrame := true }).rd.latch = true := latch
  have context : ((s.exchangeDone c.head).setHead c.head { s.head c.head with failures := 0, singleFrame := true }).ctx i = s.ctx i := rfl
  have split : s.splitRelease c.head c p =
      ((s.exchangeDone c.head).setHead c.head { s.head c.head with failures := 0, singleFrame := true }, [.outcome c.splitOpen .withdrawn]) := by
    unfold State.splitRelease
    rw [State.singleFrame_eq]
    dsimp only
    rw [latched]
    rfl
  rw [exec_unsupported ha hp, split]
  dsimp only
  rw [← context] at ho hu hc ⊢
  exact finish_withdrawn (clean := clean') rfl ho hu hc opening

/-! ### An exchange that fails -/

/-- The link as a failed exchange leaves it: quiet, with every head's list and service as before. -/
structure State.EndsAt (s : State) (d : DispenserUnit) : Prop where
  commands : ∀ h, (d.heads.get h).commands = (s.head h).commands
  online : ∀ h, (d.heads.get h).online = (s.head h).online
  quiet : d.line = .quiet

theorem State.endsAt_set {h : HeadId} {w : Head} (hd : d.heads = s.dlu.heads.set h w) (hq : d.line = .quiet)
    (commands : w.commands = (s.head h).commands) (online : w.online = (s.head h).online) : s.EndsAt d := by
  have read : ∀ g, d.heads.get g = if g = h then w else s.head g := fun g => by
    rw [hd]
    split
    · rename_i same
      rw [same]
      exact Tab.get_set_self _ _ _
    · rename_i other
      exact Tab.get_set_ne _ (Ne.symm other) _
  refine ⟨fun g => ?_, fun g => ?_, hq⟩
  · rw [read]
    split
    · rename_i same
      rw [same, commands]
    · rfl
  · rw [read]
    split
    · rename_i same
      rw [same, online]
    · rfl

theorem State.EndsAt.clean (h : s.EndsAt d) (clean : s.LatchClean) : ({ s with dlu := d } : State).LatchClean :=
  LatchClean.of_lists clean rfl fun g e he => .inl (by
    rw [← h.commands]
    exact he)

/-- What every failed exchange does: the link at rest, then the outcome of the command, then the capture (R84, R85, R89, R101). -/
theorem exec_fails {command : Instr} {f : FailureKind} (ha : s.awaitsHead ⟨c.head, some c, retries⟩) (fails : s.failsAs c retries command f t) :
    ∃ d why, t = { s with dlu := d } ∧ s.EndsAt d ∧
      exec command s = finish [.outcome c (.failed f why), .capture c.head (some c.headChannel) c.payload.kind f, .arbitrate] t := by
  obtain ⟨on, ⟨refusal, rfl, rfl⟩ | ⟨rfl, last, rfl, below, rfl⟩⟩ := fails
  · have ends : s.EndsAt (s.exchangeDone c.head).dlu := State.endsAt_set (h := c.head) rfl rfl rfl rfl
    obtain ⟨busy, bad⟩ := exec_refused ha
    rcases refusal with rfl | rfl
    · exact ⟨_, _, rfl, ends, busy⟩
    · exact ⟨_, _, rfl, ends, bad⟩
  · refine ⟨s.dlu.lost c.head { s.head c.head with failures := (s.head c.head).failures + 1 }, none, rfl,
      State.endsAt_set (h := c.head) rfl rfl rfl rfl, ?_⟩
    rw [exec_windowExpiry ha last, State.exchangeFails_below on below]
    rfl

end Sys2Proof.Machine
end

section
/-! COMMAND FAILED of a LIMIT on a FLOWING channel, of a CLOSE and of a FINAL (O44). -/

namespace Sys2Proof.Machine

open Sys2Proof

variable {s t : State} {i : ContextId} {l : LaneId} {rs : Triple ChannelRecord} {c k : Command} {x : Context} {d : DispenserUnit} {r : EventUnit}
  {ch e : Channel} {z : ChannelSetup} {y : Lane} {cs : List Command}

/-! ### A CLOSE that takes the place of another -/

/-- A CLOSE that joins a list in which another stands for its channel takes that one's place (R91). -/
theorem joinList_replaces {k' : Command} (hk : k.payload.kind = .close) (hk' : k'.payload.kind = .close) (lane : k.lane = k'.lane)
    (channel : k.channel = k'.channel) (fresh : ∀ e ∈ cs, ¬(e.lane = k.lane ∧ e.channel = k.channel)) :
    joinList (closedList cs k') k = closedList cs k ∧ joinWithdrawn (closedList cs k') k = [] := by
  have same : k.sameKind k' = true := by
    rw [Command.sameKind, Command.sameChannel, decide_eq_true lane, decide_eq_true channel, decide_eq_true (hk.trans hk'.symm)]
    rfl
  have other : ∀ e ∈ cs, (if k.sameKind e then k else e) = e := fun e he => if_neg (by
    rw [Command.sameKind_of_channel (fresh e he)]
    exact Bool.false_ne_true)
  have replaced : (closedList cs k').any k.sameKind = true := List.any_eq_true.mpr ⟨k', by unfold closedList; simp, same⟩
  have kept : ∀ p : Command → Bool, (cs.filter p).map (fun e => if k.sameKind e then k else e) = cs.filter p := fun p =>
    List.map_congr_left (fun e he => other e (List.mem_filter.mp he).1) |>.trans (List.map_id _)
  refine ⟨?_, if_pos replaced⟩
  unfold joinList
  rw [if_pos replaced, closedList, List.map_append, List.map_cons, kept, kept, if_pos same]
  rfl

/-- A CLOSE queued where another stands for its channel. -/
theorem State.view_queue_replaces {k' : Command} (h : s.Sees i l x y) (hy : y.state ≠ .locked) (hk : k.payload.kind = .close)
    (hk' : k'.payload.kind = .close) (lane : k.lane = k'.lane) (channel : k.channel = k'.channel)
    (list : (d.heads.get k.head).commands = closedList cs k') (on : (d.heads.get k.head).online = true)
    (free : ∀ q ∈ s.servedBy k.head, (s.lane q.1).state ≠ .locked) (fresh : ∀ e ∈ cs, ¬(e.lane = k.lane ∧ e.channel = k.channel)) :
    handle (.queue k) (s.view i l x y d r) = (s.view i l x y (d.withList k.head (closedList cs k)) r, []) := by
  obtain ⟨joined, withdrawn⟩ := joinList_replaces hk hk' lane channel fresh
  have listed : ((s.view i l x y d r).head k.head).commands = closedList cs k' := list
  rw [State.handle_queue (s := s.view i l x y d r) (k := k) on (State.view_headLocked h hy free) (by rw [Command.opening_of_close hk, Bool.and_false])
    (fun p hp => by rw [hp] at hk; cases hk)]
  unfold State.join
  dsimp only
  rw [listed, joined, withdrawn]
  rfl

/-! ### The OPEN of a failed LIMIT -/

/-- A failed LIMIT whose channel has no OPEN queued withdraws none (R92). -/
theorem handle_withdrawOpen_none (h : ∀ e ∈ (s.head c.head).commands, e.lane = c.lane → e.channel = c.channel → e.payload.kind ≠ .openValve) :
    handle (.withdrawOpen c) s = (s, []) := by
  have other : ∀ e ∈ (s.head c.head).commands, c.splitOpen.sameKind e = false := fun e he => by
    by_cases same : e.lane = c.lane ∧ e.channel = c.channel
    · exact Bool.and_eq_false_iff.mpr (.inr (decide_eq_false (Ne.symm (h e he same.1 same.2))))
    · exact Command.sameKind_of_channel (k := c.splitOpen) same
  have kept : ((s.head c.head).commands.filter fun e => !c.splitOpen.sameKind e) = (s.head c.head).commands :=
    List.filter_eq_self.mpr fun e he => by rw [other e he]; rfl
  have none : ((s.head c.head).commands.filter fun e => c.splitOpen.sameKind e) = [] :=
    List.filter_eq_nil_iff.mpr fun e he => by rw [other e he]; exact Bool.false_ne_true
  have same : s.setCommands c.head (s.head c.head).commands = s := by
    have heads : s.dlu.heads.set c.head (s.head c.head) = s.dlu.heads := Tab.set_get _ _
    show ({ s with dlu := { s.dlu with heads := s.dlu.heads.set c.head (s.head c.head) } } : State) = s
    rw [heads]
  show s.dropOpen c = _
  unfold State.dropOpen
  dsimp only
  rw [kept, none, same]
  rfl

/-- No OPEN stands for the channel of a CLOSE in a list that held nothing for it. -/
theorem closedList_noOpen (hk : k.payload.kind = .close) (fresh : ∀ e ∈ cs, ¬(e.lane = l ∧ e.channel = ch)) :
    ∀ e ∈ closedList cs k, e.lane = l → e.channel = ch → e.payload.kind ≠ .openValve := fun e he lane channel => by
  rcases mem_closed he with rfl | old
  · rw [hk]
    decide
  · exact absurd ⟨lane, channel⟩ (fresh e old)

/-! ### A LIMIT on a FLOWING channel -/

/-- The CLOSE that a fault queues for a channel of a bound lane. -/
def faultClose (z : ChannelSetup) (l : LaneId) (ch : Channel) (i : ContextId) (n : Nat) (k : FaultKind) : Command :=
  ⟨z.head, z.headChannel, l, ch, some (i, n), .close (.fault k) true⟩

/-- The CLOSE that the stop of a fault queues for a channel. -/
def stoppedClose (z : ChannelSetup) (l : LaneId) (ch : Channel) (i : ContextId) (n : Nat) (k : FaultKind) : Command :=
  ⟨z.head, z.headChannel, l, ch, some (i, n), .close (.fault k) false⟩

/-- A context taken into STOPPING by a fault, its FLOWING channel CLOSING (R123, R127). -/
def Context.faultedClosing (x : Context) (rs : Triple ChannelRecord) (ch : Channel) (k : FaultKind) : Context :=
  { x.faulted with channels := some (rs.set ch ((rs.get ch).beginClosing (.fault k))) }

/-- A first fault that stops a context with one present channel, FLOWING: the fault's CLOSE takes the place of the stop's (R91, R123, R127). -/
theorem drain_fault_flowing {n : Nat} {ws : List Work} (h : s.Sees i l x y) (hb : s.bound l = some i) (hc : x.channels = some rs)
    (flowing : (rs.get ch).state = .flowing) (state : x.state = .armed ∨ x.state = .delivering) (hz : (rs.get ch).setup = some z)
    (others : ∀ e, e ≠ ch → (rs.get e).state = .idle ∧ (rs.get e).setup = none) (same : ∀ e, s.setup l e = (rs.get e).setup)
    (h1 : y.state ≠ .faultStop) (h2 : y.state ≠ .locked) (on : (d.heads.get z.head).online = true)
    (free : ∀ q ∈ s.servedBy z.head, (s.lane q.1).state ≠ .locked)
    (fresh : ∀ f ∈ (d.heads.get z.head).commands, ¬(f.lane = l ∧ f.channel = ch)) (k : FaultKind) :
    drain (n + 6) (.fault l k :: ws) (s.view i l x y d r) =
      drain n ws (s.view i l (x.faultedClosing rs ch k) ((y.enterFaultStop k).closeQueued ch)
        (d.withList z.head (closedList (d.heads.get z.head).commands (faultClose z l ch i x.transaction k)))
        (s.heed (r.occur .laneFault (.lane l) k.code s.stamp))) := by
  have past : x.anyPastIdle = true := by
    unfold Context.anyPastIdle Context.anyChannel
    rw [hc, Option.any_some, Triple.any_iff]
    exact ⟨ch, by rw [flowing]; rfl⟩
  have cancel : x.cancellable = false := by
    unfold Context.cancellable
    rw [past]
    rcases state with h | h <;> rw [h] <;> rfl
  have stop : x.stoppable = true := by
    unfold Context.stoppable
    rw [past]
    rcases state with h | h <;> rw [h] <;> rfl
  have offered : x.state ≠ .offered := by rcases state with h | h <;> rw [h] <;> decide
  have hu : x.inUse = true := decide_eq_true (by rcases state with h | h <;> rw [h] <;> decide)
  have sees1 : s.Sees i l (x.flagFault.withReason .laneFault) (y.enterFaultStop k) := ⟨h.inUse, h.lane, h.transaction, h.setups, h.offered, h.config⟩
  have sees2 : s.Sees i l (x.faultedClosing rs ch k) (y.enterFaultStop k) := (h.faulted hu offered k).channel hc rfl
  have lane : (x.flagFault.withReason .laneFault).lane = some l := h.lane.trans (State.bound_lane hb).2
  have closing : ((rs.set ch ((rs.get ch).beginClosing (.fault k))).get ch).state = .closing := by rw [Triple.get_set_self]; rfl
  have unlocked : (y.enterFaultStop k).state ≠ .locked := show LaneState.faultStop ≠ .locked by decide
  have rests : ∀ e, e ≠ ch → (rs.get e).state.stops = false := fun e he => by rw [(others e he).1]; rfl
  have stops := State.view_stop_flowing (d := d) (r := s.heed (r.occur .laneFault (.lane l) k.code s.stamp)) sees1 hu offered hc lane flowing hz rests (.fault k)
  rw [State.heed_heed] at stops
  have queue := State.view_queue_close (d := d) (r := s.heed (r.occur .laneFault (.lane l) k.code s.stamp)) sees2 unlocked
    (k := (stoppedClose z l ch i x.transaction k)) rfl on free fresh
  have read : (d.withList z.head (closedList (d.heads.get z.head).commands (stoppedClose z l ch i x.transaction k))).heads.get z.head =
        { d.heads.get z.head with commands := closedList (d.heads.get z.head).commands (stoppedClose z l ch i x.transaction k) } := Tab.get_set_self _ _ _
  have stays := State.view_changed_stays (s := s) (i := i) (l := l) (x := y.enterFaultStop k)
    (d := d.withList z.head (closedList (d.heads.get z.head).commands (stoppedClose z l ch i x.transaction k)))
    (r := s.heed (r.occur .laneFault (.lane l) k.code s.stamp)) (c := x.faultedClosing rs ch k) rfl rfl
    (Context.anyInProgress_of (ch := ch) rfl (by rw [closing]; rfl))
  have closes := State.view_faultCloses
    (d := d.withList z.head (closedList (d.heads.get z.head).commands (stoppedClose z l ch i x.transaction k)))
    (r := s.heed (r.occur .laneFault (.lane l) k.code s.stamp)) sees2 hb rfl rfl ((same ch).trans hz)
    (fun e he => (same e).trans (others e he).2) (by rw [read]; exact on) k (by rw [closing]; decide) (by rw [closing]; decide) (by rw [closing]; decide)
  have replaces := State.view_queue_replaces (k := faultClose z l ch i x.transaction k) (cs := (d.heads.get z.head).commands)
    (d := d.withList z.head (closedList (d.heads.get z.head).commands (stoppedClose z l ch i x.transaction k)))
    (r := s.heed (r.occur .laneFault (.lane l) k.code s.stamp)) (sees2.closeQueued ch) unlocked rfl
    (k' := (stoppedClose z l ch i x.transaction k)) rfl rfl rfl
    (congrArg Head.commands read) ((congrArg Head.online read).trans on) free fresh
  rw [show (faultClose z l ch i x.transaction k).head = z.head from rfl, DispenserUnit.withList_withList] at replaces
  rw [show n + 6 = n + 1 + 1 + 1 + 1 + 1 + 1 from rfl, drain_step (State.view_fault_stops h hb k h1 h2 cancel stop)]
  refine (drain_step stops).trans ((drain_step queue).trans ((drain_step stays).trans ?_))
  exact (drain_step closes).trans (drain_step replaces)

/-! ### A CLOSE or FINAL that fails -/

/-- A channel FAILED by the command that failed for it: a FINAL leaves its end cause, a CLOSE makes it COMMAND FAILED (R120, R121). -/
def ChannelRecord.failedBy (q : ChannelRecord) (k : Command) : ChannelRecord :=
  { q.ended .failed with endCause := if k.payload = .final then q.endCause else some (.fault .commandFailed) }

/-- The outcome of a failed CLOSE or FINAL of a channel that it still concerns (R120, R121). -/
theorem handle_failedEnd {f : FailureKind} {why : Option RefusalKind} (ho : k.owner = some (i, (s.ctx i).transaction)) (hu : (s.ctx i).state ≠ .free)
    (hc : (s.ctx i).channels = some rs) (hk : k.payload.kind = .close ∧ ((rs.get k.channel).state = .closing ∨ (rs.get k.channel).state = .settling) ∨
      k.payload = .final ∧ (rs.get k.channel).state = .settling) :
    handle (.outcome k (.failed f why)) s = (s.setCtx i { s.ctx i with channels := some (rs.set k.channel ((rs.get k.channel).failedBy k)) },
      [.fault k.lane .commandFailed, .changed i (s.ctx i).transaction]) := by
  rcases hk with ⟨close, ends⟩ | ⟨final, settling⟩
  · obtain ⟨cause, byFault, hp⟩ : ∃ cause byFault, k.payload = .close cause byFault := by
      cases hp : k.payload with
      | close cause byFault => exact ⟨cause, byFault, rfl⟩
      | _ => rw [hp] at close; cases close
    have failed : (rs.get k.channel).failedBy k = { (rs.get k.channel).ended .failed with endCause := some (.fault .commandFailed) } := by
      unfold ChannelRecord.failedBy
      rw [if_neg (by rw [hp]; exact nofun)]
    rw [handle_closeOutcome hp failed_ne]
    unfold State.closeOutcome
    rw [State.activeRecord_of hu hc ho]
    dsimp only
    rw [State.withChannel, State.modChannel_eq hc, if_pos ends, failed]
  · have failed : (rs.get k.channel).failedBy k = (rs.get k.channel).ended .failed := by
      unfold ChannelRecord.failedBy
      rw [if_pos final]
      rfl
    rw [handle_finalOutcome final failed_ne]
    unfold State.finalOutcome
    rw [State.activeRecord_of hu hc ho]
    dsimp only
    rw [State.withChannel, State.modChannel_eq hc, if_pos settling, failed]

/-- A first fault of a STOPPING context whose one present channel has ended, not DONE: its CLOSE is queued, and the context closes (R127, R21). -/
theorem drain_fault_ended {n : Nat} {ws : List Work} (h : s.Sees i l x y) (hb : s.bound l = some i) (hc : x.channels = some rs)
    (state : x.state = .stopping) (failed : (rs.get ch).state = .failed) (ended : ∀ e, (rs.get e).state.inProgress = false)
    (hz : (rs.get ch).setup = some z) (hn : ∀ e, e ≠ ch → (rs.get e).setup = none) (same : ∀ e, s.setup l e = (rs.get e).setup)
    (h1 : y.state ≠ .faultStop) (h2 : y.state ≠ .locked) (on : (d.heads.get z.head).online = true)
    (free : ∀ q ∈ s.servedBy z.head, (s.lane q.1).state ≠ .locked)
    (fresh : ∀ f ∈ (d.heads.get z.head).commands, ¬(f.lane = l ∧ f.channel = ch)) (k : FaultKind) :
    drain (n + 4) (.fault l k :: .changed i x.transaction :: ws) (s.view i l x y d r) =
      drain n ws ((s.view i l x.flagFault ((y.enterFaultStop k).closeQueued ch)
        (d.withList z.head (closedList (d.heads.get z.head).commands (faultClose z l ch i x.transaction k)))
        (s.heed (r.occur .laneFault (.lane l) k.code s.stamp))).closeContext i .byVolume false) := by
  have sees1 : s.Sees i l x.flagFault (y.enterFaultStop k) := ⟨h.inUse, h.lane, h.transaction, h.setups, h.offered, h.config⟩
  have none : x.flagFault.anyInProgress = false := Context.anyInProgress_none (rs := rs) hc ended
  have cancel : x.cancellable = false := by rw [Context.cancellable, state]
  have stop : x.stoppable = false := by rw [Context.stoppable, state]
  have inUse : x.flagFault.inUse = true := decide_eq_true (by
    show x.state ≠ .free
    rw [state]
    decide)
  have closes := State.view_faultCloses (d := d) (r := s.heed (r.occur .laneFault (.lane l) k.code s.stamp)) sees1 hb hc rfl ((same ch).trans hz)
    (fun e he => (same e).trans (hn e he)) on k (by rw [failed]; decide) (by rw [failed]; decide) (by rw [failed]; decide)
  have queue := State.view_queue_close (d := d) (r := s.heed (r.occur .laneFault (.lane l) k.code s.stamp)) (sees1.closeQueued ch)
    (show LaneState.faultStop ≠ .locked by decide) (k := faultClose z l ch i x.transaction k) rfl on free fresh
  have changed := State.view_changed_closes (s := s) (i := i) (l := l) (x := (y.enterFaultStop k).closeQueued ch)
    (d := d.withList z.head (closedList (d.heads.get z.head).commands (faultClose z l ch i x.transaction k)))
    (r := s.heed (r.occur .laneFault (.lane l) k.code s.stamp)) (c := x.flagFault) inUse state none
  rw [show n + 4 = n + 1 + 1 + 1 + 1 from rfl, drain_step (State.view_fault_flags h hb k h1 h2 cancel stop)]
  exact (drain_step closes).trans ((drain_step queue).trans (drain_step changed))

end Sys2Proof.Machine
end

section
/-! COMMAND FAILED of a LIMIT split from a RELEASE whose OPEN is queued (O44): the OPEN is withdrawn, and the context closes. -/

namespace Sys2Proof.Machine

open Sys2Proof

variable {s t : State} {i : ContextId} {l m : LaneId} {rs : Triple ChannelRecord} {c k : Command} {x : Context} {d : DispenserUnit} {r : EventUnit}
  {ch e : Channel} {z : ChannelSetup} {y : Lane} {cs : List Command}

/-! ### A closing reads nothing of the dispenser link -/

/-- The state with the dispenser link as given. -/
def State.withLink (s : State) (d : DispenserUnit) : State := { s with dlu := d }

theorem State.writeRecord_withLink (s : State) (d : DispenserUnit) (i : ContextId) (p : ClosePath) :
    (s.withLink d).writeRecord i p = (s.writeRecord i p).withLink d := by
  have marked := apply_ite (fun u : State => u.withLink d) ((s.ctx i).overApproved ((s.ctx i).recordKind p) = true)
    ((s.modCtx i Context.flagOverLimit).queueEvent .overLimit (laneSubject (s.ctx i).lane) 0) s
  exact congrArg (fun u : State => u.appendRecord ((u.ctx i).toRecord ((s.ctx i).recordKind p) u.stamp)) marked.symm

theorem State.releaseLane_withLink (s : State) (d : DispenserUnit) (l : LaneId) : (s.withLink d).releaseLane l = (s.releaseLane l).withLink d :=
  (apply_ite (fun u : State => u.withLink d) ((s.lane l).state = .inUse) (s.modLane l fun x => { x with state := s.freeLaneState l }) s).symm

theorem State.adoptIfListed_withLink (s : State) (d : DispenserUnit) (l : LaneId) : (s.withLink d).adoptIfListed l = (s.adoptIfListed l).withLink d := by
  have settled : ∀ u : State, (u.withLink d).settlePrices = u.settlePrices.withLink d := fun u =>
    (apply_ite (fun u : State => u.withLink d) (u.lau.adoption.items.all (fun x => !x) = true)
      { u with lau := { u.lau with products := u.lau.products.map ProductEntry.settle } } u).symm
  refine Eq.trans ?_ (apply_ite (fun u : State => u.withLink d) (s.lau.adoption.get l = true) (s.adopt l).settlePrices s).symm
  exact congrArg (fun u => if s.lau.adoption.get l = true then u else s.withLink d) (settled (s.adopt l))

theorem State.testFaultStop_withLink (s : State) (d : DispenserUnit) (l : LaneId) : (s.withLink d).testFaultStop l = (s.testFaultStop l).withLink d := by
  have adopted := State.adoptIfListed_withLink (s.modLane l fun x => { x.clearFault with state := s.freeLaneState l }) d l
  refine Eq.trans ?_ (apply_ite (fun u : State => u.withLink d) ((decide ((s.lane l).state = .faultStop) && (s.bound l).isNone && s.laneQuiet l) = true)
    ((s.modLane l fun x => { x.clearFault with state := s.freeLaneState l }).adoptIfListed l) s).symm
  exact congrArg (fun u => if (decide ((s.lane l).state = .faultStop) && (s.bound l).isNone && s.laneQuiet l) = true then u else s.withLink d) adopted

theorem State.closeContext_withLink (s : State) (d : DispenserUnit) (i : ContextId) (p : ClosePath) :
    (s.withLink d).closeContext i p false = (s.closeContext i p false).withLink d := by
  have freed : ∀ u : State, ((u.withLink d).freeContext i).testAttn = ((u.freeContext i).testAttn).withLink d := fun _ => rfl
  have unbound : ∀ (u : State) (w : Option LaneId), (u.withLink d).unbind w false = (u.unbind w false).withLink d := fun u w => by
    cases w with
    | none => rfl
    | some l =>
      show (((u.withLink d).releaseLane l).adoptIfListed l).testFaultStop l = _
      rw [State.releaseLane_withLink, State.adoptIfListed_withLink, State.testFaultStop_withLink]
      rfl
  have said : ∀ (u : State) (w : Option TerminalId) (m : Option Message), (u.withLink d).sayClosing w m = (u.sayClosing w m).withLink d := fun u w m => by
    cases w <;> cases m <;> rfl
  have context : ((s.writeRecord i p).withLink d).ctx i = (s.writeRecord i p).ctx i := rfl
  unfold State.closeContext
  dsimp only
  rw [State.writeRecord_withLink, freed, unbound, said, context]

/-! ### A CLOSE that withdraws the OPEN of its channel -/

/-- The commands of a list for other channels. -/
def othersOf (cs : List Command) (l : LaneId) (ch : Channel) : List Command := cs.filter fun d => !decide (d.lane = l ∧ d.channel = ch)

theorem othersOf_fresh : ∀ e ∈ othersOf cs l ch, ¬(e.lane = l ∧ e.channel = ch) := fun e he => by
  have other := (List.mem_filter.mp he).2
  rw [Bool.not_eq_true', decide_eq_false_iff_not] at other
  exact other

/-- The commands of one kind for one channel in a sound list: at most one. -/
theorem ListSound.only {p : Command → Bool} (sound : ListSound cs) (alike : ∀ a ∈ cs, ∀ b ∈ cs, p a = true → p b = true → a.sameKind b = true)
    (found : ∃ a ∈ cs, p a = true) : ∃ a ∈ cs, p a = true ∧ cs.filter p = [a] := by
  obtain ⟨distinct, -⟩ := sound
  have short : ∀ as : List Command, (∀ a ∈ as, a ∈ cs ∧ p a = true) → as.Pairwise (fun a b => a.sameKind b = false) → as.length ≤ 1 := by
    intro as all apart
    match as, apart with
    | [], _ => exact Nat.zero_le _
    | [_], _ => exact Nat.le_refl _
    | a :: b :: _, apart =>
      have first := (List.pairwise_cons.mp apart).1 b (List.mem_cons_self ..)
      have ha := all a (List.mem_cons_self ..)
      have hb := all b (List.mem_cons_of_mem _ (List.mem_cons_self ..))
      rw [alike a ha.1 b hb.1 ha.2 hb.2] at first
      cases first
  have one := short (cs.filter p) (fun a ha => List.mem_filter.mp ha) (distinct.filter p)
  obtain ⟨a, ha, pa⟩ := found
  have mem := List.mem_filter.mpr ⟨ha, pa⟩
  match hf : cs.filter p with
  | [] => rw [hf] at mem; cases mem
  | [b] =>
    rw [hf] at mem
    cases List.mem_singleton.mp mem
    exact ⟨a, ha, pa, rfl⟩
  | _ :: _ :: _ =>
    rw [hf] at one
    simp at one

/-- A CLOSE that joins a list in which only ZERO, LIMIT, OPEN and RELEASE stand for its channel withdraws them (R92). -/
theorem joinList_withdraws_all (hk : k.payload.kind = .close) (releases : ∀ a ∈ cs, a.lane = k.lane → a.channel = k.channel → a.releasing = true) :
    joinList cs k = closedList (othersOf cs k.lane k.channel) k ∧
      joinWithdrawn cs k = cs.filter fun e => decide (e.lane = k.lane ∧ e.channel = k.channel) := by
  have apart : ∀ e ∈ cs, ¬ k.sameKind e = true := fun e he same => by
    rw [Command.sameKind, Bool.and_eq_true, Command.sameChannel, Bool.and_eq_true, decide_eq_true_iff, decide_eq_true_iff, decide_eq_true_iff] at same
    obtain ⟨⟨lane, channel⟩, kind⟩ := same
    have releasing := releases e he lane.symm channel.symm
    unfold Command.releasing at releasing
    rw [hk] at kind
    split at releasing
    case h_5 => cases releasing
    all_goals
      rename_i payload
      rw [payload] at kind
      cases kind
  have taken : ∀ e ∈ cs, (k.sameChannel e && e.releasing) = decide (e.lane = k.lane ∧ e.channel = k.channel) := fun e he => by
    by_cases here : e.lane = k.lane ∧ e.channel = k.channel
    · rw [decide_eq_true here, Command.sameChannel, decide_eq_true here.1.symm, decide_eq_true here.2.symm, releases e he here.1 here.2]
      rfl
    · rw [decide_eq_false here, Command.sameChannel, Bool.and_eq_false_iff, Bool.and_eq_false_iff, decide_eq_false_iff_not, decide_eq_false_iff_not]
      exact .inl (not_and_or.mp fun both => here ⟨both.1.symm, both.2.symm⟩)
  have fresh : ¬ cs.any k.sameKind = true := fun any => by
    obtain ⟨e, he, same⟩ := List.any_eq_true.mp any
    exact apart e he same
  have close : k.isClose = true := decide_eq_true hk
  refine ⟨?_, ?_⟩
  · unfold joinList
    rw [if_neg fresh, if_pos close]
    have rest : (cs.filter fun e => !(k.sameChannel e && e.releasing)) = othersOf cs k.lane k.channel :=
      List.filter_congr fun e he => by rw [taken e he]
    rw [rest]
    rfl
  · unfold joinWithdrawn withdrawnBy
    rw [if_neg fresh, if_pos close]
    exact List.filter_congr taken

/-- A CLOSE that joins a sound list in which only an OPEN stands for its channel withdraws it (R92). -/
theorem joinList_withdraws (hk : k.payload.kind = .close) (sound : ListSound cs) (found : ∃ a ∈ cs, a.lane = k.lane ∧ a.channel = k.channel)
    (opens : ∀ a ∈ cs, a.lane = k.lane → a.channel = k.channel → a.payload = .openValve) :
    ∃ o ∈ cs, (o.lane = k.lane ∧ o.channel = k.channel) ∧ joinList cs k = closedList (othersOf cs k.lane k.channel) k ∧ joinWithdrawn cs k = [o] := by
  obtain ⟨joined, withdrawn⟩ := joinList_withdraws_all hk fun a ha hl hc => by
    rw [Command.releasing, opens a ha hl hc]
  obtain ⟨o, ho, here, only⟩ := ListSound.only (p := fun e => decide (e.lane = k.lane ∧ e.channel = k.channel)) sound (fun a ha b hb pa pb => by
    obtain ⟨la, ca⟩ := of_decide_eq_true pa
    obtain ⟨lb, cb⟩ := of_decide_eq_true pb
    rw [Command.sameKind, Command.sameChannel, decide_eq_true (la.trans lb.symm), decide_eq_true (ca.trans cb.symm), opens a ha la ca, opens b hb lb cb]
    rfl) (found.imp fun a ha => ⟨ha.1, decide_eq_true ha.2⟩)
  exact ⟨o, ho, of_decide_eq_true here, joined, withdrawn.trans only⟩

/-- A CLOSE queued for a channel for which only an OPEN stands. -/
theorem State.view_queue_withdraws (h : s.Sees i l x y) (hy : y.state ≠ .locked) (hk : k.payload.kind = .close)
    (on : (d.heads.get k.head).online = true) (free : ∀ q ∈ s.servedBy k.head, (s.lane q.1).state ≠ .locked)
    (sound : ListSound (d.heads.get k.head).commands) (found : ∃ a ∈ (d.heads.get k.head).commands, a.lane = k.lane ∧ a.channel = k.channel)
    (opens : ∀ a ∈ (d.heads.get k.head).commands, a.lane = k.lane → a.channel = k.channel → a.payload = .openValve) :
    ∃ o ∈ (d.heads.get k.head).commands, (o.lane = k.lane ∧ o.channel = k.channel) ∧ handle (.queue k) (s.view i l x y d r) =
      (s.view i l x y (d.withList k.head (closedList (othersOf (d.heads.get k.head).commands k.lane k.channel) k)) r, [.outcome o .withdrawn]) := by
  obtain ⟨o, ho, here, joined, withdrawn⟩ := joinList_withdraws hk sound found opens
  refine ⟨o, ho, here, ?_⟩
  rw [State.handle_queue (s := s.view i l x y d r) (k := k) on (State.view_headLocked h hy free) (by rw [Command.opening_of_close hk, Bool.and_false])
    (fun p hp => by rw [hp] at hk; cases hk)]
  unfold State.join
  dsimp only
  rw [show ((s.view i l x y d r).head k.head).commands = (d.heads.get k.head).commands from rfl, joined, withdrawn]
  rfl

/-! ### A stop of an OPENING channel -/

/-- A stop of a context with one channel in delivery, OPENING. -/
theorem State.view_stop_opening (h : s.Sees i l x y) (hu : x.inUse = true) (ho : x.state ≠ .offered) (hc : x.channels = some rs)
    (hl : x.lane = some m) (opening : (rs.get ch).state = .opening) (hz : (rs.get ch).setup = some z)
    (hq : ∀ e, e ≠ ch → (rs.get e).state.stops = false) (cause : EndCause) :
    handle (.stop i x.transaction cause) (s.view i l x y d r) =
      (s.view i l { x.stopping with channels := some (rs.set ch { rs.get ch with closeQueued := some cause }) } y d (s.heed r),
        [.queue ⟨z.head, z.headChannel, m, ch, some (i, x.transaction), .close cause false⟩, .changed i x.transaction]) := by
  have closes := State.view_stopChannel (s := s) (i := i) (l := l) (x := y) (d := d) (r := s.heed r) (c := x.stopping) hc hl cause ch
  have close : stopClose i x.transaction m cause ch (rs.get ch) = some ⟨z.head, z.headChannel, m, ch, some (i, x.transaction), .close cause false⟩ := by
    unfold stopClose
    rw [if_pos (.inl opening), hz]
    rfl
  rw [ChannelRecord.stoppedBy_opening opening, show x.stopping.transaction = x.transaction from rfl, close] at closes
  have single := State.gather_single (s := s.view i l x.stopping y d (s.heed r)) (f := State.stopChannel i cause) (ch := ch)
    (fun e he => State.view_stopChannel_rests (c := x.stopping) hc (hq e he) cause)
    (fun e he => by
      rw [closes]
      refine State.view_stopChannel_rests (rs := rs.set ch { rs.get ch with closeQueued := some cause }) rfl ?_ cause
      rw [Triple.get_set_ne _ (Ne.symm he)]
      exact hq e he)
  rw [State.view_enterStopping h hu ho, single, closes]
  rfl

/-! ### The fault of an OPENING channel -/

/-- A context taken into STOPPING by a fault, its OPENING channel back in IDLE. -/
def Context.faultedIdle (x : Context) (rs : Triple ChannelRecord) (ch : Channel) : Context :=
  { x.faulted with channels := some (rs.set ch (rs.get ch).toIdle) }

/-- An OPEN of a context of the view withdrawn: its OPENING channel returns to IDLE (R92). -/
theorem State.view_withdrawnOpen (hu : x.state ≠ .free) (hc : x.channels = some rs) (ho : k.owner = some (i, x.transaction)) (hk : k.opening = true)
    (opening : (rs.get k.channel).state = .opening) :
    handle (.outcome k .withdrawn) (s.view i l x y d r) =
      (s.view i l { x with channels := some (rs.set k.channel (rs.get k.channel).toIdle) } y d r, [.changed i x.transaction]) := by
  have outcome := handle_withdrawnOpen (s := s.view i l x y d r) (k := k) (i := i) (rs := rs) hk
  rw [State.view_ctx, State.view_setCtx] at outcome
  exact outcome ho hu hc opening

/-- The CLOSE of a fault on a lane with no context and one present channel, taken in the place of another for that channel (R91, R127). -/
theorem drain_freeCloses_replaces {n : Nat} {ws : List Work} {k' : Command} (stop : (s.lane l).state = .faultStop) (hb : s.bound l = none)
    (hz : s.setup l ch = some z) (hn : ∀ e, e ≠ ch → s.setup l e = none) (on : (s.head z.head).online = true)
    (free : ∀ q ∈ s.servedBy z.head, (s.lane q.1).state ≠ .locked) (list : (s.head z.head).commands = closedList cs k')
    (hk' : k'.payload.kind = .close) (lane : l = k'.lane) (channel : ch = k'.channel) (fresh : ∀ e ∈ cs, ¬(e.lane = l ∧ e.channel = ch)) (k : FaultKind) :
    drain (n + 2) (.faultCloses l k :: ws) s = drain n ws ((s.setLane l ((s.lane l).closeQueued ch)).setHead z.head { s.head z.head with
      commands := closedList cs (freeClose z l ch k) }) := by
  have sees : s.Sees 0 l (s.ctx 0) ((s.lane l).closeQueued ch) := ⟨rfl, rfl, rfl, rfl, rfl, rfl⟩
  have unlocked : ((s.lane l).closeQueued ch).state ≠ .locked := by
    show (s.lane l).state ≠ .locked
    rw [stop]
    decide
  have queue := State.view_queue_replaces (d := s.dlu) (r := s.reu) (k := freeClose z l ch k) sees unlocked rfl hk' lane channel list on free fresh
  rw [show n + 2 = n + 1 + 1 from rfl, drain_step (handle_faultCloses_free stop hb hz hn on k), State.setLane_view]
  exact drain_step queue

/-- The work behind a closing, where the list of the head still holds the stop's CLOSE. -/
theorem drain_gone_relinked {n : Nat} {ws : List Work} {nr : Nat} {k' : Command} {u : State} (gone : (u.ctx i).state = .free)
    (stop : (u.lane l).state = .faultStop) (unbound : u.bound l = none) (hz : u.setup l ch = some z) (others : ∀ e, e ≠ ch → u.setup l e = none)
    (unlocked : ∀ q ∈ u.servedBy z.head, (u.lane q.1).state ≠ .locked) (on : (d.heads.get z.head).online = true)
    (fresh : ∀ e ∈ cs, ¬(e.lane = l ∧ e.channel = ch)) (hk' : k'.payload.kind = .close) (lane : l = k'.lane) (channel : ch = k'.channel)
    (link : u.dlu = d.withList z.head cs) (k : FaultKind) :
    drain (n + 3) (.changed i nr :: .faultCloses l k :: ws) (u.withLink (d.withList z.head (closedList cs k'))) =
      drain n ws ((u.setLane l ((u.lane l).closeQueued ch)).setHead z.head { u.head z.head with commands := closedList cs (freeClose z l ch k) }) := by
  have read : (d.withList z.head (closedList cs k')).heads.get z.head = { d.heads.get z.head with commands := closedList cs k' } :=
    Tab.get_set_self _ _ _
  have twice : (d.withList z.head (closedList cs k')).withList z.head (closedList cs (freeClose z l ch k)) =
      u.dlu.withList z.head (closedList cs (freeClose z l ch k)) := by
    rw [link, DispenserUnit.withList_withList, DispenserUnit.withList_withList]
  generalize d.withList z.head (closedList cs k') = d' at read twice ⊢
  have closes := drain_freeCloses_replaces (s := u.withLink d') (cs := cs) (n := n) (ws := ws) stop unbound hz others
    ((congrArg Head.online read).trans on) unlocked (congrArg Head.commands read) hk' lane channel fresh k
  have changed : handle (.changed i nr) (u.withLink d') = (u.withLink d', []) := (handle_gone (s := u.withLink d') gone nr true).1
  rw [show n + 3 = n + 2 + 1 from rfl, drain_quiet changed, closes]
  exact congrArg (fun w => drain n ws ((u.setLane l ((u.lane l).closeQueued ch)).withLink w)) twice

/-- What is left of the fault of a context that its stop has closed: its change has gone with it, and the fault's CLOSE takes the place of the stop's. -/
theorem drain_gone_closes {k : FaultKind} {n : Nat} {ws : List Work} {nr : Nat} (hb : s.bound l = some i) (hz : (rs.get ch).setup = some z)
    (others : ∀ e, e ≠ ch → (rs.get e).setup = none)
    (alone : ∀ j, j ≠ i → (s.ctx j).lane ≠ some l) (config : ∀ e, y.config.channels.get e = (rs.get e).setup)
    (hc : x.channels = some rs) (sees : s.Sees i l x (y.enterFaultStop k)) (on : (d.heads.get z.head).online = true)
    (free : ∀ q ∈ s.servedBy z.head, (s.lane q.1).state ≠ .locked) (fresh : ∀ e ∈ cs, ¬(e.lane = l ∧ e.channel = ch)) {k' : Command}
    (hk' : k'.payload.kind = .close) (lane : l = k'.lane) (channel : ch = k'.channel) {u : State}
    (hclosed : u = (s.view i l x (y.enterFaultStop k) (d.withList z.head cs) r).closeContext i .byVolume false) :
    drain (n + 3) (.changed i nr :: .faultCloses l k :: ws)
        ((s.view i l x (y.enterFaultStop k) (d.withList z.head (closedList cs k')) r).closeContext i .byVolume false) =
      drain n ws ((u.setLane l ((u.lane l).closeQueued ch)).setHead z.head { u.head z.head with commands := closedList cs (freeClose z l ch k) }) := by
  have relinked : (s.view i l x (y.enterFaultStop k) (d.withList z.head (closedList cs k')) r).closeContext i .byVolume false =
      u.withLink (d.withList z.head (closedList cs k')) := by
    rw [hclosed, ← State.closeContext_withLink]
    rfl
  have link : u.dlu = d.withList z.head cs := hclosed ▸ State.closeContext_dlu _ i .byVolume false
  have loud : (s.view i l x (y.enterFaultStop k) (d.withList z.head cs) r).ClosesLoud i l rs :=
    { bound := (congrFun (State.view_bound sees) l).trans hb
      alone := fun j hj => by
        rw [State.view_ctx_ne s hj]
        exact alone j hj
      channels := by
        rw [State.view_ctx]
        exact hc
      config := fun e => by
        rw [State.view_lane]
        exact config e
      stop := by
        rw [State.view_lane]
        rfl
      loud := ⟨ch, z, hz, by
        rw [State.view_lane, Lane.enterFaultStop_quiet]
        decide⟩ }
  have setup : ∀ e, u.setup l e = (rs.get e).setup := fun e => by
    rw [hclosed, loud.setup]
    exact State.setup_bound loud.bound loud.channels e
  have gone : (u.ctx i).state = .free := by
    rw [hclosed, State.closeContext_ctx, if_pos rfl]
    rfl
  have stop : (u.lane l).state = .faultStop := by
    rw [hclosed, loud.lane]
    exact loud.stop
  have unbound : u.bound l = none := by
    rw [hclosed]
    exact loud.unbound
  have unlocked : ∀ q ∈ u.servedBy z.head, (u.lane q.1).state ≠ .locked := by
    rw [hclosed]
    refine loud.free fun q hq => ?_
    rw [State.view_servedBy sees] at hq
    by_cases hm : q.1 = l
    · rw [hm, State.view_lane]
      exact show LaneState.faultStop ≠ .locked by decide
    · rw [State.view_lane_ne s hm]
      exact free q hq
  rw [relinked]
  clear relinked hclosed loud
  exact drain_gone_relinked gone stop unbound ((setup ch).trans hz) (fun e he => (setup e).trans (others e he)) unlocked on fresh hk' lane channel link k

/-- The fault of a context closed by it: nothing stands open after the withdrawal, and the fault's CLOSE takes the place of the stop's (R92, R127; notes/assumptions/20.md, 51.md). -/
theorem drain_fault_opening {n : Nat} {ws : List Work} (h : s.Sees i l x y) (hb : s.bound l = some i) (hc : x.channels = some rs)
    (opening : (rs.get ch).state = .opening) (state : x.state = .armed ∨ x.state = .delivering) (hz : (rs.get ch).setup = some z)
    (others : ∀ e, e ≠ ch → (rs.get e).state = .idle ∧ (rs.get e).setup = none)
    (alone : ∀ j, j ≠ i → (s.ctx j).lane ≠ some l) (config : ∀ e, y.config.channels.get e = (rs.get e).setup)
    (h1 : y.state ≠ .faultStop) (h2 : y.state ≠ .locked) (on : (d.heads.get z.head).online = true)
    (free : ∀ q ∈ s.servedBy z.head, (s.lane q.1).state ≠ .locked) (sound : ListSound (d.heads.get z.head).commands)
    (found : ∃ a ∈ (d.heads.get z.head).commands, a.lane = l ∧ a.channel = ch)
    (opens : ∀ a ∈ (d.heads.get z.head).commands, a.lane = l → a.channel = ch → a.payload = .openValve ∧ a.owner = some (i, x.transaction))
    (k : FaultKind) {u : State}
    (hclosed : u = (s.view i l (x.faultedIdle rs ch) (y.enterFaultStop k) (d.withList z.head (othersOf (d.heads.get z.head).commands l ch))
      (s.heed (r.occur .laneFault (.lane l) k.code s.stamp))).closeContext i .byVolume false) :
    drain (n + 8) (.fault l k :: ws) (s.view i l x y d r) = drain n ws ((u.setLane l ((u.lane l).closeQueued ch)).setHead z.head { u.head z.head with
      commands := closedList (othersOf (d.heads.get z.head).commands l ch) (freeClose z l ch k) }) := by
  have past : x.anyPastIdle = true := by
    unfold Context.anyPastIdle Context.anyChannel
    rw [hc, Option.any_some, Triple.any_iff]
    exact ⟨ch, by rw [opening]; rfl⟩
  have cancel : x.cancellable = false := by
    unfold Context.cancellable
    rw [past]
    rcases state with h | h <;> rw [h] <;> rfl
  have stop : x.stoppable = true := by
    unfold Context.stoppable
    rw [past]
    rcases state with h | h <;> rw [h] <;> rfl
  have offered : x.state ≠ .offered := by rcases state with h | h <;> rw [h] <;> decide
  have hu : x.inUse = true := decide_eq_true (by rcases state with h | h <;> rw [h] <;> decide)
  have sees1 : s.Sees i l (x.flagFault.withReason .laneFault) (y.enterFaultStop k) := ⟨h.inUse, h.lane, h.transaction, h.setups, h.offered, h.config⟩
  have sees2 : s.Sees i l { x.faulted with channels := some (rs.set ch { rs.get ch with closeQueued := some (.fault k) }) } (y.enterFaultStop k) :=
    (h.faulted hu offered k).channel hc rfl
  have sees3 : s.Sees i l (x.faultedIdle rs ch) (y.enterFaultStop k) := (h.faulted hu offered k).channel hc rfl
  have lane : (x.flagFault.withReason .laneFault).lane = some l := h.lane.trans (State.bound_lane hb).2
  have unlocked : (y.enterFaultStop k).state ≠ .locked := show LaneState.faultStop ≠ .locked by decide
  have rests : ∀ e, e ≠ ch → (rs.get e).state.stops = false := fun e he => by rw [(others e he).1]; rfl
  have stops := State.view_stop_opening (d := d) (r := s.heed (r.occur .laneFault (.lane l) k.code s.stamp)) sees1 hu offered hc lane opening hz rests (.fault k)
  rw [State.heed_heed] at stops
  obtain ⟨o, ho, here, queue⟩ := State.view_queue_withdraws (d := d) (r := s.heed (r.occur .laneFault (.lane l) k.code s.stamp)) sees2 unlocked
    (k := stoppedClose z l ch i x.transaction k) rfl on free sound found fun a ha hl hch => (opens a ha hl hch).1
  obtain ⟨payload, owner⟩ := opens o ho here.1 here.2
  have channel : o.channel = ch := here.2
  have idle := State.view_withdrawnOpen (s := s) (l := l) (y := y.enterFaultStop k) (k := o)
    (d := d.withList z.head (closedList (othersOf (d.heads.get z.head).commands l ch) (stoppedClose z l ch i x.transaction k)))
    (r := s.heed (r.occur .laneFault (.lane l) k.code s.stamp))
    (x := { x.faulted with channels := some (rs.set ch { rs.get ch with closeQueued := some (.fault k) }) }) nofun rfl owner
    (by rw [Command.opening, payload]) (by rw [channel, Triple.get_set_self]; exact opening)
  have records : (rs.set ch { rs.get ch with closeQueued := some (.fault k) }).set o.channel
      ((rs.set ch { rs.get ch with closeQueued := some (.fault k) }).get o.channel).toIdle = rs.set ch (rs.get ch).toIdle := by
    rw [channel]
    cases ch <;> rfl
  rw [records] at idle
  have setups : ∀ e, ((rs.set ch (rs.get ch).toIdle).get e).setup = (rs.get e).setup := Triple.set_setup rfl
  have none : (x.faultedIdle rs ch).anyInProgress = false := Context.anyInProgress_none rfl fun e => by
    by_cases he : e = ch
    · rw [he, Triple.get_set_self]
      rfl
    · rw [Triple.get_set_ne _ (Ne.symm he), (others e he).1]
      rfl
  have closes := State.view_changed_closes (s := s) (i := i) (l := l) (x := y.enterFaultStop k)
    (d := d.withList z.head (closedList (othersOf (d.heads.get z.head).commands l ch) (stoppedClose z l ch i x.transaction k)))
    (r := s.heed (r.occur .laneFault (.lane l) k.code s.stamp)) (c := x.faultedIdle rs ch) rfl rfl none
  rw [show n + 8 = n + 3 + 1 + 1 + 1 + 1 + 1 from rfl, drain_step (State.view_fault_stops h hb k h1 h2 cancel stop)]
  refine (drain_step stops).trans ((drain_step queue).trans ((drain_step idle).trans ((drain_step closes).trans ?_)))
  refine drain_gone_closes (rs := rs.set ch (rs.get ch).toIdle) (x := x.faultedIdle rs ch) hb ((setups ch).trans hz)
    (fun e he => (setups e).trans (others e he).2) alone (fun e => (config e).trans (setups e).symm) rfl sees3 on free othersOf_fresh rfl rfl rfl hclosed

end Sys2Proof.Machine
end

section
/-! Refusals and failures (O44), settled. -/

namespace Sys2Proof.Machine

open Sys2Proof

variable {s t : State} {i : ContextId} {l m : LaneId} {rs : Triple ChannelRecord} {c k : Command} {x : Context} {d : DispenserUnit} {r : EventUnit}
  {ch e : Channel} {z : ChannelSetup} {y : Lane} {cs : List Command} {f : FailureKind} {why : Option RefusalKind}

/-! ### What a failed command leaves, as a view -/

theorem State.link_view (s : State) (i : ContextId) (l : LaneId) (d : DispenserUnit) :
    ({ s with dlu := d } : State) = s.view i l (s.ctx i) (s.lane l) d s.reu :=
  congrArg (fun u : State => { u with dlu := d }) (s.view_self i l).symm

/-- A context, a lane, a head's list and an event put into a state, as a view. -/
theorem State.hit_view (sees : s.Sees i l x y) (d : DispenserUnit) (h : HeadId) (cs : List Command) (kind : EventKind) (sub : Subject) (n : Nat) :
    (((({ s with dlu := d } : State).setCtx i x).setLane l y).setHead h { ({ s with dlu := d } : State).head h with commands := cs }).queueEvent
        kind sub n = s.view i l x y (d.withList h cs) (s.heed (s.reu.occur kind sub n s.stamp)) :=
  State.put_view (d.withList h cs) sees kind sub n

/-- The lists of a view whose head's list only lost commands, or was joined by a CLOSE. -/
theorem LatchClean.listed (clean : s.LatchClean) (ends : s.EndsAt d) {h : HeadId}
    (new : ∀ e ∈ cs, e ∈ (s.head h).commands ∨ e.opening = false) : (s.view i l x y (d.withList h cs) r).LatchClean := by
  refine LatchClean.of_lists clean rfl fun g e he => ?_
  have read : (s.view i l x y (d.withList h cs) r).head g = (d.withList h cs).heads.get g := rfl
  rw [read, DispenserUnit.withList_head] at he
  split at he
  · rename_i same
    rw [same]
    exact new e he
  · rw [ends.commands] at he
    exact .inl he

theorem closedList_new (hk : k.opening = false) : ∀ e ∈ closedList cs k, e ∈ cs ∨ e.opening = false := fun e he => by
  rcases mem_closed he with rfl | old
  · exact .inr hk
  · exact .inl old

/-- What the clauses on a command failing as the first fault of its lane share: a bound lane of one present channel, its head ONLINE (R127). -/
structure State.FirstFailure (s : State) (c : Command) (i : ContextId) (rs : Triple ChannelRecord) (z : ChannelSetup) (d : DispenserUnit) : Prop where
  clean : s.LatchClean
  ends : s.EndsAt d
  online : (s.head c.head).online = true
  bound : s.bound c.lane = some i
  owner : c.owner = some (i, (s.ctx i).transaction)
  channels : (s.ctx i).channels = some rs
  setup : (rs.get c.channel).setup = some z
  head : z.head = c.head
  others : ∀ e, e ≠ c.channel → (rs.get e).state = .idle ∧ (rs.get e).setup = none
  running : (s.lane c.lane).state ≠ .faultStop ∧ (s.lane c.lane).state ≠ .locked
  free : ∀ q ∈ s.servedBy c.head, (s.lane q.1).state ≠ .locked

theorem State.FirstFailure.inUse (h : s.FirstFailure c i rs z d) : (s.ctx i).state ≠ .free := of_decide_eq_true (State.bound_lane h.bound).1

theorem State.FirstFailure.reads (h : s.FirstFailure c i rs z d) :
    (d.heads.get z.head).online = true ∧ (d.heads.get z.head).commands = (s.head c.head).commands ∧
      (∀ q ∈ s.servedBy z.head, (s.lane q.1).state ≠ .locked) := by
  rw [h.head, h.ends.online, h.ends.commands]
  exact ⟨h.online, rfl, h.free⟩

/-- The CLOSE of COMMAND FAILED for a bound lane. -/
theorem faultClose_owner (h : s.FirstFailure c i rs z d) :
    faultClose z c.lane c.channel i (s.ctx i).transaction .commandFailed =
      ⟨c.head, z.headChannel, c.lane, c.channel, c.owner, .close (.fault .commandFailed) true⟩ := by
  unfold faultClose
  rw [h.head, h.owner]

theorem freeClose_head (hz : z.head = c.head) :
    freeClose z c.lane c.channel .commandFailed = ⟨c.head, z.headChannel, c.lane, c.channel, none, .close (.fault .commandFailed) true⟩ := by
  unfold freeClose
  rw [hz]

/-! ### LIMIT -/

/-- A LIMIT that fails, its channel FLOWING (R114, R123, R127). -/
theorem finish_failedLimit_flowing {p : Points} {lowers : Bool} {hc : Option HeadChannel} (h : s.FirstFailure c i rs z d) (hp : c.payload = .limit p lowers)
    (state : (s.ctx i).state = .armed ∨ (s.ctx i).state = .delivering) (flowing : (rs.get c.channel).state = .flowing)
    (unlisted : ∀ d ∈ (s.head c.head).commands, ¬(d.lane = c.lane ∧ d.channel = c.channel)) :
    finish [.outcome c (.failed f why), .capture c.head hc c.payload.kind f, .arbitrate] { s with dlu := d } =
      .next (((s.view i c.lane ((s.ctx i).faultedClosing rs c.channel .commandFailed) ((s.lane c.lane).hit .commandFailed c.channel .queued)
        (d.withList c.head (closedList (s.head c.head).commands ⟨c.head, z.headChannel, c.lane, c.channel, c.owner, .close (.fault .commandFailed) true⟩))
        (s.heed (s.reu.occur .laneFault (.lane c.lane) FaultKind.commandFailed.code s.stamp))).captureFailure c.head hc c.payload.kind f).arbitrate.1) := by
  obtain ⟨on, commands, free⟩ := h.reads
  have fault := drain_fault_flowing (n := 3) (ws := [.withdrawOpen c, .capture c.head hc c.payload.kind f, .arbitrate]) (d := d) (r := s.reu)
    (State.Sees.refl s i c.lane) h.bound h.channels flowing state h.setup h.others (State.setup_bound h.bound h.channels) h.running.1 h.running.2 on free
    (by rw [commands]; exact unlisted) .commandFailed
  rw [commands, ← Lane.hit_queued, faultClose_owner h, h.head, ← State.link_view] at fault
  have outcome : handle (.outcome c (.failed f why)) { s with dlu := d } = ({ s with dlu := d }, [.fault c.lane .commandFailed, .withdrawOpen c]) :=
    handle_limitOutcome hp failed_ne
  have list : ((d.withList c.head (closedList (s.head c.head).commands
      ⟨c.head, z.headChannel, c.lane, c.channel, c.owner, .close (.fault .commandFailed) true⟩)).heads.get c.head).commands = _ :=
    congrArg Head.commands (Tab.get_set_self _ _ _)
  have clean := LatchClean.listed (i := i) (l := c.lane) (x := (s.ctx i).faultedClosing rs c.channel .commandFailed)
    (y := (s.lane c.lane).hit .commandFailed c.channel .queued) (r := s.heed (s.reu.occur .laneFault (.lane c.lane) FaultKind.commandFailed.code s.stamp))
    h.clean h.ends (h := c.head) (closedList_new (cs := (s.head c.head).commands)
      (k := ⟨c.head, z.headChannel, c.lane, c.channel, c.owner, .close (.fault .commandFailed) true⟩) rfl)
  refine finish_failed (n := 8) ((drain_step outcome).trans (fault.trans (drain_quiet (handle_withdrawOpen_none ?_)))) clean (by decide)
  rw [State.view_head, list]
  exact closedList_noOpen rfl unlisted

/-- A split LIMIT that fails, its channel OPENING and the OPEN queued: the OPEN is withdrawn and the context closes (R92, R114, R127). -/
theorem finish_failedLimit_opening {p : Points} {lowers : Bool} {hc : Option HeadChannel} {u : State} (h : s.FirstFailure c i rs z d)
    (hp : c.payload = .limit p lowers) (state : (s.ctx i).state = .armed ∨ (s.ctx i).state = .delivering)
    (opening : (rs.get c.channel).state = .opening) (alone : ∀ j, j ≠ i → (s.ctx j).lane ≠ some c.lane)
    (config : ∀ e, (s.lane c.lane).config.channels.get e = (rs.get e).setup) (sound : s.ListsSound)
    (found : ∃ a ∈ (s.head c.head).commands, a.lane = c.lane ∧ a.channel = c.channel)
    (opens : ∀ a ∈ (s.head c.head).commands, a.lane = c.lane → a.channel = c.channel → a.payload = .openValve ∧ a.owner = c.owner)
    (hclosed : u = (s.view i c.lane ((s.ctx i).faultedIdle rs c.channel) ((s.lane c.lane).hit .commandFailed c.channel .none)
        (d.withList c.head (othersOf (s.head c.head).commands c.lane c.channel))
        (s.heed (s.reu.occur .laneFault (.lane c.lane) FaultKind.commandFailed.code s.stamp))).closeContext i .byVolume false) :
    finish [.outcome c (.failed f why), .capture c.head hc c.payload.kind f, .arbitrate] { s with dlu := d } =
      .next ((((u.setLane c.lane ((u.lane c.lane).closeQueued c.channel)).setHead c.head { u.head c.head with
        commands := closedList (othersOf (s.head c.head).commands c.lane c.channel)
          ⟨c.head, z.headChannel, c.lane, c.channel, none, .close (.fault .commandFailed) true⟩ }).captureFailure c.head hc c.payload.kind f).arbitrate.1) := by
  obtain ⟨on, commands, free⟩ := h.reads
  have outcome : handle (.outcome c (.failed f why)) { s with dlu := d } = ({ s with dlu := d }, [.fault c.lane .commandFailed, .withdrawOpen c]) :=
    handle_limitOutcome hp failed_ne
  have listed := LatchClean.listed (i := i) (l := c.lane) (x := (s.ctx i).faultedIdle rs c.channel)
    (y := (s.lane c.lane).hit .commandFailed c.channel .none) (r := s.heed (s.reu.occur .laneFault (.lane c.lane) FaultKind.commandFailed.code s.stamp))
    h.clean h.ends (h := c.head) (cs := othersOf (s.head c.head).commands c.lane c.channel) fun e he => .inl (List.mem_filter.mp he).1
  have closed : u.LatchClean := hclosed ▸ LatchClean.closeContext listed i .byVolume false
  have lists : (u.head c.head).commands = othersOf (s.head c.head).commands c.lane c.channel := by
    have link : u.dlu = _ := hclosed ▸ State.closeContext_dlu _ i .byVolume false
    show (u.dlu.heads.get c.head).commands = _
    rw [link]
    exact congrArg Head.commands (Tab.get_set_self _ _ _)
  have fault := drain_fault_opening (n := 3) (ws := [.withdrawOpen c, .capture c.head hc c.payload.kind f, .arbitrate]) (d := d) (r := s.reu)
    (State.Sees.refl s i c.lane) h.bound h.channels opening state h.setup h.others alone config h.running.1 h.running.2 on free
    (by rw [commands]; exact sound c.head) (by rw [commands]; exact found) (by rw [commands, ← h.owner]; exact opens) .commandFailed (u := u)
    (by rw [hclosed, commands, h.head, Lane.hit_none])
  rw [commands, freeClose_head h.head, h.head, ← State.link_view] at fault
  refine finish_failed (n := 10) ((drain_step outcome).trans (fault.trans (drain_quiet (handle_withdrawOpen_none ?_)))) ?_ (by decide)
  · have list : (((u.setLane c.lane ((u.lane c.lane).closeQueued c.channel)).setHead c.head { u.head c.head with
        commands := closedList (othersOf (s.head c.head).commands c.lane c.channel)
          ⟨c.head, z.headChannel, c.lane, c.channel, none, .close (.fault .commandFailed) true⟩ }).head c.head).commands = _ :=
      congrArg Head.commands (Tab.get_set_self _ _ _)
    rw [list]
    exact closedList_noOpen rfl othersOf_fresh
  · refine LatchClean.setHead (LatchClean.setLane closed _ _) fun e he => ?_
    refine (closedList_new (cs := othersOf (s.head c.head).commands c.lane c.channel) rfl e he).imp_left fun old => ?_
    show e ∈ (u.head c.head).commands
    rw [lists]
    exact old

/-! ### CLOSE and FINAL -/

/-- The context of a channel made FAILED by a command of it. -/
def Context.failedBy (x : Context) (rs : Triple ChannelRecord) (c : Command) : Context :=
  { x with channels := some (rs.set c.channel ((rs.get c.channel).failedBy c)) }

theorem State.FirstFailure.failed (h : s.FirstFailure c i rs z d) :
    (∀ e, ((rs.set c.channel ((rs.get c.channel).failedBy c)).get e).setup = (rs.get e).setup) ∧
      (∀ e, ((rs.set c.channel ((rs.get c.channel).failedBy c)).get e).state.stops = false ∧
        ((rs.set c.channel ((rs.get c.channel).failedBy c)).get e).state.inProgress = false) ∧
      s.Sees i c.lane ((s.ctx i).failedBy rs c) (s.lane c.lane) := by
  have setups : ∀ e, ((rs.set c.channel ((rs.get c.channel).failedBy c)).get e).setup = (rs.get e).setup := Triple.set_setup rfl
  refine ⟨setups, fun e => ?_, (State.Sees.refl s i c.lane).channel h.channels rfl⟩
  by_cases he : e = c.channel
  · rw [he, Triple.get_set_self]
    exact ⟨rfl, rfl⟩
  · rw [Triple.get_set_ne _ (Ne.symm he), (h.others e he).1]
    exact ⟨rfl, rfl⟩

theorem State.FirstFailure.outcome (h : s.FirstFailure c i rs z d)
    (hk : c.payload.kind = .close ∧ ((rs.get c.channel).state = .closing ∨ (rs.get c.channel).state = .settling) ∨
      c.payload = .final ∧ (rs.get c.channel).state = .settling) :
    handle (.outcome c (.failed f why)) { s with dlu := d } =
      (s.view i c.lane ((s.ctx i).failedBy rs c) (s.lane c.lane) d s.reu, [.fault c.lane .commandFailed, .changed i (s.ctx i).transaction]) := by
  have failed := handle_failedEnd (s := { s with dlu := d }) (f := f) (why := why) h.owner h.inUse h.channels hk
  rw [State.link_view s i c.lane, State.view_setCtx, State.view_ctx] at failed
  rw [State.link_view s i c.lane]
  exact failed

/-- A CLOSE or FINAL that fails in a STOPPING context (R120, R121, R127). -/
theorem finish_failedEnd_stopping {hc : Option HeadChannel} (h : s.FirstFailure c i rs z d)
    (hk : c.payload.kind = .close ∧ ((rs.get c.channel).state = .closing ∨ (rs.get c.channel).state = .settling) ∨
      c.payload = .final ∧ (rs.get c.channel).state = .settling) (state : (s.ctx i).state = .stopping)
    (unlisted : ∀ d ∈ (s.head c.head).commands, ¬(d.lane = c.lane ∧ d.channel = c.channel)) :
    finish [.outcome c (.failed f why), .capture c.head hc c.payload.kind f, .arbitrate] { s with dlu := d } =
      .next ((((s.view i c.lane ((s.ctx i).failedBy rs c).flagFault ((s.lane c.lane).hit .commandFailed c.channel .queued)
        (d.withList c.head (closedList (s.head c.head).commands ⟨c.head, z.headChannel, c.lane, c.channel, c.owner, .close (.fault .commandFailed) true⟩))
        (s.heed (s.reu.occur .laneFault (.lane c.lane) FaultKind.commandFailed.code s.stamp))).closeContext i .byVolume false).captureFailure
          c.head hc c.payload.kind f).arbitrate.1) := by
  obtain ⟨on, commands, free⟩ := h.reads
  obtain ⟨setups, ended, sees⟩ := h.failed
  have fault := drain_fault_ended (n := 2) (ws := [.capture c.head hc c.payload.kind f, .arbitrate]) (d := d) (r := s.reu) (ch := c.channel) sees h.bound
    rfl state (by rw [Triple.get_set_self]; rfl) (fun e => (ended e).2) ((setups _).trans h.setup) (fun e he => (setups e).trans (h.others e he).2)
    (fun e => (State.setup_bound h.bound h.channels e).trans (setups e).symm) h.running.1 h.running.2 on free (by rw [commands]; exact unlisted)
    .commandFailed
  have close : faultClose z c.lane c.channel i ((s.ctx i).failedBy rs c).transaction .commandFailed = _ := faultClose_owner h
  rw [commands, ← Lane.hit_queued, close, h.head] at fault
  have listed := LatchClean.listed (i := i) (l := c.lane) (x := ((s.ctx i).failedBy rs c).flagFault)
    (y := (s.lane c.lane).hit .commandFailed c.channel .queued) (r := s.heed (s.reu.occur .laneFault (.lane c.lane) FaultKind.commandFailed.code s.stamp))
    h.clean h.ends (h := c.head) (closedList_new (cs := (s.head c.head).commands)
      (k := ⟨c.head, z.headChannel, c.lane, c.channel, c.owner, .close (.fault .commandFailed) true⟩) rfl)
  exact finish_failed (n := 5) ((drain_step (h.outcome hk)).trans fault) (LatchClean.closeContext listed i .byVolume false) (by decide)

/-- The change of a context that its fault has closed. -/
theorem handle_closedGone {u : State} {h : HeadId} {w : Head} (gone : (u.ctx i).state = .free) (n : Nat) :
    handle (.changed i n) ((u.setLane l y).setHead h w) = ((u.setLane l y).setHead h w, []) := by
  have kept : ((u.setLane l y).setHead h w).ctx i = u.ctx i := rfl
  exact (handle_gone (kept ▸ gone) n true).1

theorem LatchClean.closedList {u : State} {h : HeadId} (closed : u.LatchClean) (lists : (u.head h).commands = cs) {cause : EndCause} {byFault : Bool}
    {hc : HeadChannel} :
    ((u.setLane l y).setHead h { u.head h with commands := closedList cs ⟨h, hc, m, ch, none, .close cause byFault⟩ }).LatchClean := by
  refine LatchClean.setHead (LatchClean.setLane closed _ _) fun e he => ?_
  rw [← lists] at he
  exact closedList_new (cs := (u.head h).commands) rfl e he

/-- One that fails in a DELIVERING context: it closes before the CLOSE of the fault is queued (R120, R121, R127; notes/assumptions/51.md). -/
theorem finish_failedEnd_delivering {hc : Option HeadChannel} {u : State} (h : s.FirstFailure c i rs z d)
    (hk : c.payload.kind = .close ∧ ((rs.get c.channel).state = .closing ∨ (rs.get c.channel).state = .settling) ∨
      c.payload = .final ∧ (rs.get c.channel).state = .settling) (state : (s.ctx i).state = .delivering)
    (alone : ∀ j, j ≠ i → (s.ctx j).lane ≠ some c.lane) (config : ∀ e, (s.lane c.lane).config.channels.get e = (rs.get e).setup)
    (unlisted : ∀ d ∈ (s.head c.head).commands, ¬(d.lane = c.lane ∧ d.channel = c.channel))
    (hclosed : u = (s.faultView i c.lane ((s.ctx i).failedBy rs c).faulted (s.lane c.lane) d s.reu .commandFailed).closeContext i .byVolume false) :
    finish [.outcome c (.failed f why), .capture c.head hc c.payload.kind f, .arbitrate] { s with dlu := d } =
      .next ((((u.setLane c.lane ((u.lane c.lane).closeQueued c.channel)).setHead c.head { u.head c.head with
        commands := closedList (s.head c.head).commands
          ⟨c.head, z.headChannel, c.lane, c.channel, none, .close (.fault .commandFailed) true⟩ }).captureFailure c.head hc c.payload.kind f).arbitrate.1) := by
  obtain ⟨on, commands, free⟩ := h.reads
  obtain ⟨setups, ended, sees⟩ := h.failed
  have inUse : ((s.ctx i).failedBy rs c).inUse = true := (State.bound_lane h.bound).1
  have cancel : ((s.ctx i).failedBy rs c).cancellable = false := by
    unfold Context.cancellable
    rw [show ((s.ctx i).failedBy rs c).state = .delivering from state]
  have stop : ((s.ctx i).failedBy rs c).stoppable = true := by
    unfold Context.stoppable
    rw [show ((s.ctx i).failedBy rs c).state = .delivering from state]
  have offered : ((s.ctx i).failedBy rs c).state ≠ .offered := by
    rw [show ((s.ctx i).failedBy rs c).state = .delivering from state]
    decide
  have fault := drain_fault_closes (n := 3) (ws := [.changed i (s.ctx i).transaction, .capture c.head hc c.payload.kind f, .arbitrate])
    (d := d) (r := s.reu) (rs := rs.set c.channel ((rs.get c.channel).failedBy c)) (ch := c.channel) (z := z) sees h.bound rfl
    ((setups _).trans h.setup) (fun e he => (setups e).trans (h.others e he).2) (fun e => (ended e).1) (fun e => (ended e).2) cancel stop offered inUse
    h.running.1 h.running.2 alone (fun e => (config e).trans (setups e).symm) on free (by rw [commands]; exact unlisted) .commandFailed hclosed
  have link : u.dlu = d := hclosed ▸ State.closeContext_dlu _ i .byVolume false
  have lists : ∀ g, (u.head g).commands = (s.head g).commands := fun g => by
    show (u.dlu.heads.get g).commands = _
    rw [link, h.ends.commands]
  have faulted : (s.faultView i c.lane ((s.ctx i).failedBy rs c).faulted (s.lane c.lane) d s.reu .commandFailed).LatchClean :=
    LatchClean.view (h.ends.clean h.clean)
  have closed : u.LatchClean := by
    rw [hclosed]
    exact LatchClean.closeContext faulted i .byVolume false
  have cleared : (u.ctx i).state = .free := by
    rw [hclosed, State.closeContext_ctx, if_pos rfl]
    rfl
  rw [lists, freeClose_head h.head, h.head] at fault
  exact finish_failed (n := 7) ((drain_step (h.outcome hk)).trans (fault.trans (drain_quiet (handle_closedGone cleared _))))
    (LatchClean.closedList closed (lists c.head)) (by decide)

/-! ### The second fault -/

/-- A CLOSE that nothing owns failing on a lane in FAULT STOP with no context: the lane is LOCKED (R128, R129). -/
theorem finish_failedClose_locks {hc : Option HeadChannel} (clean : s.LatchClean) (ends : s.EndsAt d) (ho : c.owner = none) (hk : c.payload.kind = .close)
    (free : s.bound c.lane = none) (stopped : (s.lane c.lane).state = .faultStop) (none : (s.head c.head).commands = [])
    (alone : ∀ h, h ≠ c.head → ∀ q ∈ s.servedBy h, q.1 ≠ c.lane) :
    finish [.outcome c (.failed f why), .capture c.head hc c.payload.kind f, .arbitrate] { s with dlu := d } =
      .next (((((({ s with dlu := d } : State).lockedBy c.lane (s.lane c.lane) .commandFailed).queueEvent .laneFault (.lane c.lane)
        FaultKind.commandFailed.code).queueEvent .laneLockout (.lane c.lane) FaultKind.commandFailed.code).captureFailure c.head hc c.payload.kind
          f).arbitrate.1) := by
  obtain ⟨cause, byFault, hp⟩ : ∃ cause byFault, c.payload = .close cause byFault := by
    cases hp : c.payload with
    | close cause byFault => exact ⟨cause, byFault, rfl⟩
    | _ => rw [hp] at hk; cases hk
  have unowned : ({ s with dlu := d } : State).activeRecord c = .none := by
    unfold State.activeRecord
    rw [ho]
  have outcome : handle (.outcome c (.failed f why)) { s with dlu := d } = ({ s with dlu := d }, [.fault c.lane .commandFailed]) := by
    rw [handle_closeOutcome hp failed_ne]
    unfold State.closeOutcome
    rw [unowned]
  have self : ({ s with dlu := d } : State).setLane c.lane (s.lane c.lane) = { s with dlu := d } := by
    have lanes : s.dcu.lanes.set c.lane (s.lane c.lane) = s.dcu.lanes := Tab.set_get _ _
    show ({ s with dlu := d, dcu := { s.dcu with lanes := s.dcu.lanes.set c.lane (s.lane c.lane) } } : State) = _
    rw [lanes]
  have fault := handle_secondFault (s := { s with dlu := d }) (l := c.lane) (y := s.lane c.lane) stopped free (fun h hq => by
    obtain ⟨q, hq, hl⟩ := hq
    have here : h = c.head := by_contra fun other => alone h other q hq hl
    show (d.heads.get h).commands = []
    rw [ends.commands, here, none]) ends.quiet rfl .commandFailed
  rw [self] at fault
  exact finish_failed (n := 4) ((drain_step outcome).trans ((drain_step fault).trans ((drain_quiet rfl).trans (drain_quiet rfl))))
    (LatchClean.congr (ends.clean clean) rfl rfl) (by decide)

/-- Settles O44. -/
theorem refusalsRunTheirChannel : Obligations.RefusalsRunTheirChannel := by
  unfold Obligations.RefusalsRunTheirChannel
  intro s c retries ha clean u w
  refine ⟨?_, fun p hp latch stop lock free fresh => ?_, fun p i rs hp latch ho hu hc opening => ?_, ?_⟩
  · intro i rs price entry hp ho hu hc zeroing latest refused
    obtain ⟨busy, bad⟩ := exec_refused ha
    rw [busy, bad]
    exact ⟨exec_refusedZero clean hp ho hu hc zeroing latest, exec_refusedZero clean hp ho hu hc zeroing latest⟩
  · exact exec_unsupported_split ha hp latch stop lock free fresh
  · exact exec_unsupported_latched ha clean hp latch ho hu hc opening
  intro command f t fails x answers cause
  obtain ⟨d, why, rfl, ends, run⟩ := exec_fails ha fails
  obtain ⟨on, -⟩ := fails
  have answer : ∀ v : State, finish [.outcome c (.failed f why), .capture c.head (some c.headChannel) c.payload.kind f, .arbitrate] { s with dlu := d } =
      .next (v.captureFailure c.head (some c.headChannel) c.payload.kind f).arbitrate.1 → answers v := fun v h => run.trans h
  refine ⟨?_, fun ho hk hb stopped none alone => answer _ (finish_failedClose_locks clean ends ho hk hb stopped none alone)⟩
  intro i rs z hb ho hc hz head others h1 h2 free r alone unlisted joined flagged stopping hit closing
  have first : s.FirstFailure c i rs z d := ⟨clean, ends, on, hb, ho, hc, hz, head, others, ⟨h1, h2⟩, free⟩
  have seen : ∀ (ctx : Context) (close : FaultClose) (ds : List Command), s.Sees i c.lane ctx ((s.lane c.lane).enterFaultStop .commandFailed) →
      hit ctx close ds = s.view i c.lane ctx ((s.lane c.lane).hit .commandFailed c.channel close) (d.withList c.head ds)
        (s.heed (s.reu.occur .laneFault (.lane c.lane) FaultKind.commandFailed.code s.stamp)) := fun ctx close ds sees =>
    State.hit_view (y := (s.lane c.lane).hit .commandFailed c.channel close)
      ⟨sees.inUse, sees.lane, sees.transaction, sees.setups, sees.offered, sees.config⟩ d c.head ds _ _ _
  refine ⟨fun p lowers hp state => ⟨fun flowing fresh => ?_, fun opening apart sound found opens => ?_⟩, fun hk fresh => ?_⟩
  · have hu : (s.ctx i).inUse = true := (State.bound_lane hb).1
    have offered : (s.ctx i).state ≠ .offered := by rcases state with h | h <;> rw [h] <;> decide
    have sees : s.Sees i c.lane ((s.ctx i).faultedClosing rs c.channel .commandFailed) ((s.lane c.lane).enterFaultStop .commandFailed) :=
      ((State.Sees.refl s i c.lane).faulted hu offered .commandFailed).channel hc rfl
    exact answer _ ((finish_failedLimit_flowing first hp state flowing fresh).trans (congrArg
      (fun v : State => Host.Outcome.next (v.captureFailure c.head (some c.headChannel) c.payload.kind f).arbitrate.1) (seen _ _ _ sees).symm))
  · have hu : (s.ctx i).inUse = true := (State.bound_lane hb).1
    have offered : (s.ctx i).state ≠ .offered := by rcases state with h | h <;> rw [h] <;> decide
    have sees : s.Sees i c.lane ((s.ctx i).faultedIdle rs c.channel) ((s.lane c.lane).enterFaultStop .commandFailed) :=
      ((State.Sees.refl s i c.lane).faulted hu offered .commandFailed).channel hc rfl
    obtain ⟨o, ho', lane, channel, -⟩ := found
    exact answer _ (finish_failedLimit_opening first hp state opening apart.1 apart.2 sound ⟨o, ho', lane, channel⟩ opens
      (congrArg (fun v : State => v.closeContext i .byVolume false) (seen _ _ _ sees)))
  · obtain ⟨-, -, sees⟩ := first.failed
    refine ⟨fun state => ?_, fun state apart => ?_⟩
    · have flag : s.Sees i c.lane ((s.ctx i).failedBy rs c).flagFault ((s.lane c.lane).enterFaultStop .commandFailed) :=
        ⟨sees.inUse, sees.lane, sees.transaction, sees.setups, sees.offered, sees.config⟩
      exact answer _ ((finish_failedEnd_stopping first hk state fresh).trans (congrArg
        (fun v : State => Host.Outcome.next ((v.closeContext i .byVolume false).captureFailure c.head (some c.headChannel) c.payload.kind f).arbitrate.1)
        (seen _ _ _ flag).symm))
    · have hu : (s.ctx i).inUse = true := (State.bound_lane hb).1
      have offered : ((s.ctx i).failedBy rs c).state ≠ .offered := by
        show (s.ctx i).state ≠ .offered
        rw [state]
        decide
      have same : d.withList c.head w.commands = d := by
        have heads : d.heads.set c.head { d.heads.get c.head with commands := w.commands } = d.heads := by
          rw [← ends.commands]
          exact Tab.set_get _ _
        unfold DispenserUnit.withList
        rw [heads]
      have hits := seen ((s.ctx i).failedBy rs c).faulted .none w.commands
        ⟨sees.inUse ▸ hu.symm ▸ rfl, sees.lane, sees.transaction, sees.setups, by rw [← sees.offered, decide_eq_false offered]; rfl, rfl⟩
      rw [same, Lane.hit_none] at hits
      exact answer _ (finish_failedEnd_delivering first hk state apart.1 apart.2 fresh (congrArg (fun v : State => v.closeContext i .byVolume false) hits))

end Sys2Proof.Machine
end

section
/-! Good poll replies of ONLINE heads (O45): the report handed on, acted on, noted. -/

namespace Sys2Proof.Machine

open Sys2Proof

variable {s t u : State} {h : HeadId} {i : ContextId} {l m : LaneId} {ch e : Channel} {z : ChannelSetup} {k : Handed} {r : ChannelReport}
  {rs : List ChannelReport} {cs : Triple ChannelRecord} {q : ChannelRecord} {x : Context} {d : DispenserUnit} {retries : Nat} {restarted : Bool}

/-! ### Count indications and extension -/

/-- The count of a report whose low-16 count is the channel's own (R98). -/
theorem ChannelRecord.extend_same (same : q.low16 = r.low16) (fits : q.extended ≤ 4294967295) (restarted : Bool) :
    q.extend restarted r.low16 = q ∧ jumps q restarted r.low16 = false := by
  have delta : countDelta r.low16 q.low16 = 0 := by
    rw [same]
    unfold countDelta
    simp
  have count : addCount q.extended 0 = q.extended := if_pos fits
  have whole : ({ q with low16 := r.low16 } : ChannelRecord) = q := by rw [← same]
  have small : decide (32768 ≤ (0 : Nat)) = false := rfl
  unfold ChannelRecord.extend jumps
  rw [delta, count, small, Bool.and_false, Bool.or_false]
  refine ⟨?_, rfl⟩
  split
  · rfl
  · split
    · exact whole
    · exact whole

/-- A channel that is not extending keeps its count (R98). -/
theorem ChannelRecord.extend_still (still : q.state.extending = false) (restarted : Bool) (low16 : BitVec 16) :
    q.extend restarted low16 = q ∧ jumps q restarted low16 = false := by
  unfold ChannelRecord.extend jumps
  rw [still]
  exact ⟨rfl, rfl⟩

/-- A count extended by a delta that is no jump, or held after RESTARTED (R88, R98). -/
theorem ChannelRecord.extend_by {n : Nat} (extending : q.state.extending = true) (small : restarted = true ∨ (r.low16 - q.low16).toNat < 32768)
    (hn : (if restarted = true then q.extended else q.extended + (r.low16 - q.low16).toNat) = n) (fits : n ≤ 4294967295) :
    q.extend restarted r.low16 = { q with low16 := r.low16, extended := n } ∧ jumps q restarted r.low16 = false := by
  subst hn
  unfold ChannelRecord.extend jumps
  rw [extending]
  cases restarted
  · have few : decide (32768 ≤ countDelta r.low16 q.low16) = false := decide_eq_false (Nat.not_le.mpr (small.resolve_left Bool.false_ne_true))
    have count : addCount q.extended (countDelta r.low16 q.low16) = q.extended + (r.low16 - q.low16).toNat := if_pos fits
    rw [few, count]
    exact ⟨rfl, rfl⟩
  · exact ⟨rfl, rfl⟩

/-- No report of an unchanged count, and none after RESTARTED, is CHANGED (R87). -/
theorem indicationOf_unchanged {last : Option LastReport} (h : restarted = true ∨ ∀ p, last = some p → p.low16 = r.low16) :
    indicationOf restarted last r ≠ .changed := by
  unfold indicationOf
  rcases h with h | h
  · rw [if_pos h]
    exact nofun
  · split
    · exact nofun
    · split
      · exact nofun
      · rename_i p
        rw [if_pos (h p rfl)]
        exact nofun

/-! ### The report handed on -/

/-- The one report of a head that serves one channel. -/
def handedOf (y : Head) (l : LaneId) (ch : Channel) (r : ChannelReport) (restarted : Bool) : Handed :=
  ⟨l, ch, r, indicationOf restarted (y.last.get r.channel) r, restarted⟩

/-- A good poll reply of an ONLINE head that serves one channel. -/
theorem exec_report (ha : s.awaitsHead ⟨h, none, retries⟩) (on : (s.head h).online = true) (served : s.servedBy h = [(l, ch)])
    (hz : s.setup l ch = some z) (hr : rs.find? (fun r => decide (r.channel = z.headChannel)) = some r) (restarted : Bool) :
    exec (.pollReply h restarted rs) s =
      finish [.handed (handedOf (s.head h) l ch r restarted), .arbitrate] { s with dlu := s.dlu.polled h restarted rs } := by
  rw [exec_pollReply ha (State.replyComplete_single served hz hr), State.goodPoll_online on, State.handedReports_single served hz hr]
  rfl

theorem DispenserUnit.polled_reads (d : DispenserUnit) (h : HeadId) (restarted : Bool) (rs : List ChannelReport) (g : HeadId) :
    ((d.polled h restarted rs).heads.get g).commands = (d.heads.get g).commands ∧
      ((d.polled h restarted rs).heads.get g).online = (d.heads.get g).online := by
  by_cases hg : g = h
  · subst hg
    have read : (d.polled g restarted rs).heads.get g = (({ d.heads.get g with
      failures := 0, singleFrame := (d.heads.get g).singleFrame && !restarted } : Head).keepReports rs) := Tab.get_set_self _ _ _
    rw [read]
    exact ⟨rfl, rfl⟩
  · have read : (d.polled h restarted rs).heads.get g = d.heads.get g := Tab.get_set_ne _ (Ne.symm hg) _
    rw [read]
    exact ⟨rfl, rfl⟩

theorem LatchClean.polled (clean : s.LatchClean) (h : HeadId) (restarted : Bool) (rs : List ChannelReport) :
    ({ s with dlu := s.dlu.polled h restarted rs } : State).LatchClean :=
  LatchClean.of_lists clean rfl fun g e he => .inl (by
    have list : ((({ s with dlu := s.dlu.polled h restarted rs } : State)).head g).commands = (s.head g).commands :=
      (s.dlu.polled_reads h restarted rs g).1
    exact list ▸ he)

/-- A report that shows no fault, of a channel with no record (R125). -/
theorem handle_handed_free (hq : s.laneRecord k.lane k.channel = none) (calm : s.flowWithoutRelease k = false) :
    handle (.handed k) s = (s, [.act k, .noted k]) := by
  show s.takeReport k = _
  unfold State.takeReport
  rw [hq, calm]
  rfl

/-- A report that shows no fault, of a bound lane's channel (R98, R124, R125). -/
theorem handle_handed_calm (hq : s.laneRecord k.lane k.channel = some (i, q)) (jump : jumps q k.restarted k.report.low16 = false)
    (calm : s.flowWithoutRelease k = false) :
    handle (.handed k) s = (s.modChannel i k.channel fun q => q.extend k.restarted k.report.low16, [.act k, .noted k]) := by
  rw [State.handle_handed hq, jump, calm]
  rfl

theorem handle_act_free (hq : s.laneRecord k.lane k.channel = none) : handle (.act k) s = (s, []) := by
  show s.actOnReport k = _
  unfold State.actOnReport
  rw [hq]

/-- No flow without release in a report that is not CHANGED, or of a channel that a flow is expected of (R125). -/
theorem State.flowWithoutRelease_calm (h : k.indication ≠ .changed ∨ ∃ i q, s.laneRecord k.lane k.channel = some (i, q) ∧
    q.state ∉ [ChannelState.idle, .refused, .allocating, .done]) : s.flowWithoutRelease k = false := by
  unfold State.flowWithoutRelease
  rcases h with h | ⟨i, q, hq, released⟩
  · rw [decide_eq_false h]
    rfl
  · rw [hq]
    dsimp only
    have none : (decide (q.state = .idle) || decide (q.state = .refused) || decide (q.state = .allocating) || decide (q.state = .done)) = false := by
      generalize q.state = st at released
      revert released
      cases st <;> decide
    rw [none, Bool.and_false]
    rfl

/-! ### The report noted -/

/-- A lane's notes of a report (R109, R177). -/
def Lane.noted (y : Lane) (ch : Channel) (r : ChannelReport) (quiet : Nat) : Lane :=
  { y with channels := y.channels.set ch { y.channels.get ch with
      nozzle := seenOf r.nozzle, handed := some (r.valve, r.cause), quiet := quiet } }

theorem State.noteReport_eq (s : State) (k : Handed) : handle (.noted k) s =
    ((s.setLane k.lane ((s.lane k.lane).noted k.channel k.report
      (if (s.lane k.lane).state = .faultStop ∨ (s.lane k.lane).state = .locked then quietAfter k ((s.lane k.lane).channels.get k.channel).quiet
        else ((s.lane k.lane).channels.get k.channel).quiet))).testFaultStop k.lane, []) := by
  have counts : (decide ((s.lane k.lane).state = .faultStop) || decide ((s.lane k.lane).state = .locked)) =
      decide ((s.lane k.lane).state = .faultStop ∨ (s.lane k.lane).state = .locked) := (Bool.decide_or _ _).symm
  show s.noteReport k = _
  unfold State.noteReport
  dsimp only
  rw [counts]
  by_cases here : (s.lane k.lane).state = .faultStop ∨ (s.lane k.lane).state = .locked
  · rw [decide_eq_true here, if_pos here]
    rfl
  · rw [decide_eq_false here, if_neg here]
    rfl

/-- Notes on a lane that is not in FAULT STOP. -/
theorem State.handle_noted (running : (s.lane k.lane).state ≠ .faultStop) : handle (.noted k) s =
    (s.setLane k.lane ((s.lane k.lane).noted k.channel k.report
      (if (s.lane k.lane).state = .locked then quietAfter k ((s.lane k.lane).channels.get k.channel).quiet
        else ((s.lane k.lane).channels.get k.channel).quiet)), []) := by
  rw [State.noteReport_eq]
  have test : ∀ y : Lane, y.state = (s.lane k.lane).state → (s.setLane k.lane y).testFaultStop k.lane = s.setLane k.lane y := fun y hy =>
    State.testFaultStop_calm (by
      rw [State.setLane_lane_self, hy]
      exact running)
  rw [test]
  · simp only [running, false_or]
  · rfl

/-- The work of a report: what it leads to, then the notes, then the arbiter's choice. -/
theorem finish_report {n w : Nat} {ws : List Work} (hk : k.lane = l ∧ k.channel = ch ∧ k.report = r)
    (run : drain (n + 2) ws t = drain 2 [.noted k, .arbitrate] u) (clean : u.LatchClean) (h1 : (u.lane l).state ≠ .faultStop)
    (quiet : (if (u.lane l).state = .locked then quietAfter k ((u.lane l).channels.get ch).quiet else ((u.lane l).channels.get ch).quiet) = w)
    (hn : n + 1 < 65536 := by decide) :
    finish ws t = .next (u.setLane l ((u.lane l).noted ch r w)).arbitrate.1 := by
  obtain ⟨rfl, rfl, rfl⟩ := hk
  subst quiet
  exact finish_then_arbitrate (n := n + 1) (run.trans (drain_quiet (State.handle_noted h1))) (LatchClean.setLane clean _ _) hn

/-! ### Reports of a lane with no context, and of a quiet channel -/

/-- The reply of a head that serves no channel (R87). -/
theorem exec_report_none (ha : s.awaitsHead ⟨h, none, retries⟩) (on : (s.head h).online = true) (clean : s.LatchClean) (served : s.servedBy h = [])
    (restarted : Bool) :
    exec (.pollReply h restarted rs) s = .next ({ s with dlu := s.dlu.polled h restarted rs } : State).arbitrate.1 := by
  have complete : s.replyComplete h rs = true := by
    unfold State.replyComplete
    rw [served]
    rfl
  have reports : s.handedReports h restarted rs = [] := by
    unfold State.handedReports
    rw [served]
    rfl
  rw [exec_pollReply ha complete, State.goodPoll_online on, reports]
  exact finish_arbitrate (LatchClean.polled clean h restarted rs)

/-- The link after a poll reply changes nothing of what is found elsewhere. -/
theorem State.laneRecord_bound (hb : s.bound l = some i) (hc : (s.ctx i).channels = some cs) (ch : Channel) :
    s.laneRecord l ch = some (i, cs.get ch) := by
  unfold State.laneRecord
  rw [hb]
  dsimp only
  rw [hc]
  rfl

theorem State.laneRecord_free (hb : s.bound l = none) (ch : Channel) : s.laneRecord l ch = none := by
  unfold State.laneRecord
  rw [hb]

end Sys2Proof.Machine
end

section
/-! Poll reports (O45): lanes with no context, and what a report does to the channel of a bound one. -/

namespace Sys2Proof.Machine

open Sys2Proof

variable {s t u : State} {h : HeadId} {i : ContextId} {l m : LaneId} {ch e : Channel} {z : ChannelSetup} {k : Handed} {r : ChannelReport}
  {rs : List ChannelReport} {cs : Triple ChannelRecord} {q : ChannelRecord} {x : Context} {d : DispenserUnit} {retries : Nat} {restarted : Bool}
  {p : LastReport}

/-- What every clause on a head that serves one channel starts from: the reply awaited, the report of that channel among the reports (R87). -/
structure State.Reports (s : State) (h : HeadId) (retries : Nat) (rs : List ChannelReport) (l : LaneId) (ch : Channel) (z : ChannelSetup)
    (r : ChannelReport) : Prop where
  awaits : s.awaitsHead ⟨h, none, retries⟩
  online : (s.head h).online = true
  clean : s.LatchClean
  served : s.servedBy h = [(l, ch)]
  setup : s.setup l ch = some z
  report : rs.find? (fun r => decide (r.channel = z.headChannel)) = some r

namespace State.Reports

variable (a : s.Reports h retries rs l ch z r)
include a

theorem headChannel : r.channel = z.headChannel := by simpa using List.find?_some a.report

theorem head : z.head = h := by
  have serves := State.mem_servedBy a.setup
  by_contra other
  have listed : (l, ch) ∈ s.servedBy h := by
    rw [a.served]
    exact List.mem_singleton.mpr rfl
  have met := (List.mem_filter.mp listed).2
  dsimp only at met
  rw [a.setup] at met
  exact other (of_decide_eq_true met)

/-- No other channel is served by the head. -/
theorem alone {e : Channel} {w : ChannelSetup} (hw : s.setup l e = some w) (he : e ≠ ch) : w.head ≠ h := fun same => by
  have serves := State.mem_servedBy hw
  rw [same, a.served, List.mem_singleton] at serves
  exact he (Prod.mk.inj serves).2

theorem exec (restarted : Bool) : Machine.exec (.pollReply h restarted rs) s =
    finish [.handed (handedOf (s.head h) l ch r restarted), .arbitrate] { s with dlu := s.dlu.polled h restarted rs } :=
  exec_report a.awaits a.online a.served a.setup a.report restarted

theorem indication (hp : (s.head h).last.get z.headChannel = some p) :
    (handedOf (s.head h) l ch r false).indication = if p.low16 = r.low16 then .unchanged else .changed := by
  show indicationOf false ((s.head h).last.get r.channel) r = _
  rw [a.headChannel, hp]
  rfl

theorem unchanged (h' : restarted = true ∨ ∀ p, (s.head h).last.get z.headChannel = some p → p.low16 = r.low16) :
    (handedOf (s.head h) l ch r restarted).indication ≠ .changed := by
  rw [← a.headChannel] at h'
  exact indicationOf_unchanged h'

theorem polled (restarted : Bool) : ({ s with dlu := s.dlu.polled h restarted rs } : State).LatchClean := LatchClean.polled a.clean h restarted rs

theorem free_of (hl : (s.lane l).state ≠ .locked) : ∀ q ∈ s.servedBy h, (s.lane q.1).state ≠ .locked := fun q hq => by
  rw [a.served, List.mem_singleton] at hq
  rw [hq]
  exact hl

end State.Reports

/-! ### Lanes with no context -/

theorem handedOf_parts (y : Head) (l : LaneId) (ch : Channel) (r : ChannelReport) (restarted : Bool) :
    (handedOf y l ch r restarted).lane = l ∧ (handedOf y l ch r restarted).channel = ch ∧ (handedOf y l ch r restarted).report = r := ⟨rfl, rfl, rfl⟩

theorem quietAfter_unchanged (hr : k.report = r) (hk : k.indication = .unchanged) (n : Nat) :
    quietAfter k n = if r.valve = .closed then min 2 (n + 1) else 0 := by
  unfold quietAfter
  rw [hk, hr]
  simp only [and_true]

theorem quietAfter_changed (hk : k.indication = .changed) (n : Nat) : quietAfter k n = 0 := by
  unfold quietAfter
  rw [hk]
  exact if_neg fun both => by cases both.2

/-- A report that shows no fault of a lane with no context. -/
theorem finish_free_calm {w : Nat} (hk : k.lane = l ∧ k.channel = ch ∧ k.report = r) (clean : t.LatchClean) (hb : t.bound l = none)
    (calm : k.indication = .unchanged) (h1 : (t.lane l).state ≠ .faultStop)
    (quiet : (if (t.lane l).state = .locked then quietAfter k ((t.lane l).channels.get ch).quiet else ((t.lane l).channels.get ch).quiet) = w) :
    finish [.handed k, .arbitrate] t = .next (t.setLane l ((t.lane l).noted ch r w)).arbitrate.1 := by
  have none : t.laneRecord k.lane k.channel = .none := by
    rw [hk.1]
    exact State.laneRecord_free hb _
  have flow : t.flowWithoutRelease k = false := State.flowWithoutRelease_calm (.inl (by rw [calm]; exact nofun))
  exact finish_report (n := 2) hk ((drain_step (handle_handed_free none flow)).trans (drain_quiet (handle_act_free none))) clean h1 quiet

/-- An UNCHANGED report of a lane with no context that is not in FAULT STOP (R128). -/
theorem exec_report_unbound (a : s.Reports h retries rs l ch z r) (hp : (s.head h).last.get z.headChannel = some p) (same : p.low16 = r.low16)
    (h1 : (s.lane l).state ≠ .faultStop) (hb : s.bound l = none) :
    exec (.pollReply h false rs) s = .next ((({ s with dlu := s.dlu.polled h false rs } : State).setLane l ((s.lane l).noted ch r
      (if (s.lane l).state = .locked then (if r.valve = .closed then min 2 (((s.lane l).channels.get ch).quiet + 1) else 0)
        else ((s.lane l).channels.get ch).quiet))).arbitrate.1) := by
  have unchanged : (handedOf (s.head h) l ch r false).indication = .unchanged := (a.indication hp).trans (if_pos same)
  rw [a.exec]
  refine finish_free_calm (handedOf_parts ..) (a.polled false) hb unchanged h1 ?_
  rw [quietAfter_unchanged rfl unchanged]
  rfl

theorem State.queueEvent_setLane (s : State) (l : LaneId) (y : Lane) (kind : EventKind) (sub : Subject) (n : Nat) :
    (s.queueEvent kind sub n).setLane l y = (s.setLane l y).queueEvent kind sub n := rfl

/-- The faults that a report of a lane with no context shows. -/
theorem handle_handed_flow (hk : k.lane = l ∧ k.channel = ch ∧ k.report = r) (hb : t.bound l = none) (changed : k.indication = .changed)
    (h1 : (t.lane l).state ≠ .faultStop) : handle (.handed k) t = (t, [.fault l .flowWithoutRelease, .act k, .noted k]) := by
  obtain ⟨hl, hch, -⟩ := hk
  have none : t.laneRecord k.lane k.channel = .none := by
    rw [hl, hch]
    exact State.laneRecord_free hb ch
  have flow : t.flowWithoutRelease k = true := by
    unfold State.flowWithoutRelease
    rw [changed, none, hl, decide_eq_false h1]
    rfl
  show t.takeReport k = _
  unfold State.takeReport
  rw [none, flow, hl]
  rfl

/-- FLOW WITHOUT RELEASE on a LOCKED lane: the event alone (R125, R130). -/
theorem exec_flow_locked (a : s.Reports h retries rs l ch z r) (hp : (s.head h).last.get z.headChannel = some p) (other : p.low16 ≠ r.low16)
    (hb : s.bound l = none) (locked : (s.lane l).state = .locked) :
    exec (.pollReply h false rs) s = .next (((({ s with dlu := s.dlu.polled h false rs } : State).setLane l ((s.lane l).noted ch r 0)).queueEvent
      .laneFault (.lane l) FaultKind.flowWithoutRelease.code).arbitrate.1) := by
  have changed : (handedOf (s.head h) l ch r false).indication = .changed := (a.indication hp).trans (if_neg other)
  have clean := a.polled false
  have lane : ({ s with dlu := s.dlu.polled h false rs } : State).lane l = s.lane l := rfl
  have bound : ({ s with dlu := s.dlu.polled h false rs } : State).bound l = none := hb
  rw [a.exec]
  have parts := handedOf_parts (s.head h) l ch r false
  generalize ({ s with dlu := s.dlu.polled h false rs } : State) = t at clean lane bound ⊢
  generalize handedOf (s.head h) l ch r false = k at changed parts ⊢
  rw [← lane] at locked ⊢
  have h1 : (t.lane l).state ≠ .faultStop := by
    rw [locked]
    decide
  have none : (t.queueEvent .laneFault (.lane l) FaultKind.flowWithoutRelease.code).laneRecord k.lane k.channel = .none := by
    rw [parts.1]
    exact State.laneRecord_free bound _
  have fault : handle (.fault l .flowWithoutRelease) t = (t.queueEvent .laneFault (.lane l) FaultKind.flowWithoutRelease.code, []) := by
    show t.takeFault l .flowWithoutRelease = _
    unfold State.takeFault
    rw [locked]
  have done := finish_report (n := 3) (w := 0) (u := t.queueEvent .laneFault (.lane l) FaultKind.flowWithoutRelease.code) parts
    ((drain_step (handle_handed_flow parts bound changed h1)).trans ((drain_quiet fault).trans (drain_quiet (handle_act_free none))))
    (LatchClean.congr clean rfl rfl) h1 ((if_pos locked).trans (quietAfter_changed changed _))
  rw [State.queueEvent_setLane] at done
  exact done

theorem State.setup_unbound (hb : s.bound l = none) (ch : Channel) : s.setup l ch = (s.lane l).config.channels.get ch := by
  unfold State.setup
  rw [hb]
  rfl

/-- One list changed, nothing new that opens a valve. -/
theorem LatchClean.withList {g : HeadId} {ds : List Command} {y y' : Lane} {b b' : EventUnit} {x' : Context} (clean : (s.view i l x y d b).LatchClean)
    (new : ∀ e ∈ ds, e ∈ (d.heads.get g).commands ∨ e.opening = false) : (s.view i l x' y' (d.withList g ds) b').LatchClean := by
  refine LatchClean.of_lists clean rfl fun f e he => ?_
  have read : (s.view i l x' y' (d.withList g ds) b').head f = (d.withList g ds).heads.get f := rfl
  rw [read, DispenserUnit.withList_head] at he
  split at he
  · rename_i same
    rw [same]
    exact new e he
  · exact .inl he

/-- The work of a FLOW WITHOUT RELEASE that is the first fault of a lane with no context. -/
theorem finish_flow_free {ds : List Command} (parts : k.lane = l ∧ k.channel = ch ∧ k.report = r) (changed : k.indication = .changed)
    (hb : s.bound l = none) (hz : s.setup l ch = some z) (hn : ∀ e, e ≠ ch → s.setup l e = none) (h1 : (s.lane l).state ≠ .faultStop)
    (h2 : (s.lane l).state ≠ .locked) (on : (d.heads.get z.head).online = true) (list : (d.heads.get z.head).commands = ds)
    (free : ∀ q ∈ s.servedBy z.head, (s.lane q.1).state ≠ .locked) (fresh : ∀ d ∈ ds, ¬(d.lane = l ∧ d.channel = ch))
    (clean : (s.view 0 l (s.ctx 0) (s.lane l) d s.reu).LatchClean) :
    finish [.handed k, .arbitrate] (s.view 0 l (s.ctx 0) (s.lane l) d s.reu) =
      .next ((s.view 0 l (s.ctx 0) ((((s.lane l).enterFaultStop .flowWithoutRelease).closeQueued ch).noted ch r 0)
        (d.withList z.head (closedList ds (freeClose z l ch .flowWithoutRelease)))
        (s.heed (s.reu.occur .laneFault (.lane l) FaultKind.flowWithoutRelease.code s.stamp))).arbitrate.1) := by
  subst list
  have sees : s.Sees 0 l (s.ctx 0) (s.lane l) := State.Sees.refl s 0 l
  have sees1 := sees.fault .flowWithoutRelease
  have sees2 := sees1.closeQueued ch
  have lane : (s.view 0 l (s.ctx 0) ((s.lane l).enterFaultStop .flowWithoutRelease) d
      (s.heed (s.reu.occur .laneFault (.lane l) FaultKind.flowWithoutRelease.code s.stamp))).lane l = (s.lane l).enterFaultStop .flowWithoutRelease :=
    State.view_lane s
  have bound : ∀ y : Lane, s.Sees 0 l (s.ctx 0) y → ∀ d r', (s.view 0 l (s.ctx 0) y d r').bound l = none := fun y hy d r' =>
    (congrFun (State.view_bound hy) l).trans hb
  have handed := handle_handed_flow parts (bound _ sees d s.reu) changed (by rw [State.view_lane]; exact h1)
  have fault := State.view_firstFault_free (d := d) (r := s.reu) sees hb .flowWithoutRelease h1 h2
  have closes := drain_freeCloses (n := 3) (ws := [.act k, .noted k, .arbitrate]) (z := z) (ch := ch) (by rw [lane]; rfl) (bound _ sees1 d _)
    (by rw [State.view_setup sees1]; exact hz) (fun e he => by rw [State.view_setup sees1]; exact hn e he) on (fun q hq => by
      rw [State.view_servedBy sees1] at hq
      by_cases hm : q.1 = l
      · rw [hm, lane]
        exact show LaneState.faultStop ≠ .locked by decide
      · rw [State.view_lane_ne s hm]
        exact free q hq) fresh .flowWithoutRelease
  rw [lane, State.view_setLane, State.view_setHead] at closes
  have act : handle (.act k) (s.view 0 l (s.ctx 0) (((s.lane l).enterFaultStop .flowWithoutRelease).closeQueued ch)
      (d.withList z.head (closedList (d.heads.get z.head).commands (freeClose z l ch .flowWithoutRelease)))
      (s.heed (s.reu.occur .laneFault (.lane l) FaultKind.flowWithoutRelease.code s.stamp))) = (_, []) :=
    handle_act_free (by rw [parts.1]; exact State.laneRecord_free (bound _ sees2 _ _) _)
  have noted := State.noteReport_eq (s.view 0 l (s.ctx 0) (((s.lane l).enterFaultStop .flowWithoutRelease).closeQueued ch)
      (d.withList z.head (closedList (d.heads.get z.head).commands (freeClose z l ch .flowWithoutRelease)))
      (s.heed (s.reu.occur .laneFault (.lane l) FaultKind.flowWithoutRelease.code s.stamp))) k
  obtain ⟨hl, hch, hr⟩ := parts
  rw [hl, hch, hr, State.view_lane, if_pos (.inl rfl), quietAfter_changed changed, State.view_setLane, State.testFaultStop_loud] at noted
  · refine finish_then_arbitrate (n := 6) ((drain_step handed).trans ((drain_step fault).trans (closes.trans ((drain_quiet act).trans (drain_quiet noted))))) ?_
    refine LatchClean.withList clean fun e he => ?_
    exact (closedList_new rfl e he).imp_left id
  · refine Bool.eq_false_iff.mpr fun quiet => ?_
    have config : (s.lane l).config.channels.get ch = some z := (State.setup_unbound hb ch).symm.trans hz
    have two := (State.laneQuiet_unbound (bound ((((s.lane l).enterFaultStop .flowWithoutRelease).closeQueued ch).noted ch r 0) ⟨sees2.inUse, sees2.lane, sees2.transaction, sees2.setups, sees2.offered, sees2.config⟩ _ _)).mp quiet
      ch z (by rw [State.view_lane]; exact config)
    rw [State.view_lane] at two
    have zero : (((((s.lane l).enterFaultStop .flowWithoutRelease).closeQueued ch).noted ch r 0).channels.get ch).quiet = 0 :=
      congrArg LaneChannel.quiet (Triple.get_set_self _ _ _)
    rw [zero] at two
    cases two

/-- FLOW WITHOUT RELEASE on a lane with no context: FAULT STOP, a CLOSE queued (R125, R127). -/
theorem exec_flow_free (a : s.Reports h retries rs l ch z r) (hp : (s.head h).last.get z.headChannel = some p) (other : p.low16 ≠ r.low16)
    (hb : s.bound l = none) (h1 : (s.lane l).state ≠ .faultStop) (h2 : (s.lane l).state ≠ .locked) (hn : ∀ e, e ≠ ch → s.setup l e = none)
    (fresh : ∀ d ∈ (s.head h).commands, ¬(d.lane = l ∧ d.channel = ch)) :
    exec (.pollReply h false rs) s = .next ((s.view 0 l (s.ctx 0) ((((s.lane l).enterFaultStop .flowWithoutRelease).closeQueued ch).noted ch r 0)
      ((s.dlu.polled h false rs).withList h (closedList (s.head h).commands (freeClose z l ch .flowWithoutRelease)))
      (s.heed (s.reu.occur .laneFault (.lane l) FaultKind.flowWithoutRelease.code s.stamp))).arbitrate.1) := by
  have changed : (handedOf (s.head h) l ch r false).indication = .changed := (a.indication hp).trans (if_neg other)
  obtain ⟨commands, online⟩ := s.dlu.polled_reads h false rs z.head
  have on : ((s.dlu.polled h false rs).heads.get z.head).online = true := by
    rw [online, a.head]
    exact a.online
  have list : ((s.dlu.polled h false rs).heads.get z.head).commands = (s.head h).commands := by
    rw [commands, a.head]
    rfl
  have free : ∀ q ∈ s.servedBy z.head, (s.lane q.1).state ≠ .locked := by
    rw [a.head]
    exact a.free_of h2
  have clean := a.polled false
  rw [a.exec, State.link_view s 0 l]
  rw [State.link_view s 0 l] at clean
  have parts := handedOf_parts (s.head h) l ch r false
  generalize handedOf (s.head h) l ch r false = k at changed parts ⊢
  generalize s.dlu.polled h false rs = d at on list clean ⊢
  have done := finish_flow_free parts changed hb a.setup hn h1 h2 on list free fresh clean
  rw [a.head] at done
  exact done

/-! ### A lane in FAULT STOP with no context -/

/-- A report of a lane in FAULT STOP with no context, down to the test of FAULT STOP (R128). -/
theorem exec_report_faultStop (a : s.Reports h retries rs l ch z r) (hp : (s.head h).last.get z.headChannel = some p) (hb : s.bound l = none)
    (stop : (s.lane l).state = .faultStop) (adopt : s.lau.adoption.get l = false)
    (calm : p.low16 = r.low16 ∨ ((s.lane l).channels.get ch).faultClose ≠ .complete) :
    exec (.pollReply h false rs) s = .next (((({ s with dlu := s.dlu.polled h false rs } : State).setLane l ((s.lane l).noted ch r
      (if r.valve = .closed ∧ p.low16 = r.low16 then min 2 (((s.lane l).channels.get ch).quiet + 1) else 0))).testFaultStop l).arbitrate.1) := by
  have clean := a.polled false
  have lane : ({ s with dlu := s.dlu.polled h false rs } : State).lane l = s.lane l := rfl
  have bound : ({ s with dlu := s.dlu.polled h false rs } : State).bound l = none := hb
  have unlisted : ({ s with dlu := s.dlu.polled h false rs } : State).lau.adoption.get l = false := adopt
  have indication := a.indication hp
  rw [a.exec]
  have parts := handedOf_parts (s.head h) l ch r false
  generalize ({ s with dlu := s.dlu.polled h false rs } : State) = t at clean lane bound unlisted ⊢
  generalize handedOf (s.head h) l ch r false = k at indication parts ⊢
  rw [← lane] at stop calm ⊢
  have flow : t.flowWithoutRelease k = false := by
    unfold State.flowWithoutRelease
    rcases calm with same | owed
    · rw [indication, if_pos same]
      rfl
    · rw [parts.1, parts.2.1, decide_eq_true stop, decide_eq_true owed, Bool.and_true, Bool.not_true, Bool.and_false]
  have none : t.laneRecord k.lane k.channel = .none := by
    rw [parts.1]
    exact State.laneRecord_free bound _
  have quiet : quietAfter k ((t.lane l).channels.get ch).quiet =
      if r.valve = .closed ∧ p.low16 = r.low16 then min 2 (((t.lane l).channels.get ch).quiet + 1) else 0 := by
    by_cases same : p.low16 = r.low16
    · rw [quietAfter_unchanged parts.2.2 (indication.trans (if_pos same))]
      simp only [same, and_true]
    · rw [quietAfter_changed (indication.trans (if_neg same)), if_neg fun both => same both.2]
  have noted := State.noteReport_eq t k
  rw [parts.1, parts.2.1, parts.2.2, if_pos (.inl stop), quiet] at noted
  obtain ⟨y, only⟩ := State.testFaultStop_only (s := t.setLane l ((t.lane l).noted ch r
    (if r.valve = .closed ∧ p.low16 = r.low16 then min 2 (((t.lane l).channels.get ch).quiet + 1) else 0))) (l := l) unlisted
  refine finish_then_arbitrate (n := 3) ((drain_step (handle_handed_free none flow)).trans ((drain_quiet (handle_act_free none)).trans
    (drain_quiet noted))) ?_
  rw [only]
  exact LatchClean.setLane (LatchClean.setLane clean _ _) _ _

/-! ### What a report does to the channel of a bound lane -/

/-- A report acted on by its channel's state: no lift that starts anything, no hang-up of a channel before its release (R109 to R122). -/
theorem handle_act_moves (hq : s.laneRecord k.lane k.channel = some (i, q)) (records : (s.ctx i).records.get k.channel = q)
    (lift : s.isLift k = true → (s.ctx i).state.takesLifts = true → q.state ≠ .zeroing →
      (s.ctx i).permits q = true ∧ (q.used = true ∨ q.state ≠ .idle))
    (hang : s.isHangUp k = true → q.state ∉ [ChannelState.zeroing, .allocating, .opening]) :
    (q.state = .flowing → handle (.act k) s = s.takeFlowing i k q) ∧ (q.state = .closing → handle (.act k) s = s.takeClosing i k) ∧
      (q.state = .zeroing → handle (.act k) s = if q.zeroAccepted then s.countZero i k q else (s, [])) ∧
      (q.state ∉ [ChannelState.flowing, .closing, .zeroing] → handle (.act k) s = (s, [])) := by
  have hangs : (s.isHangUp k && (decide (q.state = .zeroing) || decide (q.state = .allocating) || decide (q.state = .opening))) = false := by
    by_cases hu : s.isHangUp k = true
    · have none := hang hu
      generalize q.state = st at none
      rw [hu, Bool.true_and]
      revert none
      cases st <;> decide
    · rw [Bool.eq_false_iff.mpr hu]
      rfl
  have lifts : s.isLift k = true → (s.ctx i).state.takesLifts = true → q.state ≠ .zeroing → s.takeLift i k = (s, []) := fun h1 h2 h3 => by
    obtain ⟨permitted, used⟩ := lift h1 h2 h3
    unfold State.takeLift
    dsimp only
    rw [records, permitted, if_neg (by decide), if_neg]
    rintro ⟨idle, unused⟩
    rcases used with used | past
    · rw [unused] at used
      cases used
    · exact past idle
  have act : handle (.act k) s = (match q.state with
      | .zeroing => if q.zeroAccepted then s.countZero i k q else (s, [])
      | .flowing => s.takeFlowing i k q
      | .closing => s.takeClosing i k
      | _ => (s, [])) := by
    show s.actOnReport k = _
    unfold State.actOnReport
    rw [hq]
    dsimp only
    by_cases lifted : (s.isLift k && (s.ctx i).state.takesLifts && decide (q.state ≠ .zeroing)) = true
    · rw [if_pos lifted]
      rw [Bool.and_eq_true, Bool.and_eq_true, decide_eq_true_iff] at lifted
      obtain ⟨⟨h1, h2⟩, h3⟩ := lifted
      rw [lifts h1 h2 h3]
      dsimp only
      by_cases flowing : q.state = .flowing
      · rw [if_pos flowing, flowing] <;> rfl
      · rw [if_neg flowing]
        by_cases closing : q.state = .closing
        · rw [if_pos closing, closing] <;> rfl
        · rw [if_neg closing]
          generalize q.state = st at h3 flowing closing
          cases st <;> first | rfl | contradiction
    · refine (if_neg lifted).trans ?_
      rw [hangs]
      exact if_neg Bool.false_ne_true
  rw [act]
  refine ⟨fun st => ?_, fun st => ?_, fun st => ?_, fun st => ?_⟩
  · rw [st]
  · rw [st]
  · rw [st]
  · generalize q.state = st' at st ⊢
    revert st
    cases st' <;> intro st <;> first | rfl | exact absurd (by decide) st

/-- A hang-up before the release of its channel (R111, R116, R118). -/
theorem handle_act_hangUp (hq : s.laneRecord k.lane k.channel = some (i, q)) (hung : s.isHangUp k = true)
    (state : q.state = .zeroing ∨ q.state = .allocating ∨ q.state = .opening) : handle (.act k) s = s.takeHangUp i k q := by
  have nozzle : k.report.nozzle = .hung := by
    unfold State.isHangUp at hung
    rw [Bool.and_eq_true, decide_eq_true_iff] at hung
    exact hung.1
  have lift : s.isLift k = false := by
    unfold State.isLift
    rw [nozzle]
    rfl
  have hangs : (s.isHangUp k && (decide (q.state = .zeroing) || decide (q.state = .allocating) || decide (q.state = .opening))) = true := by
    rw [hung]
    rcases state with h | h | h <;> rw [h] <;> rfl
  show s.actOnReport k = _
  unfold State.actOnReport
  rw [hq]
  dsimp only
  rw [lift, if_neg (by simp), if_pos hangs]

/-- A lift of a channel at rest (R109). -/
theorem handle_act_lift (hq : s.laneRecord k.lane k.channel = some (i, q)) (lift : s.isLift k = true) (takes : (s.ctx i).state.takesLifts = true)
    (idle : q.state = .idle) : handle (.act k) s = s.takeLift i k := by
  have lifted : (s.isLift k && (s.ctx i).state.takesLifts && decide (q.state ≠ .zeroing)) = true := by
    rw [lift, takes, idle]
    rfl
  show s.actOnReport k = _
  unfold State.actOnReport
  rw [hq]
  dsimp only
  rw [if_pos lifted, if_neg (by rw [idle]; decide), if_neg (by rw [idle]; decide)]

end Sys2Proof.Machine
end

section
/-! Poll reports (O45): the channels of a bound lane that takes commands. -/

namespace Sys2Proof.Machine

open Sys2Proof

variable {s t u v : State} {h : HeadId} {i : ContextId} {l m : LaneId} {ch e : Channel} {z : ChannelSetup} {k : Handed} {r : ChannelReport}
  {rs : List ChannelReport} {cs : Triple ChannelRecord} {q q' : ChannelRecord} {x : Context} {y : Lane} {d : DispenserUnit} {b : EventUnit} {retries : Nat}
  {restarted : Bool} {p : LastReport}

/-! ### A context's change leaves a lane that runs running -/

/-- The lane takes commands: it is neither in FAULT STOP nor LOCKED. -/
def State.Runs (s : State) (l : LaneId) : Prop := (s.lane l).state ≠ .faultStop ∧ (s.lane l).state ≠ .locked

theorem State.Runs.closeContext (h : s.Runs l) (p : ClosePath) : (s.closeContext i p false).Runs l := by
  unfold State.Runs
  by_cases here : (s.ctx i).lane = some l
  · obtain ⟨used, -, other⟩ := s.closeContext_lane i p here
    by_cases inUse : (s.lane l).state = .inUse
    · rw [used inUse]
      show s.freeLaneState l ≠ .faultStop ∧ s.freeLaneState l ≠ .locked
      rw [State.freeLaneState_eq]
      split <;> decide
    · rw [other inUse h.1]
      exact h
  · obtain ⟨lane, -⟩ := s.closeContext_unbinds i p false (x := (s.ctx i).lane) rfl
    obtain ⟨hlane, -⟩ := s.closed_rest i p
    have same : (s.closeContext i p false).lane l = s.lane l :=
      (congrFun lane l).trans (((s.closed i p).unbind_lane_ne here false).trans (congrFun hlane l))
    rw [same]
    exact h

/-- What changes of a context's record and its closing keep, a change of the context keeps. -/
theorem State.contextChanged_keeps {P : State → Prop} (i : ContextId) (set : ∀ v x, x.channels = (v.ctx i).channels → P v → P (v.setCtx i x))
    (close : ∀ v p, P v → P (v.closeContext i p false)) (h : P s) : P (s.contextChanged i) := by
  have ending : ∀ v : State, P v → P (v.testEnding i) := fun v hv => by
    unfold State.testEnding
    split
    · exact close v _ hv
    · exact hv
  unfold State.contextChanged
  dsimp only
  split
  · unfold State.changedArmed
    dsimp only
    split
    · exact set s _ rfl h
    · split
      · exact close s _ h
      · split
        · exact set s _ rfl h
        · exact h
  · split
    · unfold State.enterEnding
      dsimp only
      split
      · exact close _ _ (set s _ rfl h)
      · exact ending _ (set s _ rfl h)
    · exact h
  · split
    · exact set s _ rfl h
    · exact ending s h
  · split
    · exact h
    · exact close s _ h
  · split
    · exact close s _ h
    · exact h
  · exact h

theorem State.Runs.contextChanged (h : s.Runs l) (i : ContextId) : (s.contextChanged i).Runs l :=
  State.contextChanged_keeps (P := fun v => v.Runs l) i (fun _ _ _ hv => hv) (fun _ p hv => hv.closeContext p) h

/-! ### A report of a bound lane -/

theorem State.Sees.record (sees : s.Sees i l x y) (hb : s.bound l = some i) (hc : x.channels = some cs) (parts : k.lane = l ∧ k.channel = ch ∧ k.report = r) :
    (s.view i l x y d b).laneRecord k.lane k.channel = some (i, cs.get ch) ∧ ((s.view i l x y d b).ctx i).records.get k.channel = cs.get ch := by
  rw [parts.1, parts.2.1]
  exact ⟨State.view_laneRecord sees hb hc ch, State.view_records hc ch⟩

theorem State.view_isLift (parts : k.lane = l ∧ k.channel = ch ∧ k.report = r) :
    (s.view i l x y d b).isLift k = true ↔ r.nozzle = .lifted ∧ (y.channels.get ch).nozzle ≠ .lifted := by
  unfold State.isLift State.nozzleSeen
  rw [parts.1, parts.2.1, parts.2.2, State.view_lane, Bool.and_eq_true, decide_eq_true_iff, decide_eq_true_iff]

theorem State.view_isHangUp (parts : k.lane = l ∧ k.channel = ch ∧ k.report = r) :
    (s.view i l x y d b).isHangUp k = true ↔ r.nozzle = .hung ∧ (y.channels.get ch).nozzle = .lifted := by
  unfold State.isHangUp State.nozzleSeen
  rw [parts.1, parts.2.1, parts.2.2, State.view_lane, Bool.and_eq_true, decide_eq_true_iff, decide_eq_true_iff]

theorem ContextState.takesLifts_iff (st : ContextState) : st.takesLifts = true ↔ st = .armed ∨ st = .delivering ∨ st = .ending := by
  cases st <;> decide

/-- What a clause on a bound lane's channel starts from. -/
structure State.BoundReports (s : State) (h : HeadId) (retries : Nat) (rs : List ChannelReport) (l : LaneId) (ch : Channel) (z : ChannelSetup)
    (r : ChannelReport) (i : ContextId) (cs : Triple ChannelRecord) : Prop where
  reports : s.Reports h retries rs l ch z r
  bound : s.bound l = some i
  channels : (s.ctx i).channels = some cs

theorem State.BoundReports.record (a : s.BoundReports h retries rs l ch z r i cs) : (cs.get ch).setup = some z :=
  (State.setup_bound a.bound a.channels ch).symm.trans a.reports.setup

/-- The state as a report finds the channel: the link with the reports kept, the count extended (R87, R98). -/
def State.counted (s : State) (h : HeadId) (rs : List ChannelReport) (i : ContextId) (l : LaneId) (cs : Triple ChannelRecord) (ch : Channel)
    (restarted : Bool) (q : ChannelRecord) : State :=
  s.view i l { s.ctx i with channels := some (cs.set ch q) } (s.lane l) (s.dlu.polled h restarted rs) s.reu

theorem State.BoundReports.counted_sees (a : s.BoundReports h retries rs l ch z r i cs) (hq : q.setup = (cs.get ch).setup) :
    s.Sees i l { s.ctx i with channels := some (cs.set ch q) } (s.lane l) := (State.Sees.refl s i l).channel a.channels hq

/-- A report of a bound lane's channel that shows no fault, down to what its channel does (R98). -/
theorem exec_report_bound {n w : Nat} (a : s.BoundReports h retries rs l ch z r i cs) (restarted : Bool)
    (extends_ : (cs.get ch).extend restarted r.low16 = q) (jump : jumps (cs.get ch) restarted r.low16 = false)
    (calm : (restarted = true ∨ ∀ p, (s.head h).last.get z.headChannel = some p → p.low16 = r.low16) ∨
      (cs.get ch).state ∉ [ChannelState.idle, .refused, .allocating, .done])
    (run : ∀ k : Handed, k.lane = l ∧ k.channel = ch ∧ k.report = r →
      drain (n + 2) [.act k, .noted k, .arbitrate] (s.counted h rs i l cs ch restarted q) = drain 2 [.noted k, .arbitrate] u)
    (clean : u.LatchClean) (h1 : (u.lane l).state ≠ .faultStop)
    (quiet : (if (u.lane l).state = .locked then quietAfter (handedOf (s.head h) l ch r restarted) ((u.lane l).channels.get ch).quiet
      else ((u.lane l).channels.get ch).quiet) = w) (hn : n + 2 < 65536 := by decide) :
    exec (.pollReply h restarted rs) s = .next (u.setLane l ((u.lane l).noted ch r w)).arbitrate.1 := by
  have record : ({ s with dlu := s.dlu.polled h restarted rs } : State).laneRecord l ch = some (i, cs.get ch) :=
    State.laneRecord_bound a.bound a.channels ch
  have indication := calm.imp (fun h => a.reports.unchanged h) id
  have parts := handedOf_parts (s.head h) l ch r restarted
  have restart : (handedOf (s.head h) l ch r restarted).restarted = restarted := rfl
  have put : ({ s with dlu := s.dlu.polled h restarted rs } : State).setCtx i { s.ctx i with channels := some (cs.set ch q) } =
      s.counted h rs i l cs ch restarted q := by
    rw [State.setCtx_view _ i l]
    rfl
  rw [a.reports.exec]
  have work := run (handedOf (s.head h) l ch r restarted) parts
  rw [← put] at work
  clear run put
  generalize handedOf (s.head h) l ch r restarted = k at indication parts restart quiet work ⊢
  have channels : (({ s with dlu := s.dlu.polled h restarted rs } : State).ctx i).channels = some cs := a.channels
  have context : ({ s with dlu := s.dlu.polled h restarted rs } : State).ctx i = s.ctx i := rfl
  generalize ({ s with dlu := s.dlu.polled h restarted rs } : State) = t at record channels context work ⊢
  have found : t.laneRecord k.lane k.channel = some (i, cs.get ch) := by
    rw [parts.1, parts.2.1]
    exact record
  have flow : t.flowWithoutRelease k = false := State.flowWithoutRelease_calm (indication.imp id fun other => ⟨i, cs.get ch, found, other⟩)
  have handed := handle_handed_calm found (by rw [restart, parts.2.2]; exact jump) flow
  rw [parts.2.1, parts.2.2, restart, State.modChannel_eq channels, extends_, context] at handed
  exact finish_report (n := n + 1) parts ((drain_step handed).trans work) clean h1 quiet hn

/-- The same on a lane that runs, its channel unchanged by the count. -/
theorem exec_report_running {n : Nat} (a : s.BoundReports h retries rs l ch z r i cs) (restarted : Bool)
    (extends_ : (cs.get ch).extend restarted r.low16 = q) (jump : jumps (cs.get ch) restarted r.low16 = false)
    (calm : (restarted = true ∨ ∀ p, (s.head h).last.get z.headChannel = some p → p.low16 = r.low16) ∨
      (cs.get ch).state ∉ [ChannelState.idle, .refused, .allocating, .done])
    (run : ∀ k : Handed, k.lane = l ∧ k.channel = ch ∧ k.report = r →
      drain (n + 2) [.act k, .noted k, .arbitrate] (s.counted h rs i l cs ch restarted q) = drain 2 [.noted k, .arbitrate] u)
    (clean : u.LatchClean) (runs : u.Runs l) (hn : n + 2 < 65536 := by decide) :
    exec (.pollReply h restarted rs) s = .next (u.setLane l ((u.lane l).noted ch r ((u.lane l).channels.get ch).quiet)).arbitrate.1 :=
  exec_report_bound a restarted extends_ jump calm run clean runs.1 (if_neg runs.2) hn

end Sys2Proof.Machine
end

section
/-! Poll reports (O45): lifts, hang-ups, the zero handshake and counts of a bound lane that runs. -/

namespace Sys2Proof.Machine

open Sys2Proof

variable {s t u v : State} {h : HeadId} {i : ContextId} {l m : LaneId} {ch e : Channel} {z : ChannelSetup} {k : Handed} {r : ChannelReport}
  {rs : List ChannelReport} {cs : Triple ChannelRecord} {q q' : ChannelRecord} {x : Context} {y : Lane} {d : DispenserUnit} {b : EventUnit} {retries : Nat}
  {restarted : Bool} {p : LastReport}

/-! ### The state that a report leaves its channel in -/

theorem State.BoundReports.counted_same (a : s.BoundReports h retries rs l ch z r i cs) :
    s.counted h rs i l cs ch restarted (cs.get ch) = { s with dlu := s.dlu.polled h restarted rs } := by
  have whole : cs.set ch (cs.get ch) = cs := by cases ch <;> rfl
  have context : ({ s.ctx i with channels := some cs } : Context) = s.ctx i := by rw [← a.channels]
  rw [State.counted, whole, context, ← State.link_view]

theorem State.BoundReports.counted_clean (a : s.BoundReports h retries rs l ch z r i cs) (q : ChannelRecord) :
    (s.counted h rs i l cs ch restarted q).LatchClean := LatchClean.view (a.reports.polled restarted)

theorem State.counted_runs (runs : s.Runs l) (q : ChannelRecord) : (s.counted h rs i l cs ch restarted q).Runs l := by
  unfold State.Runs State.counted
  rw [State.view_lane]
  exact runs

theorem State.counted_put (s : State) (h : HeadId) (rs : List ChannelReport) (i : ContextId) (l : LaneId) (cs : Triple ChannelRecord) (ch : Channel)
    (restarted : Bool) (q : ChannelRecord) : ({ s with dlu := s.dlu.polled h restarted rs } : State).setCtx i
      { s.ctx i with channels := some (cs.set ch q) } = s.counted h rs i l cs ch restarted q := by
  rw [State.setCtx_view _ i l]
  rfl

theorem State.counted_modChannel (s : State) (h : HeadId) (rs : List ChannelReport) (i : ContextId) (l : LaneId) (cs : Triple ChannelRecord) (ch : Channel)
    (restarted : Bool) (q : ChannelRecord) (f : ChannelRecord → ChannelRecord) :
    (s.counted h rs i l cs ch restarted q).modChannel i ch f = s.counted h rs i l cs ch restarted (f q) := by
  have twice : (cs.set ch q).set ch (f ((cs.set ch q).get ch)) = cs.set ch (f q) := by cases ch <;> rfl
  unfold State.counted
  rw [State.view_modChannel, Context.modChannel_eq rfl, twice]

theorem State.counted_ctx (s : State) (h : HeadId) (rs : List ChannelReport) (i : ContextId) (l : LaneId) (cs : Triple ChannelRecord) (ch : Channel)
    (restarted : Bool) (q : ChannelRecord) : (s.counted h rs i l cs ch restarted q).ctx i = { s.ctx i with channels := some (cs.set ch q) } :=
  State.view_ctx s

/-- A channel's record and its context as a report finds them. -/
theorem State.BoundReports.found (a : s.BoundReports h retries rs l ch z r i cs) (hq : q.setup = (cs.get ch).setup)
    (parts : k.lane = l ∧ k.channel = ch ∧ k.report = r) :
    (s.counted h rs i l cs ch restarted q).laneRecord k.lane k.channel = some (i, q) ∧
      ((s.counted h rs i l cs ch restarted q).ctx i).records.get k.channel = q := by
  have found := State.Sees.record (b := s.reu) (d := s.dlu.polled h restarted rs) (a.counted_sees hq) a.bound rfl parts
  rw [Triple.get_set_self] at found
  exact found

theorem State.counted_lift (parts : k.lane = l ∧ k.channel = ch ∧ k.report = r) : (s.counted h rs i l cs ch restarted q).isLift k = true ↔
    r.nozzle = .lifted ∧ ((s.lane l).channels.get ch).nozzle ≠ .lifted := State.view_isLift parts

theorem State.counted_hangUp (parts : k.lane = l ∧ k.channel = ch ∧ k.report = r) : (s.counted h rs i l cs ch restarted q).isHangUp k = true ↔
    r.nozzle = .hung ∧ ((s.lane l).channels.get ch).nozzle = .lifted := State.view_isHangUp parts

theorem State.BoundReports.inUse (a : s.BoundReports h retries rs l ch z r i cs) : (s.ctx i).state ≠ .free :=
  of_decide_eq_true (State.bound_lane a.bound).1

/-- A change of the context, as a report finds it. -/
theorem State.BoundReports.counted_changed (a : s.BoundReports h retries rs l ch z r i cs) (q : ChannelRecord) :
    handle (.changed i (s.ctx i).transaction) (s.counted h rs i l cs ch restarted q) = ((s.counted h rs i l cs ch restarted q).contextChanged i, []) := by
  have change := State.handle_change (s := s.counted h rs i l cs ch restarted q) (i := i) (by
    rw [State.counted_ctx]
    exact a.inUse)
  rw [State.counted_ctx] at change
  exact change

/-- What a message to a terminal changes: the terminals alone. -/
theorem State.tell_only (s : State) (i : ContextId) (m : Message) : ∃ w, s.tell i m = { s with tlu := w } := by
  have shown : ∀ t, ∃ w, s.showOn t m = { s with tlu := w } := fun t => ⟨(s.showOn t m).tlu, rfl⟩
  unfold State.tell
  split
  · split
    · exact shown _
    · unfold State.tellFreely
      dsimp only
      split
      · exact shown _
      · exact ⟨s.tlu, rfl⟩
  · exact ⟨s.tlu, rfl⟩

/-! ### Channels at rest -/

/-- A report of a channel at rest that starts nothing (R109). -/
theorem exec_report_rests (a : s.BoundReports h retries rs l ch z r i cs) (runs : s.Runs l)
    (same : restarted = true ∨ ∀ p, (s.head h).last.get z.headChannel = some p → p.low16 = r.low16)
    (rests : (cs.get ch).state ∈ [ChannelState.idle, .done, .refused, .failed])
    (starts : ¬((r.nozzle = .lifted ∧ ((s.lane l).channels.get ch).nozzle ≠ .lifted) ∧ (s.ctx i).state.takesLifts = true) ∨
      (s.ctx i).permits (cs.get ch) = true ∧ ((cs.get ch).used = true ∨ (cs.get ch).state ≠ .idle)) :
    exec (.pollReply h restarted rs) s = .next ((({ s with dlu := s.dlu.polled h restarted rs } : State).setLane l ((s.lane l).noted ch r
      ((s.lane l).channels.get ch).quiet)).arbitrate.1) := by
  have still : (cs.get ch).state.extending = false := by
    generalize (cs.get ch).state = st at rests
    revert rests
    cases st <;> decide
  have apart : (cs.get ch).state ∉ [ChannelState.zeroing, .allocating, .opening] ∧ (cs.get ch).state ∉ [ChannelState.flowing, .closing, .zeroing] := by
    generalize (cs.get ch).state = st at rests
    revert rests
    cases st <;> decide
  obtain ⟨extends_, jump⟩ := ChannelRecord.extend_still still restarted r.low16
  have run : ∀ k : Handed, k.lane = l ∧ k.channel = ch ∧ k.report = r →
      drain 3 [.act k, .noted k, .arbitrate] (s.counted h rs i l cs ch restarted (cs.get ch)) =
        drain 2 [.noted k, .arbitrate] (s.counted h rs i l cs ch restarted (cs.get ch)) := fun k parts => by
    obtain ⟨found, records⟩ := a.found (restarted := restarted) (q := cs.get ch) rfl parts
    obtain ⟨-, -, -, moves⟩ := handle_act_moves found records (fun lift takes _ => by
      rw [State.counted_lift parts] at lift
      rw [State.counted_ctx] at takes ⊢
      exact starts.resolve_left fun none => none ⟨lift, takes⟩) fun _ => apart.1
    exact drain_quiet (moves apart.2)
  have done := exec_report_running (n := 1) a restarted extends_ jump (.inl same) run (a.counted_clean _) (State.counted_runs runs _)
  rw [a.counted_same] at done
  exact done

/-! ### Lifts -/

/-- A lift on a channel that the approval does not permit (R109). -/
theorem exec_report_notAllowed (a : s.BoundReports h retries rs l ch z r i cs) (runs : s.Runs l)
    (same : restarted = true ∨ ∀ p, (s.head h).last.get z.headChannel = some p → p.low16 = r.low16)
    (lift : r.nozzle = .lifted ∧ ((s.lane l).channels.get ch).nozzle ≠ .lifted) (takes : (s.ctx i).state.takesLifts = true)
    (idle : (cs.get ch).state = .idle) (barred : (s.ctx i).permits (cs.get ch) = false)
    (hu : u = ((s.counted h rs i l cs ch restarted (cs.get ch).refuse).tell i (.productNotAllowed l)).contextChanged i) :
    exec (.pollReply h restarted rs) s = .next (u.setLane l ((u.lane l).noted ch r ((u.lane l).channels.get ch).quiet)).arbitrate.1 := by
  obtain ⟨extends_, jump⟩ := ChannelRecord.extend_still (q := cs.get ch) (by rw [idle]; rfl) restarted r.low16
  obtain ⟨w, told⟩ := (s.counted h rs i l cs ch restarted (cs.get ch).refuse).tell_only i (.productNotAllowed l)
  have lifts : ∀ k : Handed, k.lane = l ∧ k.channel = ch ∧ k.report = r → handle (.act k) (s.counted h rs i l cs ch restarted (cs.get ch)) =
      ((s.counted h rs i l cs ch restarted (cs.get ch).refuse).tell i (.productNotAllowed l), [.changed i (s.ctx i).transaction]) := fun k parts => by
    obtain ⟨found, records⟩ := a.found (restarted := restarted) (q := cs.get ch) rfl parts
    rw [handle_act_lift found ((State.counted_lift parts).mpr lift) (by rw [State.counted_ctx]; exact takes) idle]
    have permits : ((s.counted h rs i l cs ch restarted (cs.get ch)).ctx i).permits (cs.get ch) = false := by
      rw [State.counted_ctx]
      exact barred
    unfold State.takeLift
    dsimp only
    rw [records, permits, parts.2.1, parts.1, State.counted_modChannel, State.counted_ctx]
    rfl
  have changed : handle (.changed i (s.ctx i).transaction) ((s.counted h rs i l cs ch restarted (cs.get ch).refuse).tell i (.productNotAllowed l)) =
      (u, []) := by
    have context : (((s.counted h rs i l cs ch restarted (cs.get ch).refuse).tell i (.productNotAllowed l)).ctx i) =
        { s.ctx i with channels := some (cs.set ch (cs.get ch).refuse) } := by
      rw [told]
      exact s.counted_ctx h rs i l cs ch restarted _
    have change := State.handle_change (s := (s.counted h rs i l cs ch restarted (cs.get ch).refuse).tell i (.productNotAllowed l)) (i := i) (by
      rw [context]
      exact a.inUse)
    rw [context] at change
    rw [hu]
    exact change
  refine exec_report_running (n := 2) a restarted extends_ jump (.inl same) (fun k parts => (drain_step (lifts k parts)).trans (drain_quiet changed)) ?_ ?_
  · rw [hu]
    refine LatchClean.contextChanged ?_ i
    rw [told]
    exact LatchClean.congr (a.counted_clean (restarted := restarted) (cs.get ch).refuse) rfl rfl
  · rw [hu]
    refine State.Runs.contextChanged ?_ i
    rw [told]
    exact State.counted_runs (h := h) (rs := rs) (i := i) (cs := cs) (ch := ch) (restarted := restarted) runs (cs.get ch).refuse

/-! ### The zero handshake -/

/-- A hang-up in ZEROING (R111). -/
theorem exec_report_zeroingHung (a : s.BoundReports h retries rs l ch z r i cs) (runs : s.Runs l) (zeroing : (cs.get ch).state = .zeroing)
    (hung : r.nozzle = .hung ∧ ((s.lane l).channels.get ch).nozzle = .lifted)
    (hu : u = (s.counted h rs i l cs ch restarted (cs.get ch).toIdle).contextChanged i) :
    exec (.pollReply h restarted rs) s = .next (u.setLane l ((u.lane l).noted ch r ((u.lane l).channels.get ch).quiet)).arbitrate.1 := by
  obtain ⟨extends_, jump⟩ := ChannelRecord.extend_still (q := cs.get ch) (by rw [zeroing]; rfl) restarted r.low16
  have hangs : ∀ k : Handed, k.lane = l ∧ k.channel = ch ∧ k.report = r → handle (.act k) (s.counted h rs i l cs ch restarted (cs.get ch)) =
      (s.counted h rs i l cs ch restarted (cs.get ch).toIdle, [.changed i (s.ctx i).transaction]) := fun k parts => by
    obtain ⟨found, -⟩ := a.found (restarted := restarted) (q := cs.get ch) rfl parts
    rw [handle_act_hangUp found ((State.counted_hangUp parts).mpr hung) (.inl zeroing)]
    unfold State.takeHangUp
    dsimp only
    rw [zeroing]
    dsimp only
    rw [State.withChannel, parts.2.1, State.counted_modChannel, State.counted_ctx]
  subst hu
  exact exec_report_running (n := 2) a restarted extends_ jump (.inr (by rw [zeroing]; decide))
    (fun k parts => (drain_step (hangs k parts)).trans (drain_quiet (a.counted_changed _)))
    (LatchClean.contextChanged (a.counted_clean _) i) (State.Runs.contextChanged (State.counted_runs runs _) i)

/-- A report of a ZEROING channel that is no hang-up (R110, R111). -/
theorem handle_act_zeroing (a : s.BoundReports h retries rs l ch z r i cs) (zeroing : (cs.get ch).state = .zeroing)
    (held : ¬(r.nozzle = .hung ∧ ((s.lane l).channels.get ch).nozzle = .lifted)) (parts : k.lane = l ∧ k.channel = ch ∧ k.report = r) :
    handle (.act k) (s.counted h rs i l cs ch restarted (cs.get ch)) = if (cs.get ch).zeroAccepted then
      (s.counted h rs i l cs ch restarted (cs.get ch)).countZero i k (cs.get ch) else (s.counted h rs i l cs ch restarted (cs.get ch), []) := by
  obtain ⟨found, records⟩ := a.found (restarted := restarted) (q := cs.get ch) rfl parts
  obtain ⟨-, -, moves, -⟩ := handle_act_moves found records (fun _ _ apart => absurd zeroing apart) fun hung =>
    absurd ((State.counted_hangUp parts).mp hung) held
  exact moves zeroing

/-- One before the ZERO has been accepted. -/
theorem exec_report_zeroing (a : s.BoundReports h retries rs l ch z r i cs) (runs : s.Runs l) (zeroing : (cs.get ch).state = .zeroing)
    (held : ¬(r.nozzle = .hung ∧ ((s.lane l).channels.get ch).nozzle = .lifted)) (waits : (cs.get ch).zeroAccepted = false) :
    exec (.pollReply h restarted rs) s = .next ((({ s with dlu := s.dlu.polled h restarted rs } : State).setLane l ((s.lane l).noted ch r
      ((s.lane l).channels.get ch).quiet)).arbitrate.1) := by
  obtain ⟨extends_, jump⟩ := ChannelRecord.extend_still (q := cs.get ch) (by rw [zeroing]; rfl) restarted r.low16
  have run : ∀ k : Handed, k.lane = l ∧ k.channel = ch ∧ k.report = r →
      drain 3 [.act k, .noted k, .arbitrate] (s.counted h rs i l cs ch restarted (cs.get ch)) =
        drain 2 [.noted k, .arbitrate] (s.counted h rs i l cs ch restarted (cs.get ch)) := fun k parts =>
    drain_quiet ((handle_act_zeroing a zeroing held parts).trans (if_neg (by rw [waits]; exact Bool.false_ne_true)))
  have done := exec_report_running (n := 1) a restarted extends_ jump (.inr (by rw [zeroing]; decide)) run (a.counted_clean _) (State.counted_runs runs _)
  rw [a.counted_same] at done
  exact done

/-- One that does not complete the handshake is counted (R110). -/
theorem handle_act_incomplete (a : s.BoundReports h retries rs l ch z r i cs) (zeroing : (cs.get ch).state = .zeroing)
    (held : ¬(r.nozzle = .hung ∧ ((s.lane l).channels.get ch).nozzle = .lifted)) (accepted : (cs.get ch).zeroAccepted = true)
    (incomplete : ¬(r.nozzle = .lifted ∧ r.valve = .closed ∧ r.zeroed = true ∧ r.low16 = 0 ∧ (cs.get ch).zeroPolls < s.til.params.get 7))
    (parts : k.lane = l ∧ k.channel = ch ∧ k.report = r) :
    handle (.act k) (s.counted h rs i l cs ch restarted (cs.get ch)) =
      if s.til.params.get 7 ≤ (cs.get ch).zeroPolls + 1 then
        (s.counted h rs i l cs ch restarted ({ cs.get ch with zeroPolls := (cs.get ch).zeroPolls + 1 } : ChannelRecord).refuse,
          [.event .laneFault (.lane l) zeroFailedCode, .changed i (s.ctx i).transaction])
      else (s.counted h rs i l cs ch restarted { cs.get ch with zeroPolls := (cs.get ch).zeroPolls + 1 }, []) := by
  have none : zeroComplete (cs.get ch) r (s.til.params.get 7) = false := by
    unfold zeroComplete
    refine Bool.eq_false_iff.mpr fun all => incomplete ?_
    simpa only [Bool.and_eq_true, decide_eq_true_eq, and_assoc] using all
  have count : (s.counted h rs i l cs ch restarted (cs.get ch)).zeroPollCount = s.til.params.get 7 := rfl
  rw [handle_act_zeroing a zeroing held parts, if_pos accepted]
  unfold State.countZero
  dsimp only
  rw [parts.2.2, count, none, if_neg Bool.false_ne_true, parts.2.1, parts.1, State.counted_modChannel, State.counted_ctx,
    show (s.counted h rs i l cs ch restarted { cs.get ch with zeroPolls := (cs.get ch).zeroPolls + 1 }).zeroPollCount = s.til.params.get 7 from rfl]
  refine if_congr Iff.rfl ?_ rfl
  rw [State.zeroFailed, State.withChannel, State.counted_modChannel]

/-- One below the zero poll count. -/
theorem exec_report_counted (a : s.BoundReports h retries rs l ch z r i cs) (runs : s.Runs l) (zeroing : (cs.get ch).state = .zeroing)
    (held : ¬(r.nozzle = .hung ∧ ((s.lane l).channels.get ch).nozzle = .lifted)) (accepted : (cs.get ch).zeroAccepted = true)
    (incomplete : ¬(r.nozzle = .lifted ∧ r.valve = .closed ∧ r.zeroed = true ∧ r.low16 = 0 ∧ (cs.get ch).zeroPolls < s.til.params.get 7))
    (below : (cs.get ch).zeroPolls + 1 < s.til.params.get 7)
    (hu : u = s.counted h rs i l cs ch restarted { cs.get ch with zeroPolls := (cs.get ch).zeroPolls + 1 }) :
    exec (.pollReply h restarted rs) s = .next (u.setLane l ((u.lane l).noted ch r ((u.lane l).channels.get ch).quiet)).arbitrate.1 := by
  obtain ⟨extends_, jump⟩ := ChannelRecord.extend_still (q := cs.get ch) (by rw [zeroing]; rfl) restarted r.low16
  subst hu
  exact exec_report_running (n := 1) a restarted extends_ jump (.inr (by rw [zeroing]; decide))
    (fun k parts => drain_quiet ((handle_act_incomplete a zeroing held accepted incomplete parts).trans (if_neg (Nat.not_le.mpr below))))
    (a.counted_clean _) (State.counted_runs runs _)

theorem handle_event (s : State) (kind : EventKind) (sub : Subject) (n : Nat) : handle (.event kind sub n) s = (s.queueEvent kind sub n, []) := rfl

theorem LatchClean.queueEvent (clean : s.LatchClean) (kind : EventKind) (sub : Subject) (n : Nat) : (s.queueEvent kind sub n).LatchClean :=
  LatchClean.congr clean rfl rfl

theorem State.Runs.queueEvent (runs : s.Runs l) (kind : EventKind) (sub : Subject) (n : Nat) : (s.queueEvent kind sub n).Runs l := runs

/-- One at it: ZERO FAILED (R111). -/
theorem exec_report_zeroFailed (a : s.BoundReports h retries rs l ch z r i cs) (runs : s.Runs l) (zeroing : (cs.get ch).state = .zeroing)
    (held : ¬(r.nozzle = .hung ∧ ((s.lane l).channels.get ch).nozzle = .lifted)) (accepted : (cs.get ch).zeroAccepted = true)
    (incomplete : ¬(r.nozzle = .lifted ∧ r.valve = .closed ∧ r.zeroed = true ∧ r.low16 = 0 ∧ (cs.get ch).zeroPolls < s.til.params.get 7))
    (limit : s.til.params.get 7 ≤ (cs.get ch).zeroPolls + 1)
    (hv : v = s.counted h rs i l cs ch restarted ({ cs.get ch with zeroPolls := (cs.get ch).zeroPolls + 1 } : ChannelRecord).refuse)
    (hu : u = (v.queueEvent .laneFault (.lane l) zeroFailedCode).contextChanged i) :
    exec (.pollReply h restarted rs) s = .next (u.setLane l ((u.lane l).noted ch r ((u.lane l).channels.get ch).quiet)).arbitrate.1 := by
  obtain ⟨extends_, jump⟩ := ChannelRecord.extend_still (q := cs.get ch) (by rw [zeroing]; rfl) restarted r.low16
  have context : v.ctx i = { s.ctx i with channels := some (cs.set ch ({ cs.get ch with zeroPolls := (cs.get ch).zeroPolls + 1 } : ChannelRecord).refuse) } := by
    rw [hv]
    exact s.counted_ctx h rs i l cs ch restarted _
  have clean : v.LatchClean := hv ▸ a.counted_clean _
  have runs' : v.Runs l := hv ▸ State.counted_runs runs _
  have acts : ∀ k : Handed, k.lane = l ∧ k.channel = ch ∧ k.report = r → handle (.act k) (s.counted h rs i l cs ch restarted (cs.get ch)) =
      (v, [.event .laneFault (.lane l) zeroFailedCode, .changed i (s.ctx i).transaction]) := fun k parts => by
    rw [hv]
    exact (handle_act_incomplete a zeroing held accepted incomplete parts).trans (if_pos limit)
  clear hv
  have changed : handle (.changed i (s.ctx i).transaction) (v.queueEvent .laneFault (.lane l) zeroFailedCode) = (u, []) := by
    have same : (v.queueEvent .laneFault (.lane l) zeroFailedCode).ctx i = v.ctx i := rfl
    have change := State.handle_change (s := v.queueEvent .laneFault (.lane l) zeroFailedCode) (i := i) (by
      rw [same, context]
      exact a.inUse)
    rw [same, context] at change
    rw [hu]
    exact change
  refine exec_report_running (n := 3) a restarted extends_ jump (.inr (by rw [zeroing]; decide))
    (fun k parts => (drain_step (acts k parts)).trans ((drain_quiet (handle_event v _ _ _)).trans (drain_quiet changed))) ?_ ?_
  · rw [hu]
    exact LatchClean.contextChanged (LatchClean.queueEvent clean _ _ _) i
  · rw [hu]
    exact (runs'.queueEvent _ _ _).contextChanged i

end Sys2Proof.Machine
end

section
/-! Poll reports (O45): a lift that begins ZEROING, and hang-ups before the release. -/

namespace Sys2Proof.Machine

open Sys2Proof

variable {s t u v : State} {h : HeadId} {i : ContextId} {l m : LaneId} {ch e : Channel} {z : ChannelSetup} {k : Handed} {r : ChannelReport}
  {rs : List ChannelReport} {cs : Triple ChannelRecord} {q q' : ChannelRecord} {x : Context} {y : Lane} {d : DispenserUnit} {b : EventUnit} {retries : Nat}
  {restarted : Bool} {p : LastReport} {c : Command}

/-! ### A lift that begins ZEROING -/

/-- A context as a lift on one of its channels leaves it (R17, R20, R109). -/
def Context.lifted (x : Context) (cs : Triple ChannelRecord) (ch : Channel) : Context := { x with
  state := if x.state = .ending then .delivering else x.state
  deadline := if x.state = .delivering then x.deadline else none
  channels := some (cs.set ch (cs.get ch).beginZeroing) }

/-- The change of a context in which ZEROING has begun. -/
theorem State.counted_lifted (s : State) (h : HeadId) (rs : List ChannelReport) (takes : (s.ctx i).state.takesLifts = true) :
    (s.counted h rs i l cs ch restarted (cs.get ch).beginZeroing).contextChanged i =
      s.view i l ((s.ctx i).lifted cs ch) (s.lane l) (s.dlu.polled h restarted rs) s.reu := by
  have records : ({ s.ctx i with channels := some (cs.set ch (cs.get ch).beginZeroing) } : Context).channels =
      some (cs.set ch (cs.get ch).beginZeroing) := rfl
  have zeroing : ((cs.set ch (cs.get ch).beginZeroing).get ch).state = .zeroing := congrArg ChannelRecord.state (Triple.get_set_self _ _ _)
  have going : ({ s.ctx i with channels := some (cs.set ch (cs.get ch).beginZeroing) } : Context).anyInProgress = true :=
    Context.anyInProgress_of (ch := ch) records (by rw [zeroing]; rfl)
  have past : ({ s.ctx i with channels := some (cs.set ch (cs.get ch).beginZeroing) } : Context).anyPastIdle = true := by
    unfold Context.anyPastIdle Context.anyChannel
    rw [records, Option.any_some, Triple.any_iff]
    exact ⟨ch, by rw [zeroing]; rfl⟩
  have context := s.counted_ctx h rs i l cs ch restarted (cs.get ch).beginZeroing
  rcases (ContextState.takesLifts_iff _).mp takes with state | state | state
  · have armed : ((s.counted h rs i l cs ch restarted (cs.get ch).beginZeroing).ctx i).state = .armed := by
      rw [context]
      exact state
    rw [State.contextChanged_armed armed, State.changedArmed, context, if_pos past, State.counted, State.view_modCtx, Context.lifted, state]
    rfl
  · have delivering : ((s.counted h rs i l cs ch restarted (cs.get ch).beginZeroing).ctx i).state = .delivering := by
      rw [context]
      exact state
    rw [State.contextChanged_stays (.inl delivering) (by rw [context]; exact going), State.counted, Context.lifted, if_pos state, if_neg (by rw [state]; decide)]
  · have ending : ((s.counted h rs i l cs ch restarted (cs.get ch).beginZeroing).ctx i).state = .ending := by
      rw [context]
      exact state
    rw [State.contextChanged_ending ending, context, if_pos going, State.counted, State.view_modCtx, Context.lifted, state]
    rfl

/-- A ZERO queued for an ONLINE head that serves no LOCKED lane (R91). -/
theorem State.view_queue_zero (sees : s.Sees i l x (s.lane l)) {price entry : Nat} (hk : c.payload = .zero price entry)
    (on : (d.heads.get c.head).online = true) (free : ∀ q ∈ s.servedBy c.head, (s.lane q.1).state ≠ .locked)
    (fresh : ∀ e ∈ (d.heads.get c.head).commands, e.lane = c.lane → e.channel = c.channel → e.payload.kind ≠ .zero) :
    handle (.queue c) (s.view i l x (s.lane l) d b) =
      (s.view i l x (s.lane l) (d.withList c.head ((d.heads.get c.head).commands ++ [c])) b, []) := by
  have opening : c.opening = false := by rw [Command.opening, hk]
  have kind : c.payload.kind = .zero := by rw [hk]; rfl
  have isClose : c.isClose = false := by
    rw [Command.isClose, kind]
    rfl
  rw [State.handle_queue (s := s.view i l x (s.lane l) d b) (k := c) on (State.view_headLocked_same sees free) (by rw [opening, Bool.and_false])
    (fun p hp => by rw [hk] at hp; cases hp), State.join_end isClose fun e he => ?_]
  · rfl
  · by_cases same : e.lane = c.lane ∧ e.channel = c.channel
    · exact Bool.and_eq_false_iff.mpr (.inr (decide_eq_false fun alike => fresh e he same.1 same.2 (alike.symm.trans kind)))
    · exact Command.sameKind_of_channel same

/-- A lift of an unused, permitted channel in IDLE (R109, R110). -/
theorem exec_report_lifts (a : s.BoundReports h retries rs l ch z r i cs) (runs : s.Runs l)
    (same : restarted = true ∨ ∀ p, (s.head h).last.get z.headChannel = some p → p.low16 = r.low16)
    (lift : r.nozzle = .lifted ∧ ((s.lane l).channels.get ch).nozzle ≠ .lifted) (takes : (s.ctx i).state.takesLifts = true)
    (idle : (cs.get ch).state = .idle) (permitted : (s.ctx i).permits (cs.get ch) = true) (unused : (cs.get ch).used = false)
    (fresh : ∀ d ∈ (s.head h).commands, d.lane = l → d.channel = ch → d.payload.kind ≠ .zero)
    (hu : u = s.view i l ((s.ctx i).lifted cs ch) (s.lane l) ((s.dlu.polled h restarted rs).withList h ((s.head h).commands ++
      [⟨h, z.headChannel, l, ch, some (i, (s.ctx i).transaction), .zero ((s.ctx i).price z.product) ((cs.get ch).zeroEntry + 1)⟩])) s.reu) :
    exec (.pollReply h restarted rs) s = .next (u.setLane l ((u.lane l).noted ch r ((u.lane l).channels.get ch).quiet)).arbitrate.1 := by
  obtain ⟨extends_, jump⟩ := ChannelRecord.extend_still (q := cs.get ch) (by rw [idle]; rfl) restarted r.low16
  obtain ⟨commands, online⟩ := s.dlu.polled_reads h restarted rs h
  have state := (ContextState.takesLifts_iff _).mp takes
  have sees : s.Sees i l ((s.ctx i).lifted cs ch) (s.lane l) := by
    refine State.Sees.of_records a.channels rfl (Triple.set_setup rfl) ?_ rfl rfl ?_
    · unfold Context.inUse Context.lifted
      rcases state with h | h | h <;> rw [h] <;> rfl
    · unfold Context.lifted
      rcases state with h | h | h <;> rw [h] <;> rfl
  have setup : ((cs.set ch (cs.get ch)).get ch).setup = some z := by
    rw [Triple.get_set_self]
    exact a.record
  have lifts : ∀ k : Handed, k.lane = l ∧ k.channel = ch ∧ k.report = r → handle (.act k) (s.counted h rs i l cs ch restarted (cs.get ch)) =
      (s.counted h rs i l cs ch restarted (cs.get ch).beginZeroing, [.changed i (s.ctx i).transaction, .queue ⟨h, z.headChannel, l, ch,
        some (i, (s.ctx i).transaction), .zero ((s.ctx i).price z.product) ((cs.get ch).zeroEntry + 1)⟩]) := fun k parts => by
    obtain ⟨found, records⟩ := a.found (restarted := restarted) (q := cs.get ch) rfl parts
    rw [handle_act_lift found ((State.counted_lift parts).mpr lift) (by rw [State.counted_ctx]; exact takes) idle]
    have permits : ((s.counted h rs i l cs ch restarted (cs.get ch)).ctx i).permits (cs.get ch) = true := by
      rw [State.counted_ctx]
      exact permitted
    have price : ((s.counted h rs i l cs ch restarted (cs.get ch)).ctx i).channelPrice (cs.get ch).beginZeroing = (s.ctx i).price z.product := by
      have zeroing : (cs.get ch).beginZeroing.setup = some z := a.record
      rw [Context.channelPrice, zeroing, State.counted_ctx]
      rfl
    have queues := State.view_queueFor (s := s) (i := i) (l := l) (x := s.lane l) (d := s.dlu.polled h restarted rs) (r := s.reu)
      (c := { s.ctx i with channels := some (cs.set ch (cs.get ch)) }) (m := l) (State.bound_lane a.bound).2 rfl setup
      (.zero ((s.ctx i).price z.product) ((cs.get ch).zeroEntry + 1))
    rw [a.reports.head] at queues
    unfold State.takeLift
    dsimp only
    rw [records, permits, if_neg (by decide), if_pos ⟨idle, unused⟩, State.withChannel, parts.2.1, State.counted_modChannel, price, State.counted_ctx]
    exact congrArg (fun ws => (s.counted h rs i l cs ch restarted (cs.get ch).beginZeroing, Work.changed i (s.ctx i).transaction :: ws)) queues
  have changed := a.counted_changed (restarted := restarted) (cs.get ch).beginZeroing
  rw [s.counted_lifted h rs takes] at changed
  have queue := State.view_queue_zero (b := s.reu) (d := s.dlu.polled h restarted rs) sees (c := ⟨h, z.headChannel, l, ch,
    some (i, (s.ctx i).transaction), .zero ((s.ctx i).price z.product) ((cs.get ch).zeroEntry + 1)⟩) rfl (online.trans a.reports.online)
    (a.reports.free_of runs.2) (by
      show ∀ e ∈ ((s.dlu.polled h restarted rs).heads.get h).commands, _
      rw [commands]
      exact fresh)
  have list : ((s.dlu.polled h restarted rs).heads.get h).commands = (s.head h).commands := commands
  rw [list] at queue
  refine exec_report_running (n := 3) a restarted extends_ jump (.inl same) (fun k parts => (drain_step (lifts k parts)).trans
    ((drain_step changed).trans (drain_quiet (hu ▸ queue)))) ?_ ?_
  · rw [hu]
    refine LatchClean.withList (x := s.ctx i) (y := s.lane l) (b := s.reu) (LatchClean.view (a.reports.polled restarted)) fun e he => ?_
    rw [list]
    rcases List.mem_append.mp he with old | new
    · exact .inl old
    · rw [List.mem_singleton.mp new]
      exact .inr rfl
  · rw [hu]
    unfold State.Runs
    rw [State.view_lane]
    exact runs

/-! ### A hang-up in ALLOCATING -/

/-- A channel that hangs up before its release leaves the allocation (R116). -/
theorem exec_report_allocatingHung (a : s.BoundReports h retries rs l ch z r i cs) (runs : s.Runs l)
    (same : restarted = true ∨ ∀ p, (s.head h).last.get z.headChannel = some p → p.low16 = r.low16)
    (hung : r.nozzle = .hung ∧ ((s.lane l).channels.get ch).nozzle = .lifted) (allocating : (cs.get ch).state = .allocating)
    (count : (cs.get ch).low16 = r.low16) (fits : (cs.get ch).extended ≤ 4294967295)
    (hv : v = s.view i l { s.ctx i with
      channels := some (cs.set ch (cs.get ch).toIdle)
      allocation := { (s.ctx i).allocation with joining := (s.ctx i).allocation.joining.set ch false } } (s.lane l) (s.dlu.polled h restarted rs) s.reu)
    (hu : u = v.contextChanged i) :
    exec (.pollReply h restarted rs) s = .next (u.setLane l ((u.lane l).noted ch r ((u.lane l).channels.get ch).quiet)).arbitrate.1 := by
  obtain ⟨extends_, jump⟩ := ChannelRecord.extend_same (q := cs.get ch) count fits restarted
  have context : v.ctx i = { s.ctx i with
      channels := some (cs.set ch (cs.get ch).toIdle)
      allocation := { (s.ctx i).allocation with joining := (s.ctx i).allocation.joining.set ch false } } := by
    rw [hv]
    exact State.view_ctx s
  have clean : v.LatchClean := hv ▸ LatchClean.view (a.reports.polled restarted)
  have runs' : v.Runs l := by
    rw [hv]
    unfold State.Runs
    rw [State.view_lane]
    exact runs
  have hangs : ∀ k : Handed, k.lane = l ∧ k.channel = ch ∧ k.report = r → handle (.act k) (s.counted h rs i l cs ch restarted (cs.get ch)) =
      (v, [.changed i (s.ctx i).transaction]) := fun k parts => by
    obtain ⟨found, -⟩ := a.found (restarted := restarted) (q := cs.get ch) rfl parts
    rw [handle_act_hangUp found ((State.counted_hangUp parts).mpr hung) (.inr (.inl allocating))]
    unfold State.takeHangUp
    dsimp only
    rw [allocating]
    dsimp only
    rw [parts.2.1, State.counted_modChannel, State.counted_ctx, State.counted, State.view_modCtx, hv]
    rfl
  clear hv
  have changed : handle (.changed i (s.ctx i).transaction) v = (u, []) := by
    have change := State.handle_change (s := v) (i := i) (by rw [context]; exact a.inUse)
    rw [context] at change
    rw [hu]
    exact change
  subst hu
  exact exec_report_running (n := 2) a restarted extends_ jump (.inl same) (fun k parts => (drain_step (hangs k parts)).trans (drain_quiet changed))
    (LatchClean.contextChanged clean i) (runs'.contextChanged i)

end Sys2Proof.Machine
end

section
/-! Poll reports (O45): a hang-up that withdraws the release, counts, and METER JUMP. -/

namespace Sys2Proof.Machine

open Sys2Proof

variable {s t u v : State} {h : HeadId} {i : ContextId} {l m : LaneId} {ch e : Channel} {z : ChannelSetup} {k : Handed} {r : ChannelReport}
  {rs : List ChannelReport} {cs : Triple ChannelRecord} {q q' : ChannelRecord} {x : Context} {y : Lane} {d : DispenserUnit} {b : EventUnit} {retries : Nat}
  {restarted : Bool} {p : LastReport} {c : Command} {ds : List Command}

/-! ### Release commands withdrawn -/

/-- A withdrawn ZERO or LIMIT does nothing; nor does an OPEN or RELEASE, but for a channel in OPENING (R89, R92). -/
theorem handle_withdrawn_still (hk : c.releasing = true) (shut : c.opening = true → ∀ i n q, s.activeRecord c = some (i, n, q) → q.state ≠ .opening) :
    handle (.outcome c .withdrawn) s = (s, []) := by
  by_cases opening : c.opening = true
  · rw [handle_openOutcome opening withdrawn_ne]
    unfold State.openOutcome
    split
    · rfl
    · rename_i found
      exact if_neg (shut opening _ _ _ found)
  · unfold Command.releasing at hk
    split at hk
    · rename_i payload
      rw [handle_zeroOutcome payload withdrawn_ne]
      unfold State.zeroOutcome
      split
      · rfl
      · split <;> rfl
    · rename_i payload
      rw [handle_limitOutcome payload withdrawn_ne]
      rfl
    · rename_i payload
      exact absurd (by rw [Command.opening, payload]) opening
    · rename_i payload
      exact absurd (by rw [Command.opening, payload]) opening
    · cases hk

theorem drain_withdrawn_still {n : Nat} {ws : List Work} (hk : ∀ c ∈ ds, c.releasing = true)
    (shut : ∀ c ∈ ds, c.opening = true → ∀ i n q, s.activeRecord c = some (i, n, q) → q.state ≠ .opening) :
    drain (n + ds.length) (ds.map (fun c => Work.outcome c .withdrawn) ++ ws) s = drain n ws s := by
  induction ds with
  | nil => rfl
  | cons c ds ih =>
    have first := List.mem_cons_self (a := c) (l := ds)
    rw [List.map_cons, List.cons_append, List.length_cons, ← Nat.add_assoc, drain_quiet (handle_withdrawn_still (hk c first) (shut c first))]
    exact ih (fun e he => hk e (List.mem_cons_of_mem _ he)) fun e he => shut e (List.mem_cons_of_mem _ he)

/-- Nothing of a channel is left to withdraw: its context is gone, or the channel is back in IDLE. -/
def State.Withdrawn (s : State) (i : ContextId) (ch : Channel) : Prop := ∀ cs, (s.ctx i).channels = some cs → (cs.get ch).state = .idle

theorem State.Withdrawn.contextChanged (h : s.Withdrawn i ch) : (s.contextChanged i).Withdrawn i ch := by
  refine State.contextChanged_keeps (P := fun v => v.Withdrawn i ch) i (fun v x same hv cs hc => ?_) (fun v p _ cs hc => ?_) h
  · rw [State.setCtx_ctx_self, same] at hc
    exact hv cs hc
  · rw [State.closeContext_ctx, if_pos rfl] at hc
    cases hc

theorem State.activeRecord_some {n nr : Nat} {i' : ContextId} (ho : c.owner = some (i, n)) (found : s.activeRecord c = some (i', nr, q)) :
    ∃ cs, (s.ctx i).channels = some cs ∧ q = cs.get c.channel := by
  unfold State.activeRecord at found
  rw [ho] at found
  dsimp only at found
  split at found
  · rename_i held
    rw [Bool.and_eq_true] at held
    obtain ⟨cs, hc⟩ := Option.isSome_iff_exists.mp held.2
    refine ⟨cs, hc, ?_⟩
    rw [Context.records, hc] at found
    exact (Prod.mk.inj (Prod.mk.inj (Option.some.inj found)).2).2.symm
  · cases found

/-- The release commands of an OPENING channel withdrawn, an OPEN or RELEASE among them: the channel returns to IDLE once (R92, R117). -/
theorem drain_withdrawn {n : Nat} {ws : List Work} (hu : x.state ≠ .free) (hc : x.channels = some cs) (opening : (cs.get ch).state = .opening)
    (all : ∀ c ∈ ds, c.releasing = true ∧ c.owner = some (i, x.transaction) ∧ c.channel = ch) (found : ∃ c ∈ ds, c.opening = true)
    (hu' : u = (s.view i l { x with channels := some (cs.set ch (cs.get ch).toIdle) } y d b).contextChanged i) :
    drain (n + 1 + ds.length) (ds.map (fun c => Work.outcome c .withdrawn) ++ ws) (s.view i l x y d b) = drain n ws u := by
  induction ds with
  | nil =>
    obtain ⟨c, hc, -⟩ := found
    cases hc
  | cons c ds ih =>
    have first := List.mem_cons_self (a := c) (l := ds)
    obtain ⟨releasing, owner, rfl⟩ := all c first
    have rest : ∀ e ∈ ds, e.releasing = true ∧ e.owner = some (i, x.transaction) ∧ e.channel = c.channel := fun e he => all e (List.mem_cons_of_mem _ he)
    rw [List.map_cons, List.cons_append, List.length_cons]
    by_cases opens : c.opening = true
    · have idle := State.view_withdrawnOpen (s := s) (l := l) (y := y) (d := d) (r := b) hu hc owner opens opening
      have context : (s.view i l { x with channels := some (cs.set c.channel (cs.get c.channel).toIdle) } y d b).ctx i =
          { x with channels := some (cs.set c.channel (cs.get c.channel).toIdle) } := State.view_ctx s
      have withdrawn : u.Withdrawn i c.channel := by
        rw [hu']
        refine State.Withdrawn.contextChanged fun qs hqs => ?_
        rw [context] at hqs
        cases hqs
        rw [Triple.get_set_self]
        rfl
      have changed : handle (.changed i x.transaction) (s.view i l { x with channels := some (cs.set c.channel (cs.get c.channel).toIdle) } y d b) =
          (u, []) := by
        have change := State.handle_change (s := s.view i l { x with channels := some (cs.set c.channel (cs.get c.channel).toIdle) } y d b) (i := i)
          (by rw [context]; exact hu)
        rw [context] at change
        rw [hu']
        exact change
      rw [show n + 1 + (ds.length + 1) = n + ds.length + 1 + 1 by omega]
      refine (drain_step idle).trans ((drain_quiet changed).trans (drain_withdrawn_still (fun e he => (rest e he).1) fun e he _ i' n' q' hq => ?_))
      obtain ⟨qs, hqs, rfl⟩ := State.activeRecord_some (rest e he).2.1 hq
      rw [(rest e he).2.2, withdrawn qs hqs]
      exact nofun
    · have still := handle_withdrawn_still (s := s.view i l x y d b) releasing fun h => absurd h opens
      rw [← Nat.add_assoc]
      refine (drain_quiet still).trans (ih rest ?_)
      obtain ⟨o, ho, hopen⟩ := found
      rcases List.mem_cons.mp ho with rfl | later
      · exact absurd hopen opens
      · exact ⟨o, later, hopen⟩

/-! ### A hang-up in OPENING -/

/-- The CLOSE of a hang-up. -/
def hangUpClose (h : HeadId) (z : ChannelSetup) (l : LaneId) (ch : Channel) (i : ContextId) (n : Nat) : Command :=
  ⟨h, z.headChannel, l, ch, some (i, n), .close .stopped false⟩

theorem State.takeHangUp_opening (s : State) (i : ContextId) (k : Handed) (hq : q.state = .opening) :
    s.takeHangUp i k q = if q.closeQueued.isSome && s.closeStands i k.channel then (s, [])
      else s.withChannel i k.channel (fun q => { q with closeQueued := some .stopped }) (s.queueFor i k.channel (.close .stopped false)) := by
  unfold State.takeHangUp
  dsimp only
  rw [hq]

/-- A hang-up of an OPENING channel with no CLOSE in its head's list: a CLOSE is queued (R117). -/
theorem handle_act_openingHung (a : s.BoundReports h retries rs l ch z r i cs) (parts : k.lane = l ∧ k.channel = ch ∧ k.report = r)
    (hung : r.nozzle = .hung ∧ ((s.lane l).channels.get ch).nozzle = .lifted) (opening : (cs.get ch).state = .opening)
    (open_ : ∀ c ∈ (s.head h).commands, c.lane = l → c.channel = ch → c.payload.kind ≠ .close) :
    handle (.act k) (s.counted h rs i l cs ch restarted (cs.get ch)) =
      (s.counted h rs i l cs ch restarted { cs.get ch with closeQueued := some .stopped }, [.queue (hangUpClose h z l ch i (s.ctx i).transaction)]) := by
  obtain ⟨found, -⟩ := a.found (restarted := restarted) (q := cs.get ch) rfl parts
  have list : ((s.dlu.polled h restarted rs).heads.get h).commands = (s.head h).commands := (s.dlu.polled_reads h restarted rs h).1
  have setup : ((cs.set ch (cs.get ch)).get ch).setup = some z := by
    rw [Triple.get_set_self]
    exact a.record
  have queues := State.view_queueFor (s := s) (i := i) (l := l) (x := s.lane l) (d := s.dlu.polled h restarted rs) (r := s.reu)
    (c := { s.ctx i with channels := some (cs.set ch (cs.get ch)) }) (m := l) (State.bound_lane a.bound).2 rfl setup (.close .stopped false)
  rw [a.reports.head] at queues
  have command : (s.counted h rs i l cs ch restarted (cs.get ch)).commandFor i ch (.close .stopped false) =
      some (hangUpClose h z l ch i (s.ctx i).transaction) := by
    unfold State.commandFor
    rw [State.counted_ctx, (State.bound_lane a.bound).2, Context.records]
    dsimp only [Option.getD_some]
    rw [setup]
    dsimp only
    rw [a.reports.head]
    rfl
  have stands : (s.counted h rs i l cs ch restarted (cs.get ch)).closeStands i ch = false := by
    unfold State.closeStands
    rw [command, Option.any_some, List.any_eq_false]
    show ∀ c ∈ ((s.dlu.polled h restarted rs).heads.get h).commands, _
    rw [list]
    intro c hc
    by_cases here : c.lane = l ∧ c.channel = ch
    · intro same
      rw [Command.sameKind, Bool.and_eq_true, decide_eq_true_iff] at same
      exact open_ c hc here.1 here.2 same.2.symm
    · rw [Command.sameKind_of_channel (k := hangUpClose h z l ch i (s.ctx i).transaction) here]
      exact Bool.false_ne_true
  rw [handle_act_hangUp found ((State.counted_hangUp parts).mpr hung) (.inr (.inr opening)), State.takeHangUp_opening _ i k opening, parts.2.1, stands, Bool.and_false, if_neg Bool.false_ne_true, State.withChannel, State.counted_modChannel]
  exact congrArg (fun ws => (s.counted h rs i l cs ch restarted { cs.get ch with closeQueued := some .stopped }, ws)) queues

/-- Release commands alone stand for a channel: no CLOSE. -/
theorem Command.kind_of_releasing (hk : c.releasing = true) : c.payload.kind ≠ .close := by
  unfold Command.releasing at hk
  split at hk
  case h_5 => cases hk
  all_goals
    rename_i payload
    rw [payload]
    exact nofun

/-- A hang-up of an OPENING channel withdraws its release (R92, R118). -/
theorem exec_report_openingHung (a : s.BoundReports h retries rs l ch z r i cs) (runs : s.Runs l)
    (hung : r.nozzle = .hung ∧ ((s.lane l).channels.get ch).nozzle = .lifted) (opening : (cs.get ch).state = .opening)
    (count : (cs.get ch).low16 = r.low16) (fits : (cs.get ch).extended ≤ 4294967295) (sound : ListSound (s.head h).commands)
    (found : ∃ c ∈ (s.head h).commands, c.lane = l ∧ c.channel = ch ∧ c.opening = true)
    (all : ∀ c ∈ (s.head h).commands, c.lane = l → c.channel = ch → c.releasing = true ∧ c.owner = some (i, (s.ctx i).transaction))
    (hv : v = s.view i l { s.ctx i with channels := some (cs.set ch (cs.get ch).toIdle) } (s.lane l) ((s.dlu.polled h restarted rs).withList h
      (closedList (othersOf (s.head h).commands l ch) (hangUpClose h z l ch i (s.ctx i).transaction))) s.reu)
    (hu : u = v.contextChanged i) :
    exec (.pollReply h restarted rs) s = .next (u.setLane l ((u.lane l).noted ch r ((u.lane l).channels.get ch).quiet)).arbitrate.1 := by
  obtain ⟨extends_, jump⟩ := ChannelRecord.extend_same (q := cs.get ch) count fits restarted
  obtain ⟨commands, online⟩ := s.dlu.polled_reads h restarted rs h
  have list : ((s.dlu.polled h restarted rs).heads.get h).commands = (s.head h).commands := commands
  have sees := a.counted_sees (q := { cs.get ch with closeQueued := some .stopped }) rfl
  let mine := (s.head h).commands.filter fun e => decide (e.lane = l ∧ e.channel = ch)
  have own : ∀ c ∈ mine, c ∈ (s.head h).commands ∧ c.lane = l ∧ c.channel = ch := fun c hc =>
    ⟨(List.mem_filter.mp hc).1, of_decide_eq_true (List.mem_filter.mp hc).2⟩
  have few : mine.length ≤ 288 := (List.length_filter_le _ _).trans sound.length_le
  obtain ⟨joined, withdrawn⟩ := joinList_withdraws_all (cs := (s.head h).commands) (k := hangUpClose h z l ch i (s.ctx i).transaction) rfl
    fun c hc hl hch => (all c hc hl hch).1
  have queue : handle (.queue (hangUpClose h z l ch i (s.ctx i).transaction))
      (s.counted h rs i l cs ch restarted { cs.get ch with closeQueued := some .stopped }) =
      (s.view i l { s.ctx i with channels := some (cs.set ch { cs.get ch with closeQueued := some .stopped }) } (s.lane l)
        ((s.dlu.polled h restarted rs).withList h (closedList (othersOf (s.head h).commands l ch) (hangUpClose h z l ch i (s.ctx i).transaction))) s.reu,
        mine.map fun c => Work.outcome c .withdrawn) := by
    rw [State.handle_queue (s := s.counted h rs i l cs ch restarted { cs.get ch with closeQueued := some .stopped })
      (k := hangUpClose h z l ch i (s.ctx i).transaction) (online.trans a.reports.online)
      (State.view_headLocked_same sees (a.reports.free_of runs.2)) (Bool.and_false _) nofun]
    unfold State.join
    dsimp only
    rw [show ((s.counted h rs i l cs ch restarted { cs.get ch with closeQueued := some .stopped }).head
      (hangUpClose h z l ch i (s.ctx i).transaction).head).commands = (s.head h).commands from list, joined, withdrawn]
    rfl
  have idle : (cs.set ch { cs.get ch with closeQueued := some .stopped }).set ch
      ((cs.set ch { cs.get ch with closeQueued := some .stopped }).get ch).toIdle = cs.set ch (cs.get ch).toIdle := by
    cases ch <;> rfl
  obtain ⟨o, ho, ol, och, opens⟩ := found
  have drains : ∀ ws : List Work, drain (2 + 1 + mine.length) (mine.map (fun c => Work.outcome c .withdrawn) ++ ws) (s.view i l
      { s.ctx i with channels := some (cs.set ch { cs.get ch with closeQueued := some .stopped }) } (s.lane l)
        ((s.dlu.polled h restarted rs).withList h (closedList (othersOf (s.head h).commands l ch) (hangUpClose h z l ch i (s.ctx i).transaction))) s.reu) =
      drain 2 ws u := fun ws => drain_withdrawn (x := { s.ctx i with channels := some (cs.set ch { cs.get ch with closeQueued := some .stopped }) })
    (ch := ch) a.inUse rfl (by rw [Triple.get_set_self]; exact opening)
    (fun c hc => ⟨(all c (own c hc).1 (own c hc).2.1 (own c hc).2.2).1, (all c (own c hc).1 (own c hc).2.1 (own c hc).2.2).2, (own c hc).2.2⟩)
    ⟨o, List.mem_filter.mpr ⟨ho, decide_eq_true ⟨ol, och⟩⟩, opens⟩ (by rw [idle, hu, hv])
  have clean : v.LatchClean := by
    rw [hv]
    refine LatchClean.withList (x := s.ctx i) (y := s.lane l) (b := s.reu) (LatchClean.view (a.reports.polled restarted)) fun e he => ?_
    rw [list]
    exact (closedList_new (cs := othersOf (s.head h).commands l ch) rfl e he).imp_left fun old => (List.mem_filter.mp old).1
  have runs' : v.Runs l := by
    rw [hv]
    unfold State.Runs
    rw [State.view_lane]
    exact runs
  refine exec_report_running (n := 3 + mine.length) a restarted extends_ jump (.inr (by rw [opening]; decide)) (fun k parts => ?_) ?_ ?_ (by omega)
  · have hangs := handle_act_openingHung a (restarted := restarted) parts hung opening fun c hc hl hch => Command.kind_of_releasing (all c hc hl hch).1
    rw [show 3 + mine.length + 2 = 2 + 1 + mine.length + 1 + 1 by omega]
    exact (drain_step hangs).trans ((drain_step queue).trans (drains _))
  · rw [hu]
    exact LatchClean.contextChanged clean i
  · rw [hu]
    exact runs'.contextChanged i

end Sys2Proof.Machine
end

section
/-! Poll reports (O45): counts extended, valves closed, METER JUMP. -/

namespace Sys2Proof.Machine

open Sys2Proof

variable {s t u v : State} {h : HeadId} {i : ContextId} {l m : LaneId} {ch e : Channel} {z : ChannelSetup} {k : Handed} {r : ChannelReport}
  {rs : List ChannelReport} {cs : Triple ChannelRecord} {q q' : ChannelRecord} {x : Context} {y : Lane} {d : DispenserUnit} {b : EventUnit} {retries : Nat}
  {restarted : Bool} {p : LastReport}

/-! ### Counts -/

/-- A FLOWING channel whose count a report has extended: a rising count restarts the no-flow timer (R119). -/
def ChannelRecord.flowed (q : ChannelRecord) (time : Nat) : ChannelRecord :=
  { q with noFlow := if q.extended = q.flowMark then q.noFlow else some (.start time), flowMark := q.extended }

/-- A channel past its release whose count a report has extended (R119, R120). -/
def ChannelRecord.moved (q : ChannelRecord) (r : ChannelReport) (noFlow settle : Nat) : ChannelRecord :=
  match q.state with
  | .flowing => if r.valve = .closed then
      { (q.flowed noFlow).beginSettling q.extended settle with endCause := some (endCauseOf r.cause) } else q.flowed noFlow
  | .closing => if r.valve = .closed then q.beginSettling q.extended settle else q
  | _ => q

/-- A report that extends a channel's count, acted on: no lift that starts anything, no hang-up before the release (R119, R120). -/
theorem handle_act_counted (a : s.BoundReports h retries rs l ch z r i cs) (hq : q.setup = (cs.get ch).setup) (parts : k.lane = l ∧ k.channel = ch ∧ k.report = r)
    (permitted : r.nozzle = .lifted → (s.ctx i).permits q = true) (past : q.state ≠ .idle)
    (zeroed : q.state ≠ .zeroing) (hang : (r.nozzle = .hung ∧ ((s.lane l).channels.get ch).nozzle = .lifted) → q.state ∉ [ChannelState.zeroing, .allocating, .opening]) :
    handle (.act k) (s.counted h rs i l cs ch restarted q) =
      (s.counted h rs i l cs ch restarted (q.moved r s.noFlowTime s.settleTime), []) := by
  obtain ⟨found, records⟩ := a.found (restarted := restarted) hq parts
  obtain ⟨flowing, closing, -, other⟩ := handle_act_moves found records
    (fun lift _ _ => ⟨by rw [State.counted_ctx]; exact permitted ((State.counted_lift parts).mp lift).1, .inr past⟩) fun hung => hang ((State.counted_hangUp parts).mp hung)
  have closed : ∀ {α : Type} (x y : α), (if k.report.valve = .closed then x else y) = if r.valve = .closed then x else y := fun x y => by rw [parts.2.2]
  by_cases flows : q.state = .flowing
  · have mark : (if q.extended ≠ q.flowMark then (s.counted h rs i l cs ch restarted q).modChannel i k.channel fun r => { r with
        noFlow := some (.start (s.counted h rs i l cs ch restarted q).noFlowTime), flowMark := r.extended } else s.counted h rs i l cs ch restarted q) =
        s.counted h rs i l cs ch restarted (q.flowed s.noFlowTime) := by
      rw [parts.2.1, State.counted_modChannel]
      unfold ChannelRecord.flowed
      by_cases same : q.extended = q.flowMark
      · rw [if_neg (not_not.mpr same), if_pos same]
        exact congrArg (fun n => s.counted h rs i l cs ch restarted { q with flowMark := n }) same.symm
      · rw [if_pos same, if_neg same]
        rfl
    rw [flowing flows]
    unfold State.takeFlowing ChannelRecord.moved
    dsimp only
    rw [mark, flows, closed, parts.2.2, parts.2.1, State.withChannel, State.counted_modChannel]
    exact (apply_ite (fun q => (s.counted h rs i l cs ch restarted q, ([] : List Work))) _ _ _).symm
  · by_cases closes : q.state = .closing
    · rw [closing closes]
      unfold State.takeClosing ChannelRecord.moved
      rw [closes, closed, parts.2.1, State.withChannel, State.counted_modChannel]
      exact (apply_ite (fun q => (s.counted h rs i l cs ch restarted q, ([] : List Work))) _ _ _).symm
    · have same : q.moved r s.noFlowTime s.settleTime = q := by
        unfold ChannelRecord.moved
        split
        · exact absurd ‹_› flows
        · exact absurd ‹_› closes
        · rfl
      rw [same]
      exact other (by
        generalize q.state = st at flows closes zeroed
        revert flows closes zeroed
        cases st <;> decide)

/-- A report that extends the count of a channel past its release, on a lane that runs (R98, R119, R120). -/
theorem exec_report_counts {n : Nat} (a : s.BoundReports h retries rs l ch z r i cs) (runs : s.Runs l)
    (state : (cs.get ch).state ∈ [ChannelState.allocating, .opening, .flowing, .closing, .settling]) (permitted : (s.ctx i).permits (cs.get ch) = true)
    (same : (cs.get ch).state = .allocating → restarted = true ∨ ∀ p, (s.head h).last.get z.headChannel = some p → p.low16 = r.low16)
    (hang : (r.nozzle = .hung ∧ ((s.lane l).channels.get ch).nozzle = .lifted) → (cs.get ch).state ∉ [ChannelState.allocating, .opening])
    (small : restarted = true ∨ (r.low16 - (cs.get ch).low16).toNat < 32768)
    (hn : (if restarted = true then (cs.get ch).extended else (cs.get ch).extended + (r.low16 - (cs.get ch).low16).toNat) = n) (fits : n ≤ 4294967295)
    (hu : u = s.counted h rs i l cs ch restarted (({ cs.get ch with low16 := r.low16, extended := n } : ChannelRecord).moved r s.noFlowTime s.settleTime)) :
    exec (.pollReply h restarted rs) s = .next (u.setLane l ((u.lane l).noted ch r ((u.lane l).channels.get ch).quiet)).arbitrate.1 := by
  have extending : (cs.get ch).state.extending = true ∧ (cs.get ch).state ≠ .idle ∧ (cs.get ch).state ≠ .zeroing ∧ ((cs.get ch).state ≠ .allocating →
      (cs.get ch).state ∉ [ChannelState.idle, .refused, .allocating, .done]) := by
    generalize (cs.get ch).state = st at state
    revert state
    cases st <;> decide
  obtain ⟨extending, past, zeroed, other⟩ := extending
  obtain ⟨extends_, jump⟩ := ChannelRecord.extend_by (r := r) extending small hn fits
  subst hu
  refine exec_report_running (n := 1) a restarted extends_ jump ?_ (fun k parts => drain_quiet (handle_act_counted a
    (q := { cs.get ch with low16 := r.low16, extended := n }) rfl parts (fun _ => permitted) past zeroed fun hung => ?_)) (a.counted_clean _) (State.counted_runs runs _)
  · by_cases waits : (cs.get ch).state = .allocating
    · exact .inl (same waits)
    · exact .inr (other waits)
  · have apart := hang hung
    show (cs.get ch).state ∉ _
    rw [List.mem_cons, not_or]
    exact ⟨zeroed, apart⟩

/-- A FLOWING channel found closed at a count that has not risen, on a lane that may be LOCKED (R120, R131). -/
theorem exec_report_closed (a : s.BoundReports h retries rs l ch z r i cs) (h1 : (s.lane l).state ≠ .faultStop) (flowing : (cs.get ch).state = .flowing)
    (hp : (s.head h).last.get z.headChannel = some p) (same : p.low16 = r.low16) (count : (cs.get ch).low16 = r.low16)
    (fits : (cs.get ch).extended ≤ 4294967295) (hung : r.nozzle = .hung)
    (hu : u = s.counted h rs i l cs ch false ((cs.get ch).moved r s.noFlowTime s.settleTime)) :
    exec (.pollReply h false rs) s = .next (u.setLane l ((u.lane l).noted ch r (if (s.lane l).state = .locked then
      (if r.valve = .closed then min 2 (((s.lane l).channels.get ch).quiet + 1) else 0) else ((s.lane l).channels.get ch).quiet))).arbitrate.1 := by
  obtain ⟨extends_, jump⟩ := ChannelRecord.extend_same (q := cs.get ch) count fits false
  have lane : u.lane l = s.lane l := hu ▸ State.view_lane s
  have indication := (a.reports.indication hp).trans (if_pos same)
  refine exec_report_bound (n := 1) a false extends_ jump (.inr (by rw [flowing]; decide)) (fun k parts => drain_quiet (hu ▸ handle_act_counted a rfl parts
    (fun lifted => by rw [hung] at lifted; cases lifted) (by rw [flowing]; decide) (by rw [flowing]; decide) fun _ => by rw [flowing]; decide))
    (hu ▸ a.counted_clean _) (by rw [lane]; exact h1) ?_
  rw [lane, quietAfter_unchanged (r := r) rfl indication]

/-! ### METER JUMP -/

theorem State.testFaultStop_bound (hb : s.bound l = some i) : s.testFaultStop l = s := by
  unfold State.testFaultStop
  rw [hb]
  exact if_neg (by simp)

/-- The notes on a bound lane in FAULT STOP, of a valve that is not closed (R127, R177). -/
theorem State.view_noted_faultStop (sees : s.Sees i l x y) (hb : s.bound l = some i) (parts : k.lane = l ∧ k.channel = ch ∧ k.report = r)
    (stop : y.state = .faultStop) (open_ : r.valve ≠ .closed) :
    handle (.noted k) (s.view i l x y d b) = (s.view i l x (y.noted ch r 0) d b, []) := by
  have bound : (s.view i l x (y.noted ch r 0) d b).bound l = some i :=
    (congrFun (State.view_bound (d := d) (r := b) ⟨sees.inUse, sees.lane, sees.transaction, sees.setups, sees.offered, sees.config⟩) l).trans hb
  have quiet : quietAfter k (y.channels.get ch).quiet = 0 := by
    unfold quietAfter
    rw [parts.2.2]
    exact if_neg fun both => open_ both.1
  rw [State.noteReport_eq, parts.1, parts.2.1, parts.2.2, State.view_lane, if_pos (.inl stop), quiet, State.view_setLane, State.testFaultStop_bound bound]

/-- A report of a CLOSING channel of a STOPPING context, its valve not closed, leads to nothing (R109, R120). -/
theorem State.Sees.act_closing (sees : s.Sees i l x y) (hb : s.bound l = some i) (hc : x.channels = some cs) (parts : k.lane = l ∧ k.channel = ch ∧ k.report = r)
    (stopping : x.state = .stopping) (closing : (cs.get ch).state = .closing) (open_ : r.valve ≠ .closed) :
    handle (.act k) (s.view i l x y d b) = (s.view i l x y d b, []) := by
  obtain ⟨found, records⟩ := State.Sees.record (d := d) (b := b) sees hb hc parts
  obtain ⟨-, moves, -⟩ := handle_act_moves found records (fun _ takes _ => by
    rw [State.view_ctx, stopping] at takes
    cases takes) fun _ => by
      rw [closing]
      decide
  rw [moves closing, State.takeClosing, parts.2.2]
  exact if_neg open_

/-- A METER JUMP of a bound lane's only present channel, FLOWING: FAULT STOP, a CLOSE queued, the context STOPPING (R98, R127). -/
theorem exec_meterJump (a : s.BoundReports h retries rs l ch z r i cs) (runs : s.Runs l) (jump : 32768 ≤ (r.low16 - (cs.get ch).low16).toNat)
    (flowing : (cs.get ch).state = .flowing) (delivering : (s.ctx i).state = .delivering) (open_ : r.valve ≠ .closed)
    (others : ∀ e, e ≠ ch → (cs.get e).state = .idle ∧ (cs.get e).setup = none) (fresh : ∀ d ∈ (s.head h).commands, ¬(d.lane = l ∧ d.channel = ch))
    (hq : q = { cs.get ch with low16 := r.low16 }) (hx : x = { s.ctx i with channels := some (cs.set ch q) })
    (hd : d = (s.dlu.polled h false rs).withList h (closedList (s.head h).commands (faultClose z l ch i (s.ctx i).transaction .meterJump))) :
    exec (.pollReply h false rs) s = .next (s.view i l (x.faultedClosing (cs.set ch q) ch .meterJump)
      ((((s.lane l).enterFaultStop .meterJump).closeQueued ch).noted ch r 0) d
      (s.heed (s.reu.occur .laneFault (.lane l) FaultKind.meterJump.code s.stamp))).arbitrate.1 := by
  have extending : (cs.get ch).state.extending = true := by
    rw [flowing]
    rfl
  have far : decide (32768 ≤ countDelta r.low16 (cs.get ch).low16) = true := decide_eq_true jump
  have extends_ : (cs.get ch).extend false r.low16 = q := by
    rw [ChannelRecord.extend, far, extending, hq]
    rfl
  have jumped : jumps (cs.get ch) false r.low16 = true := by
    rw [jumps, far, extending]
    rfl
  obtain ⟨commands, online⟩ := s.dlu.polled_reads h false rs h
  have list : ((s.dlu.polled h false rs).heads.get h).commands = (s.head h).commands := commands
  have setup : q.setup = (cs.get ch).setup := by rw [hq]
  have state : q.state = .flowing := by rw [hq]; exact flowing
  have sees : s.Sees i l x (s.lane l) := hx ▸ a.counted_sees setup
  have channels : x.channels = some (cs.set ch q) := by rw [hx]
  have delivers : x.state = .delivering := by rw [hx]; exact delivering
  have number : x.transaction = (s.ctx i).transaction := by rw [hx]
  have read : (cs.set ch q).get ch = q := Triple.get_set_self _ _ _
  have other : ∀ e, e ≠ ch → (cs.set ch q).get e = cs.get e := fun e he => Triple.get_set_ne _ (Ne.symm he) _
  have setups : ∀ e, s.setup l e = ((cs.set ch q).get e).setup := fun e =>
    (State.setup_bound a.bound a.channels e).trans (Triple.set_setup setup e).symm
  have record : ({ s with dlu := s.dlu.polled h false rs } : State).laneRecord l ch = some (i, cs.get ch) := State.laneRecord_bound a.bound a.channels ch
  have put : ({ s with dlu := s.dlu.polled h false rs } : State).modChannel i ch (fun q => q.extend false r.low16) =
      s.view i l x (s.lane l) (s.dlu.polled h false rs) s.reu := by
    have moved := State.modChannel_eq (s := { s with dlu := s.dlu.polled h false rs }) (i := i) (rs := cs) a.channels ch (fun q => q.extend false r.low16)
    rw [extends_] at moved
    rw [moved, hx]
    exact s.counted_put h rs i l cs ch false q
  have clean : (s.view i l (s.ctx i) (s.lane l) (s.dlu.polled h false rs) s.reu).LatchClean := LatchClean.view (a.reports.polled false)
  clear hq hx
  have fault := fun k => drain_fault_flowing (n := 3) (ws := [.act k, .noted k, .arbitrate]) (z := z) (r := s.reu) (d := s.dlu.polled h false rs) sees a.bound
    channels (by rw [read]; exact state) (.inr delivers) (by rw [read, setup]; exact a.record) (fun e he => by rw [other e he]; exact others e he) setups
    runs.1 runs.2 (by rw [a.reports.head]; exact online.trans a.reports.online) (by rw [a.reports.head]; exact a.reports.free_of runs.2)
    (by rw [a.reports.head, list]; exact fresh) .meterJump
  have sees' : s.Sees i l (x.faultedClosing (cs.set ch q) ch .meterJump) (((s.lane l).enterFaultStop .meterJump).closeQueued ch) := by
    refine State.Sees.closeQueued (State.Sees.channel (c := x.faulted) (sees.faulted ?_ (by rw [delivers]; decide) .meterJump) channels ?_) ch
    · exact decide_eq_true (by rw [delivers]; decide)
    · rfl
  rw [a.reports.head, list, number, ← hd] at fault
  rw [a.reports.exec]
  have parts := handedOf_parts (s.head h) l ch r false
  have restart : (handedOf (s.head h) l ch r false).restarted = false := rfl
  generalize handedOf (s.head h) l ch r false = k at parts restart ⊢
  have found : ({ s with dlu := s.dlu.polled h false rs } : State).laneRecord k.lane k.channel = some (i, cs.get ch) := by
    rw [parts.1, parts.2.1]
    exact record
  have handed := State.handle_handed found
  rw [restart, parts.2.2, jumped, parts.2.1, parts.1, put, State.flowWithoutRelease_calm (.inr ⟨i, cs.get ch, found, by rw [flowing]; decide⟩)] at handed
  have act := State.Sees.act_closing (d := d) (b := s.heed (s.reu.occur .laneFault (.lane l) FaultKind.meterJump.code s.stamp)) sees' a.bound
    (cs := (cs.set ch q).set ch (((cs.set ch q).get ch).beginClosing (.fault .meterJump))) rfl parts rfl (by rw [Triple.get_set_self]; rfl) open_
  have noted := State.view_noted_faultStop (d := d) (b := s.heed (s.reu.occur .laneFault (.lane l) FaultKind.meterJump.code s.stamp)) sees' a.bound parts rfl open_
  refine finish_then_arbitrate (n := 9) ((drain_step handed).trans ((fault k).trans ((drain_quiet act).trans (drain_quiet noted)))) ?_
  rw [hd]
  refine LatchClean.withList clean fun e he => ?_
  rw [list]
  exact (closedList_new rfl e he).imp_left id

end Sys2Proof.Machine
end

section
/-! Poll reports (O45): the zero handshake completed, and the allocation it triggers. -/

namespace Sys2Proof.Machine

open Sys2Proof

variable {s t u v : State} {h : HeadId} {i : ContextId} {l m : LaneId} {ch e : Channel} {z w : ChannelSetup} {k : Handed} {r : ChannelReport}
  {rs : List ChannelReport} {cs : Triple ChannelRecord} {q q' : ChannelRecord} {x : Context} {y : Lane} {d : DispenserUnit} {b : EventUnit} {retries : Nat}
  {restarted : Bool} {p : LastReport} {sh : Share}

/-- What the zero handshake's last report starts from, but for what is bound to the lane (R110, R112). -/
structure State.Zeroed (s : State) (l : LaneId) (ch : Channel) (r : ChannelReport) (i : ContextId) (cs : Triple ChannelRecord) : Prop where
  lifted : r.nozzle = .lifted
  closed : r.valve = .closed
  zeroed : r.zeroed = true
  count : r.low16 = 0
  clear : (s.ctx i).allocation = .clear
  zeroing : (cs.get ch).state = .zeroing
  accepted : (cs.get ch).zeroAccepted = true
  polls : (cs.get ch).zeroPolls < s.til.params.get 7

/-- A report that completes the zero handshake: the channel joins, and an allocation is triggered (R110, R112). -/
theorem State.Zeroed.act (f : s.Zeroed l ch r i cs) (a : s.BoundReports h retries rs l ch z r i cs) (parts : k.lane = l ∧ k.channel = ch ∧ k.report = r) :
    handle (.act k) (s.counted h rs i l cs ch restarted (cs.get ch)) =
      (s.counted h rs i l cs ch restarted (cs.get ch).beginAllocating, [.trigger i (s.ctx i).transaction false]) := by
  have complete : zeroComplete (cs.get ch) r (s.til.params.get 7) = true := by
    unfold zeroComplete
    rw [f.lifted, f.closed, f.zeroed, f.count, decide_eq_true f.polls]
    rfl
  have count : (s.counted h rs i l cs ch restarted (cs.get ch)).zeroPollCount = s.til.params.get 7 := rfl
  rw [handle_act_zeroing a f.zeroing (fun hung => by rw [f.lifted] at hung; cases hung.1) parts, if_pos f.accepted]
  unfold State.countZero
  dsimp only
  rw [parts.2.2, count, complete, if_pos rfl, parts.2.1, State.withChannel, State.counted_modChannel, State.counted_ctx]

/-- The channels that join where only one is ALLOCATING (R112). -/
theorem joining_one {qs : Triple ChannelRecord} (joins : (qs.get ch).state = .allocating) (others : ∀ f, f ≠ ch → (qs.get f).state ≠ .allocating) :
    (qs.map fun r => decide (r.state = .allocating)) = (Triple.fill false).set ch true := by
  have none : ∀ f, f ≠ ch → decide ((qs.get f).state = .allocating) = false := fun f hf => decide_eq_false (others f hf)
  have one : decide ((qs.get ch).state = .allocating) = true := decide_eq_true joins
  cases ch
  · exact congr (congrArg₂ Triple.mk one (none .b (by decide))) (none .c (by decide))
  · exact congr (congrArg₂ Triple.mk (none .a (by decide)) one) (none .c (by decide))
  · exact congr (congrArg₂ Triple.mk (none .a (by decide)) (none .b (by decide))) one

theorem loweringOf_still {share : Option Share} (still : q.state.isFlowing = false) : loweringOf q share = none := by
  unfold loweringOf
  split
  · rw [still, Bool.false_and, if_neg Bool.false_ne_true]
  · rfl

/-- The zero handshake completed with no other channel that shares: the channel opens at once with what the division gives it (R110, R112 to R115). -/
theorem exec_report_opens (a : s.BoundReports h retries rs l ch z r i cs) (runs : s.Runs l) (f : s.Zeroed l ch r i cs) (latch : s.rd.latch = false)
    (alone : ∀ d, d ≠ ch → (cs.get d).state ∉ [ChannelState.opening, .flowing, .allocating])
    (hx : x = { s.ctx i with
      channels := some (cs.set ch (cs.get ch).beginAllocating), allocation := ⟨.lowering, (Triple.fill false).set ch true, .fill none, false⟩ })
    (share : (x.phaseTwo s.productClass s.slowVolume).get ch = some sh) (some' : 0 < sh.volume)
    (fresh : ∀ d ∈ (s.head h).commands, ¬(d.lane = l ∧ d.channel = ch))
    (hu : u = s.view i l { s.ctx i with channels := some (cs.set ch { (cs.get ch).beginAllocating with state := .opening, points := some sh.points }) }
      (s.lane l) ((s.dlu.polled h false rs).withList h ((s.head h).commands ++ releaseEntries
        ⟨h, z.headChannel, l, ch, some (i, (s.ctx i).transaction), .release sh.points⟩ sh.points (s.head h).singleFrame)) s.reu) :
    exec (.pollReply h false rs) s = .next (u.setLane l ((u.lane l).noted ch r ((u.lane l).channels.get ch).quiet)).arbitrate.1 := by
  obtain ⟨extends_, jump⟩ := ChannelRecord.extend_still (q := cs.get ch) (by rw [f.zeroing]; rfl) false r.low16
  let qs : Triple ChannelRecord := cs.set ch (cs.get ch).beginAllocating
  let x₀ : Context := { s.ctx i with channels := some qs }
  let opened : Triple ChannelRecord := qs.set ch { qs.get ch with state := .opening, points := some sh.points }
  let x' : Context := { s.ctx i with
    channels := some opened, allocation := ⟨.raising, (Triple.fill false).set ch true, .fill none, false⟩ }
  let c : Command := ⟨h, z.headChannel, l, ch, some (i, (s.ctx i).transaction), .release sh.points⟩
  obtain ⟨commands, online⟩ := s.dlu.polled_reads h false rs h
  have list : ((s.dlu.polled h false rs).heads.get h).commands = (s.head h).commands := commands
  have single : ((s.dlu.polled h false rs).heads.get h).singleFrame = (s.head h).singleFrame := by
    have read : (s.dlu.polled h false rs).heads.get h = (({ s.head h with
      failures := 0, singleFrame := (s.head h).singleFrame && !false } : Head).keepReports rs) := Tab.get_set_self _ _ _
    rw [read]
    exact Bool.and_true _
  have inUse : x₀.inUse = true := (State.bound_lane a.bound).1
  have lane : x₀.lane = some l := (State.bound_lane a.bound).2
  have read : qs.get ch = (cs.get ch).beginAllocating := Triple.get_set_self _ _ _
  have other : ∀ e, e ≠ ch → ((qs.get e).state.isFlowing || decide ((qs.get e).state = .allocating)) = false := fun e he => by
    rw [show qs.get e = cs.get e from Triple.get_set_ne _ (Ne.symm he) _]
    exact (sharing_iff _).mp (alone e he)
  have joining : Allocation.raiseOnly qs = ⟨.lowering, (Triple.fill false).set ch true, .fill none, false⟩ := by
    rw [Allocation.raiseOnly, joining_one (ch := ch) (by rw [read]; rfl) fun e he => of_decide_eq_false (Bool.or_eq_false_iff.mp (other e he)).2]
  have begun : ({ x₀ with allocation := .raiseOnly qs } : Context) = x := by
    rw [joining, hx]
  have setups : ∀ e, (opened.get e).setup = (cs.get e).setup := fun e =>
    (Triple.set_setup (rs := qs) (q := { qs.get ch with state := .opening, points := some sh.points }) rfl e).trans
      (Triple.set_setup (q := (cs.get ch).beginAllocating) rfl e)
  have sees : s.Sees i l x' (s.lane l) := State.Sees.of_records a.channels rfl setups rfl rfl rfl rfl
  have raising : x.raising = { s.ctx i with
      channels := some qs, allocation := ⟨.raising, (Triple.fill false).set ch true, .fill none, false⟩ } := by
    rw [hx]
    rfl
  have setup : (qs.get ch).setup = some z := by
    rw [read]
    exact a.record
  have opens := State.view_raise_joins (s := s) (i := i) (l := l) (y := s.lane l) (d := s.dlu.polled h false rs) (r := s.reu) (x := { s.ctx i with
      channels := some qs, allocation := ⟨.raising, (Triple.fill false).set ch true, .fill none, false⟩ }) inUse rfl (rs := qs) rfl
    (ch := ch) (sh := sh) (by rw [read]; rfl) some'
  have queueing := State.view_queueFor (s := s) (i := i) (l := l) (x := s.lane l) (d := s.dlu.polled h false rs) (r := s.reu) (c := { s.ctx i with
      channels := some qs, allocation := ⟨.raising, (Triple.fill false).set ch true, .fill none, false⟩ }) lane rfl setup (.release sh.points)
  rw [a.reports.head] at queueing
  rw [queueing] at opens
  have queue := State.view_queue_release (d := s.dlu.polled h false rs) (r := s.reu) sees (k := c) rfl latch (online.trans a.reports.online)
    (a.reports.free_of runs.2) (fun d hd => fresh d (list ▸ hd))
  rw [show c.head = h from rfl, list, single] at queue
  have steps := fun ws => drain_trigger_raises (s := s) (i := i) (l := l) (n := 2) (m := 2) (ws := ws) (x := x₀) (rs := qs) (e := ch) (g := ch)
    (d := s.dlu.polled h false rs) (r := s.reu) (y := s.lane l) (x' := x') (second := false)
    (d' := (s.dlu.polled h false rs).withList h ((s.head h).commands ++ releaseEntries c sh.points (s.head h).singleFrame))
    inUse (by show (s.ctx i).allocation.phase = .none; rw [f.clear]; rfl) (.inl rfl) rfl (fun e he => (Bool.or_eq_false_iff.mp (other e he)).1)
    (loweringOf_still (by rw [read]; rfl)) inUse rfl rfl rfl rfl (fun e he => Triple.get_set_ne _ (Ne.symm he) _) (fun e he => .inr (other e he))
    (fun n ws => by
      rw [begun, share, raising]
      exact (drain_step (n := n + 1) opens).trans (drain_step queue))
  have final : s.view i l x'.abandon (s.lane l) ((s.dlu.polled h false rs).withList h ((s.head h).commands ++
      releaseEntries c sh.points (s.head h).singleFrame)) s.reu = u := by
    have clear : x'.abandon = { s.ctx i with channels := some (cs.set ch { (cs.get ch).beginAllocating with state := .opening, points := some sh.points }) } := by
      have whole : opened = cs.set ch { (cs.get ch).beginAllocating with state := .opening, points := some sh.points } := by cases ch <;> rfl
      show ({ s.ctx i with channels := some opened, allocation := .clear } : Context) = { s.ctx i with
        channels := some (cs.set ch { (cs.get ch).beginAllocating with state := .opening, points := some sh.points }), allocation := (s.ctx i).allocation }
      rw [whole, f.clear]
    rw [clear, hu]
  rw [final] at steps
  have runs' : u.Runs l := by
    rw [hu]
    unfold State.Runs
    rw [State.view_lane]
    exact runs
  have latched : u.rd.latch = false := by
    rw [hu]
    exact latch
  exact exec_report_running (n := 8) a false extends_ jump (.inr (by rw [f.zeroing]; decide)) (fun k parts => (drain_step (f.act a parts)).trans (steps _))
    (fun on => absurd (on.symm.trans latched) (by decide)) runs'

/-- The zero handshake completed with one other channel that shares, FLOWING, that the division lowers: its LIMIT is queued first (R110, R112 to R114). -/
theorem exec_report_lowers (a : s.BoundReports h retries rs l ch z r i cs) (runs : s.Runs l) (f : s.Zeroed l ch r i cs) (apart : e ≠ ch)
    (flowing : (cs.get e).state = .flowing) (hw : (cs.get e).setup = some w)
    (rest : ∀ d, d ≠ ch → d ≠ e → (cs.get d).state ∉ [ChannelState.opening, .flowing, .allocating])
    (target : (({ s.ctx i with channels := some (cs.set ch (cs.get ch).beginAllocating) } : Context).phaseOne s.productClass s.slowVolume).get e = some sh)
    (less : sh.points.stop < (cs.get e).stopInForce) (on : (s.head w.head).online = true) (free : ∀ q ∈ s.servedBy w.head, (s.lane q.1).state ≠ .locked)
    (fresh : ∀ d ∈ (s.head w.head).commands, ¬(d.lane = l ∧ d.channel = e))
    (hu : u = s.view i l { s.ctx i with
        channels := some (cs.set ch (cs.get ch).beginAllocating)
        allocation := ⟨.lowering, (Triple.fill false).set ch true, (Triple.fill none).set e (some ⟨sh.points, none⟩), false⟩ }
      (s.lane l) ((s.dlu.polled h false rs).withList w.head ((s.head w.head).commands ++
        [⟨w.head, w.headChannel, l, e, some (i, (s.ctx i).transaction), .limit sh.points true⟩])) s.reu) :
    exec (.pollReply h false rs) s = .next (u.setLane l ((u.lane l).noted ch r ((u.lane l).channels.get ch).quiet)).arbitrate.1 := by
  obtain ⟨extends_, jump⟩ := ChannelRecord.extend_still (q := cs.get ch) (by rw [f.zeroing]; rfl) false r.low16
  obtain ⟨commands, online⟩ := s.dlu.polled_reads h false rs w.head
  let qs : Triple ChannelRecord := cs.set ch (cs.get ch).beginAllocating
  have list : ((s.dlu.polled h false rs).heads.get w.head).commands = (s.head w.head).commands := commands
  have read : qs.get ch = (cs.get ch).beginAllocating := Triple.get_set_self _ _ _
  have readE : qs.get e = cs.get e := Triple.get_set_ne _ (Ne.symm apart) _
  have joining : (qs.map fun r => decide (r.state = .allocating)) = (Triple.fill false).set ch true := joining_one (by rw [read]; rfl) fun g hg => by
    rw [show qs.get g = cs.get g from Triple.get_set_ne _ (Ne.symm hg) _]
    by_cases hge : g = e
    · rw [hge, flowing]
      decide
    · exact of_decide_eq_false (Bool.or_eq_false_iff.mp ((sharing_iff _).mp (rest g hg hge))).2
  have quiet : ∀ g, g ≠ e → (qs.get g).state.isFlowing = false := fun g hg => by
    by_cases hgc : g = ch
    · rw [hgc, read]
      rfl
    · rw [show qs.get g = cs.get g from Triple.get_set_ne _ (Ne.symm hgc) _]
      exact (Bool.or_eq_false_iff.mp ((sharing_iff _).mp (rest g hgc hg))).1
  have sees : s.Sees i l { s.ctx i with channels := some qs } (s.lane l) := State.Sees.channel (State.Sees.refl s i l) a.channels rfl
  have steps := fun ws => drain_trigger_lowers (n := 2) (ws := ws) (x := { s.ctx i with channels := some qs }) (rs := qs) (e := e) (z := w) (sh := sh)
    (d := s.dlu.polled h false rs) (r := s.reu) (second := false) (State.bound_lane a.bound).1 (by show (s.ctx i).allocation.phase = .none; rw [f.clear]; rfl)
    (.inl rfl) rfl (State.bound_lane a.bound).2 (by rw [readE]; exact hw) (by rw [readE, flowing]; rfl) quiet target (by rw [readE]; exact less) sees
    (online.trans on) free (fun d hd => fresh d (list ▸ hd))
  have begun : Allocation.lowerOne qs e sh.points = ⟨.lowering, (Triple.fill false).set ch true, (Triple.fill none).set e (some ⟨sh.points, none⟩), false⟩ := by
    rw [Allocation.lowerOne, joining]
  rw [begun, list, ← hu] at steps
  have runs' : u.Runs l := by
    rw [hu]
    unfold State.Runs
    rw [State.view_lane]
    exact runs
  refine exec_report_running (n := 4) a false extends_ jump (.inr (by rw [f.zeroing]; decide))
    (fun k parts => (drain_step (f.act a parts)).trans (steps _)) ?_ runs'
  rw [hu]
  refine LatchClean.withList (x := s.ctx i) (y := s.lane l) (b := s.reu) (LatchClean.view (a.reports.polled false)) fun g hg => ?_
  rw [list]
  exact mem_append_one rfl hg

end Sys2Proof.Machine
end

section
/-! Poll reports are kept and handed on (O45), settled. -/

namespace Sys2Proof.Machine

open Sys2Proof

variable {s t u v : State} {h : HeadId} {i : ContextId} {l m : LaneId} {ch e : Channel} {z w : ChannelSetup} {k : Handed} {r : ChannelReport}
  {rs : List ChannelReport} {cs : Triple ChannelRecord} {q q' : ChannelRecord} {x : Context} {y : Lane} {d : DispenserUnit} {b : EventUnit} {retries : Nat}
  {restarted : Bool} {p : LastReport} {sh : Share} {noFlow settle : Nat}

/-! ### A channel past its release, by its state and its valve -/

theorem ChannelRecord.moved_flowing_closed (hq : q.state = .flowing) (hr : r.valve = .closed) :
    q.moved r noFlow settle = { (q.flowed noFlow).beginSettling q.extended settle with endCause := some (endCauseOf r.cause) } := by
  unfold ChannelRecord.moved
  rw [hq]
  exact if_pos hr

theorem ChannelRecord.moved_flowing (hq : q.state = .flowing) (hr : r.valve ≠ .closed) : q.moved r noFlow settle = q.flowed noFlow := by
  unfold ChannelRecord.moved
  rw [hq]
  exact if_neg hr

theorem ChannelRecord.moved_closing_closed (hq : q.state = .closing) (hr : r.valve = .closed) :
    q.moved r noFlow settle = q.beginSettling q.extended settle := by
  unfold ChannelRecord.moved
  rw [hq]
  exact if_pos hr

theorem ChannelRecord.moved_other (h1 : q.state ≠ .flowing) (h2 : q.state = .closing → r.valve ≠ .closed) : q.moved r noFlow settle = q := by
  unfold ChannelRecord.moved
  split
  · exact absurd ‹_› h1
  · exact if_neg (h2 ‹_›)
  · rfl

/-! ### The clauses on a lane with no context -/

/-- A lane in FAULT STOP with no context whose channels are all quiet leaves it; any other stays in it (R128). -/
theorem exec_report_tested {n : Nat} (a : s.Reports h retries rs l ch z r) (hp : (s.head h).last.get z.headChannel = some p) (hb : s.bound l = none)
    (stop : (s.lane l).state = .faultStop) (adopt : s.lau.adoption.get l = false)
    (calm : p.low16 = r.low16 ∨ ((s.lane l).channels.get ch).faultClose ≠ .complete)
    (hn : (if r.valve = .closed ∧ p.low16 = r.low16 then min 2 (((s.lane l).channels.get ch).quiet + 1) else 0) = n) :
    ((∀ ch' z', s.setup l ch' = some z' → ((((s.lane l).noted ch r n).channels).get ch').quiet = 2) →
      exec (.pollReply h false rs) s = .next (({ s with dlu := s.dlu.polled h false rs } : State).setLane l { s.lane l with
        state := if (s.lane l).config.isOpen = true ∧ s.til.load ≠ .loading then .idle else .closed
        fault := none
        channels := ((s.lane l).noted ch r n).channels.map fun w => { w with faultClose := .none, faultSettle := none } }).arbitrate.1) ∧
    (¬(∀ ch' z', s.setup l ch' = some z' → ((((s.lane l).noted ch r n).channels).get ch').quiet = 2) →
      exec (.pollReply h false rs) s = .next (({ s with dlu := s.dlu.polled h false rs } : State).setLane l ((s.lane l).noted ch r n)).arbitrate.1) := by
  have done := exec_report_faultStop a hp hb stop adopt calm
  rw [hn] at done
  have lane : (({ s with dlu := s.dlu.polled h false rs } : State).setLane l ((s.lane l).noted ch r n)).lane l = (s.lane l).noted ch r n :=
    State.setLane_lane_self _ _ _
  have bound : (({ s with dlu := s.dlu.polled h false rs } : State).setLane l ((s.lane l).noted ch r n)).bound l = none := hb
  have quiet := State.laneQuiet_unbound bound
  rw [lane] at quiet
  have config : (∀ ch' z', s.setup l ch' = some z' → ((((s.lane l).noted ch r n).channels).get ch').quiet = 2) ↔
      (({ s with dlu := s.dlu.polled h false rs } : State).setLane l ((s.lane l).noted ch r n)).laneQuiet l = true := by
    rw [quiet]
    refine forall_congr' fun ch' => forall_congr' fun z' => ?_
    rw [State.setup_unbound hb]
    rfl
  rw [config]
  refine ⟨fun all => ?_, fun some' => ?_⟩
  · have ends := State.testFaultStop_ends (by rw [lane]; exact stop) bound all adopt
    rw [lane, State.freeLaneState_eq, lane] at ends
    rw [done, ends, State.setLane_setLane]
    rfl
  · rw [done, State.testFaultStop_loud (Bool.eq_false_iff.mpr some')]

/-- A FLOWING channel found closed, its count as it was (R120, R131). -/
theorem exec_report_closed_put (a : s.BoundReports h retries rs l ch z r i cs) (h1 : (s.lane l).state ≠ .faultStop) (flowing : (cs.get ch).state = .flowing)
    (hp : (s.head h).last.get z.headChannel = some p) (same : p.low16 = r.low16) (count : (cs.get ch).low16 = r.low16)
    (mark : (cs.get ch).extended = (cs.get ch).flowMark) (fits : (cs.get ch).extended ≤ 4294967295) (closed : r.valve = .closed) (hung : r.nozzle = .hung)
    (ht : t = { s with dlu := s.dlu.polled h false rs }) :
    exec (.pollReply h false rs) s = .next (((t.setCtx i { s.ctx i with channels := some (cs.set ch
        { (cs.get ch).beginSettling (cs.get ch).extended s.settleTime with endCause := some (endCauseOf r.cause) }) }).setLane l ((s.lane l).noted ch r
          (if (s.lane l).state = .locked then (if r.valve = .closed then min 2 (((s.lane l).channels.get ch).quiet + 1) else 0)
            else ((s.lane l).channels.get ch).quiet))).arbitrate.1) := by
  have flowed : (cs.get ch).flowed s.noFlowTime = cs.get ch := by
    unfold ChannelRecord.flowed
    rw [if_pos mark]
    exact congrArg (fun n => { cs.get ch with flowMark := n }) mark
  have done := exec_report_closed a h1 flowing hp same count fits hung rfl
  rw [ChannelRecord.moved_flowing_closed flowing closed, flowed, State.counted, State.view_lane] at done
  rw [ht, State.setCtx_view _ i l]
  exact done

/-- FLOW WITHOUT RELEASE as the first fault of a lane with no context (R125, R127). -/
theorem exec_flow_free_put {ds : List Command} (a : s.Reports h retries rs l ch z r) (hp : (s.head h).last.get z.headChannel = some p) (other : p.low16 ≠ r.low16)
    (hb : s.bound l = none) (h1 : (s.lane l).state ≠ .faultStop) (h2 : (s.lane l).state ≠ .locked) (hn : ∀ e, e ≠ ch → s.setup l e = none)
    (fresh : ∀ d ∈ (s.head h).commands, ¬(d.lane = l ∧ d.channel = ch)) (ht : t = { s with dlu := s.dlu.polled h false rs })
    (hds : ds = closedList (s.head h).commands ⟨h, z.headChannel, l, ch, none, .close (.fault .flowWithoutRelease) true⟩)
    (hy : y = { s.lane l with
      state := .faultStop
      fault := some .flowWithoutRelease
      channels := ((s.lane l).channels.map fun w => { w with quiet := 0, faultClose := .none, faultSettle := none }).set ch
        { (s.lane l).channels.get ch with
          nozzle := seenOf r.nozzle, handed := some (r.valve, r.cause), quiet := 0, faultClose := .queued, faultSettle := none } }) :
    exec (.pollReply h false rs) s = .next ((((t.setHead h { t.head h with commands := ds }).setLane l y).queueEvent .laneFault (.lane l)
      FaultKind.flowWithoutRelease.code).arbitrate.1) := by
  have lane : (((s.lane l).enterFaultStop .flowWithoutRelease).closeQueued ch).noted ch r 0 = y := by
    rw [hy]
    cases ch <;> rfl
  have context : t.setCtx 0 (s.ctx 0) = t := by
    rw [ht]
    exact State.setCtx_self { s with dlu := s.dlu.polled h false rs } 0
  have list : closedList (s.head h).commands (freeClose z l ch .flowWithoutRelease) = ds := by
    rw [hds, ← a.head]
    rfl
  have sees : s.Sees 0 l (s.ctx 0) y := lane ▸ ⟨rfl, rfl, rfl, rfl, rfl, rfl⟩
  have done := exec_flow_free a hp other hb h1 h2 hn fresh
  have hit := State.hit_view sees (s.dlu.polled h false rs) h ds .laneFault (.lane l) FaultKind.flowWithoutRelease.code
  rw [← ht, context] at hit
  rw [lane, list, ← hit] at done
  exact done

/-! ### The clauses on the zero handshake -/

/-- The link after a poll reply, with a context put and a head's list set, as a view. -/
theorem State.polled_view (s : State) (h : HeadId) (rs : List ChannelReport) (i : ContextId) (l : LaneId) (x : Context) (g : HeadId) (ds : List Command)
    (ht : t = { s with dlu := s.dlu.polled h restarted rs }) :
    (t.setCtx i x).setHead g { t.head g with commands := ds } =
      s.view i l x (s.lane l) ((s.dlu.polled h restarted rs).withList g ds) s.reu := by
  rw [ht]
  exact State.setHead_view s i l x (s.dlu.polled h restarted rs) g ds

/-- The notes of the handshake's last report. -/
theorem State.Zeroed.noted (f : s.Zeroed l ch r i cs) : (s.lane l).noted ch r ((s.lane l).channels.get ch).quiet = { s.lane l with
    channels := (s.lane l).channels.set ch { (s.lane l).channels.get ch with nozzle := .lifted, handed := some (.closed, r.cause) } } := by
  unfold Lane.noted
  rw [f.lifted, f.closed]
  rfl

theorem exec_report_opens_put {y : Head} {qs : Triple ChannelRecord} {c : Command} (a : s.BoundReports h retries rs l ch z r i cs) (runs : s.Runs l) (f : s.Zeroed l ch r i cs) (latch : s.rd.latch = false)
    (alone : ∀ d, d ≠ ch → (cs.get d).state ∉ [ChannelState.opening, .flowing, .allocating]) (hqs : qs = cs.set ch (cs.get ch).beginAllocating)
    (hx : x = { s.ctx i with channels := some qs, allocation := ⟨.lowering, (Triple.fill false).set ch true, .fill none, false⟩ })
    (share : (x.phaseTwo s.productClass s.slowVolume).get ch = some sh) (some' : 0 < sh.volume)
    (fresh : ∀ d ∈ (s.head h).commands, ¬(d.lane = l ∧ d.channel = ch)) (ht : t = { s with dlu := s.dlu.polled h false rs }) (hy : y = s.head h)
    (hc : c = ⟨z.head, z.headChannel, l, ch, some (i, (s.ctx i).transaction), .release sh.points⟩) :
    exec (.pollReply h false rs) s = .next ((((t.setCtx i { x with
      channels := some (qs.set ch { qs.get ch with state := .opening, points := some sh.points })
      allocation := .clear }).setHead h { t.head h with commands := y.commands ++ releaseEntries c sh.points y.singleFrame }).setLane l
          { s.lane l with
            channels := (s.lane l).channels.set ch { (s.lane l).channels.get ch with nozzle := .lifted, handed := some (.closed, r.cause) } }).arbitrate.1) := by
  have final : ({ x with channels := some (qs.set ch { qs.get ch with state := .opening, points := some sh.points }), allocation := .clear } : Context) =
      { s.ctx i with channels := some (cs.set ch { (cs.get ch).beginAllocating with state := .opening, points := some sh.points }) } := by
    have whole : qs.set ch { qs.get ch with state := .opening, points := some sh.points } =
        cs.set ch { (cs.get ch).beginAllocating with state := .opening, points := some sh.points } := by
      rw [hqs]
      cases ch <;> rfl
    rw [hx, whole, ← f.clear]
  have done := exec_report_opens a runs f latch alone (hx.trans (by rw [hqs])) share some' fresh rfl
  rw [State.view_lane, f.noted] at done
  rw [State.polled_view s h rs i l _ h _ ht, final, hy, hc, a.reports.head]
  exact done

theorem exec_report_lowers_put {qs : Triple ChannelRecord} (a : s.BoundReports h retries rs l ch z r i cs) (runs : s.Runs l) (f : s.Zeroed l ch r i cs) (apart : e ≠ ch)
    (flowing : (cs.get e).state = .flowing) (hw : (cs.get e).setup = some w)
    (rest : ∀ d, d ≠ ch → d ≠ e → (cs.get d).state ∉ [ChannelState.opening, .flowing, .allocating]) (hqs : qs = cs.set ch (cs.get ch).beginAllocating)
    (target : (({ s.ctx i with channels := some qs } : Context).phaseOne s.productClass s.slowVolume).get e = some sh)
    (less : sh.points.stop < (cs.get e).stopInForce) (on : (s.head w.head).online = true) (free : ∀ q ∈ s.servedBy w.head, (s.lane q.1).state ≠ .locked)
    (fresh : ∀ d ∈ (s.head w.head).commands, ¬(d.lane = l ∧ d.channel = e)) (ht : t = { s with dlu := s.dlu.polled h false rs }) :
    exec (.pollReply h false rs) s = .next ((((t.setCtx i { s.ctx i with
      channels := some qs
      allocation := ⟨.lowering, (Triple.fill false).set ch true, (Triple.fill none).set e (some ⟨sh.points, none⟩), false⟩ }).setHead w.head
        { s.head w.head with commands := (s.head w.head).commands ++
          [⟨w.head, w.headChannel, l, e, some (i, (s.ctx i).transaction), .limit sh.points true⟩] }).setLane l
            { s.lane l with
            channels := (s.lane l).channels.set ch { (s.lane l).channels.get ch with nozzle := .lifted, handed := some (.closed, r.cause) } }).arbitrate.1) := by
  have other : w.head ≠ h := a.reports.alone ((State.setup_bound a.bound a.channels e).trans hw) apart
  have head : s.head w.head = t.head w.head := by
    rw [ht]
    exact (Tab.get_set_ne _ (Ne.symm other) _).symm
  have commands : (s.head w.head).commands = (t.head w.head).commands := congrArg Head.commands head
  have done := exec_report_lowers a runs f apart flowing hw rest (hqs ▸ target) less on free fresh rfl
  rw [State.view_lane, f.noted] at done
  rw [show ({ s.head w.head with commands := (s.head w.head).commands ++
      [⟨w.head, w.headChannel, l, e, some (i, (s.ctx i).transaction), .limit sh.points true⟩] } : Head) = { t.head w.head with
        commands := (s.head w.head).commands ++ [⟨w.head, w.headChannel, l, e, some (i, (s.ctx i).transaction), .limit sh.points true⟩] } by rw [head],
    State.polled_view s h rs i l _ w.head _ ht, hqs]
  exact done

/-! ### METER JUMP -/

/-- What a METER JUMP leaves of its context, its lane and its head (R98, R127). -/
theorem exec_meterJump_reads {ds : List Command} (a : s.BoundReports h retries rs l ch z r i cs) (runs : s.Runs l)
    (jump : 32768 ≤ (r.low16 - (cs.get ch).low16).toNat) (flowing : (cs.get ch).state = .flowing) (delivering : (s.ctx i).state = .delivering)
    (open_ : r.valve ≠ .closed) (others : ∀ e, e ≠ ch → (cs.get e).state = .idle ∧ (cs.get e).setup = none)
    (fresh : ∀ d ∈ (s.head h).commands, ¬(d.lane = l ∧ d.channel = ch)) (ht : t = { s with dlu := s.dlu.polled h false rs })
    (hds : ds = closedList (s.head h).commands ⟨h, z.headChannel, l, ch, some (i, (s.ctx i).transaction), .close (.fault .meterJump) true⟩)
    (hx : x = { s.ctx i with
      state := .stopping, deadline := none, allocation := .clear, flags := { (s.ctx i).flags with fault := true }
      reason := some ((s.ctx i).reason.getD .laneFault)
      channels := some (cs.set ch { cs.get ch with
        state := .closing, low16 := r.low16, endCause := some (.fault .meterJump), closeQueued := none, noFlow := none }) })
    (hy : y = { s.lane l with
      state := .faultStop
      fault := some .meterJump
      channels := ((s.lane l).channels.map fun w => { w with quiet := 0, faultClose := .none, faultSettle := none }).set ch
        { (s.lane l).channels.get ch with
          nozzle := seenOf r.nozzle, handed := some (r.valve, r.cause), quiet := 0, faultClose := .queued, faultSettle := none } }) :
    ∃ v : State, exec (.pollReply h false rs) s = .next v.arbitrate.1 ∧ v.ctx i = x ∧ (∀ j, j ≠ i → v.ctx j = s.ctx j) ∧ v.rd.records = s.rd.records ∧
      v.lane l = y ∧ (∀ m, m ≠ l → v.lane m = s.lane m) ∧ v.dlu = (t.setHead h { t.head h with commands := ds }).dlu ∧
        v.reu.events = (s.reu.occur .laneFault (.lane l) FaultKind.meterJump.code s.stamp).events := by
  have close : faultClose z l ch i (s.ctx i).transaction .meterJump =
      ⟨h, z.headChannel, l, ch, some (i, (s.ctx i).transaction), .close (.fault .meterJump) true⟩ := by
    rw [← a.reports.head]
    rfl
  refine ⟨_, exec_meterJump a runs jump flowing delivering open_ others fresh rfl rfl rfl, (State.view_ctx s).trans ?_, fun j hj => State.view_ctx_ne s hj, rfl,
    (State.view_lane s).trans ?_, fun m hm => State.view_lane_ne s hm, ?_, rfl⟩
  · rw [hx]
    cases ch <;> rfl
  · rw [hy]
    cases ch <;> rfl
  · rw [ht, hds, close]
    rfl

/-- Settles O45. -/
theorem pollReportsAreKeptAndHandedOn : Obligations.PollReportsAreKeptAndHandedOn := by
  intro s h retries rs awaits online clean y kept
  refine ⟨fun served restarted => exec_report_none awaits online clean served restarted, ?_, ?_, ?_, ?_, ?_⟩
  · intro l ch z r p served setup report hp same h1 w note
    have reports : s.Reports h retries rs l ch z r := ⟨awaits, online, clean, served, setup, report⟩
    refine ⟨fun hb => exec_report_unbound reports hp same h1 hb, fun i cs hb hc flowing count mark fits closed hung => ?_⟩
    have bound : s.BoundReports h retries rs l ch z r i cs := ⟨reports, hb, hc⟩
    exact exec_report_closed_put bound h1 flowing hp same count mark fits closed hung rfl
  · intro l ch z r p served setup report hp other hb noted w
    have reports : s.Reports h retries rs l ch z r := ⟨awaits, online, clean, served, setup, report⟩
    refine ⟨fun locked => exec_flow_locked reports hp other hb locked, fun h2 h1 hn fresh => ?_⟩
    exact exec_flow_free_put (t := kept false) reports hp other hb h1 h2 hn fresh rfl rfl rfl
  · intro l ch z r p served setup report hp hb stop adopt w calm noted quiet
    have reports : s.Reports h retries rs l ch z r := ⟨awaits, online, clean, served, setup, report⟩
    exact exec_report_tested reports hp hb stop adopt calm rfl
  · intro l ch z r i cs served setup report lifted closed zeroed count hb hc clear h1 h2 zeroing accepted polls note joined allocation begun command
    have bound : s.BoundReports h retries rs l ch z r i cs := ⟨⟨awaits, online, clean, served, setup, report⟩, hb, hc⟩
    have f : s.Zeroed l ch r i cs := ⟨lifted, closed, zeroed, count, clear, zeroing, accepted, polls⟩
    refine ⟨fun sh latch alone share some' fresh => ?_, fun e x sh apart flowing hx rest target less on free fresh => ?_⟩
    · exact exec_report_opens_put (t := kept false) (x := begun) (qs := joined) (y := y) (c := command z ch (.release sh.points)) bound ⟨h1, h2⟩ f latch alone rfl rfl share some' fresh rfl rfl rfl
    · exact exec_report_lowers_put (t := kept false) (qs := joined) (w := x) bound ⟨h1, h2⟩ f apart flowing hx rest rfl target less on free fresh rfl
  · intro l ch z r i cs restarted served setup report hb hc h1 h2 c q seen lift hangUp unchanged takes put listed command refused delta n answers
    have bound : s.BoundReports h retries rs l ch z r i cs := ⟨⟨awaits, online, clean, served, setup, report⟩, hb, hc⟩
    have runs : s.Runs l := ⟨h1, h2⟩
    have counted : ∀ q', put q' = s.counted h rs i l cs ch restarted q' := s.counted_put h rs i l cs ch restarted
    refine ⟨fun same rests starts => ?_, fun same lifts takes idle => ⟨fun barred => ?_, fun permitted unused fresh => ?_⟩,
      fun zeroing => ⟨fun hung => ?_, fun held waits => ?_, fun held accepted incomplete => ⟨fun below => ?_, fun limit => ?_⟩⟩,
      fun same hung allocating count fits => ?_, fun hung opening count fits sound found all => ?_, fun state permitted same hang small fits => ?_,
      fun first jump flowing delivering open_ others fresh => ?_⟩
    · exact exec_report_rests bound runs same rests (starts.imp (fun none both => none ⟨both.1, (ContextState.takesLifts_iff _).mp both.2⟩) id)
    · exact exec_report_notAllowed bound runs same lifts ((ContextState.takesLifts_iff _).mpr takes) idle barred
        (congrArg (fun v : State => (v.tell i (.productNotAllowed l)).contextChanged i) (counted refused))
    · exact exec_report_lifts bound runs same lifts ((ContextState.takesLifts_iff _).mpr takes) idle permitted unused fresh
        (State.setHead_view s i l ((s.ctx i).lifted cs ch) (s.dlu.polled h restarted rs) h _)
    · exact exec_report_zeroingHung bound runs zeroing hung (congrArg (fun v : State => v.contextChanged i) (counted q.toIdle))
    · exact exec_report_zeroing bound runs zeroing held waits
    · exact exec_report_counted bound runs zeroing held accepted incomplete below (counted _)
    · exact exec_report_zeroFailed bound runs zeroing held accepted incomplete limit (counted _) rfl
    · exact exec_report_allocatingHung bound runs same hung allocating count fits (State.setCtx_view s i l _ _) rfl
    · exact exec_report_openingHung bound runs hung opening count fits (sound h) found all (State.setHead_view s i l _ (s.dlu.polled h restarted rs) h _) rfl
    · intro read flowed settled
      refine exec_report_counts bound runs state permitted same hang small rfl fits ((counted _).trans (congrArg (s.counted h rs i l cs ch restarted) ?_))
      split
      · rename_i flows closed
        exact (ChannelRecord.moved_flowing_closed (q := read) (noFlow := s.noFlowTime) (settle := s.settleTime) flows closed).symm
      · rename_i flows apart
        exact (ChannelRecord.moved_flowing (q := read) (noFlow := s.noFlowTime) (settle := s.settleTime) flows apart).symm
      · rename_i closes closed
        exact (ChannelRecord.moved_closing_closed (q := read) (noFlow := s.noFlowTime) (settle := s.settleTime) closes closed).symm
      · rename_i still _ apart
        exact (ChannelRecord.moved_other (q := read) (noFlow := s.noFlowTime) (settle := s.settleTime) still apart).symm
    · subst first
      exact exec_meterJump_reads (t := kept false) bound runs jump flowing delivering open_ others fresh rfl rfl rfl rfl

end Sys2Proof.Machine
end

section
/-! ALL STOP and ESTOP (O26): the latch set, the release commands withdrawn. -/

namespace Sys2Proof.Machine

open Sys2Proof

variable {s t u v : State} {h : HeadId} {i j : ContextId} {l m : LaneId} {ch e : Channel} {c : Command} {ds : List Command} {x : StopSource}

/-! ### The release commands of all heads -/

/-- A head whose release commands have been withdrawn (R94). -/
def Head.withdrawn (y : Head) : Head := { y with commands := y.commands.filter fun c => !c.releasing }

/-- The dispenser link with the release commands of some heads withdrawn (R94). -/
def DispenserUnit.withdrawn (d : DispenserUnit) (hs : List HeadId) : DispenserUnit :=
  { d with heads := .build 24 fun h => if h ∈ hs then (d.heads.get h).withdrawn else d.heads.get h }

/-- The release commands in the lists of some heads, in list order. -/
def State.releases (s : State) (hs : List HeadId) : List Command := hs.flatMap fun h => (s.head h).commands.filter Command.releasing

theorem DispenserUnit.withdrawn_head (d : DispenserUnit) (hs : List HeadId) (h : HeadId) :
    (d.withdrawn hs).heads.get h = if h ∈ hs then (d.heads.get h).withdrawn else d.heads.get h := Tab.get_build _ _

theorem State.gather_withdrawFrom {hs : List HeadId} (distinct : hs.Nodup) (s : State) : s.gather State.withdrawFrom hs =
    ({ s with dlu := s.dlu.withdrawn hs }, (s.releases hs).map fun c => Work.outcome c .withdrawn) := by
  induction hs generalizing s with
  | nil =>
    have same : s.dlu.withdrawn [] = s.dlu := by
      have heads : (Tab.build 24 fun h => if h ∈ ([] : List HeadId) then (s.dlu.heads.get h).withdrawn else s.dlu.heads.get h) = s.dlu.heads := by
        ext h
        rw [Tab.get_build, if_neg List.not_mem_nil]
      exact congrArg (fun y => { s.dlu with heads := y }) heads
    rw [same]
    rfl
  | cons h hs ih =>
    obtain ⟨fresh, distinct⟩ := List.nodup_cons.mp distinct
    have first : (s.withdrawFrom h).1.dlu = { s.dlu with heads := s.dlu.heads.set h (s.head h).withdrawn } := rfl
    have lists : (s.withdrawFrom h).1.releases hs = s.releases hs := List.flatMap_congr fun k hk => by
      have other : (s.withdrawFrom h).1.head k = s.head k := Tab.get_set_ne _ (fun same : h = k => fresh (by rw [same]; exact hk)) _
      rw [other]
    have heads : ((s.withdrawFrom h).1.dlu.withdrawn hs) = s.dlu.withdrawn (h :: hs) := by
      have each : (Tab.build 24 fun k => if k ∈ hs then ((s.dlu.heads.set h (s.head h).withdrawn).get k).withdrawn
          else (s.dlu.heads.set h (s.head h).withdrawn).get k) =
          .build 24 fun k => if k ∈ h :: hs then (s.dlu.heads.get k).withdrawn else s.dlu.heads.get k := by
        ext k
        rw [Tab.get_build, Tab.get_build]
        by_cases here : k = h
        · rw [here, Tab.get_set_self, if_neg fresh, if_pos (List.mem_cons_self ..)]
          rfl
        · rw [Tab.get_set_ne _ (Ne.symm here)]
          exact if_congr (by rw [List.mem_cons, or_iff_right here]) rfl rfl
      rw [first]
      exact congrArg (fun y => { s.dlu with heads := y }) each
    have rest : ({ (s.withdrawFrom h).1 with dlu := (s.withdrawFrom h).1.dlu.withdrawn hs } : State) = { s with dlu := s.dlu.withdrawn (h :: hs) } := by
      rw [heads]
      rfl
    have work : ((s.releases (h :: hs)).map fun c => Work.outcome c .withdrawn) =
        (s.withdrawFrom h).2 ++ (s.releases hs).map fun c => Work.outcome c .withdrawn := by
      rw [State.releases, List.flatMap_cons, List.map_append]
      rfl
    unfold State.gather
    dsimp only
    rw [ih distinct, lists, rest, work]

/-! ### The latch set -/

/-- A state as a source that sets the latch leaves it, before any work is taken (R153). -/
def State.latchedBy (s : State) (x : StopSource) : State :=
  { s with
    rd := s.rd.addSource x
    scc := { s.scc with halt := true }
    dlu := { s.dlu.withdrawn (List.finRange 24) with haltPending := true, cutByStop := s.dlu.cutByStop || s.lineCommand.any Command.opening } }

theorem State.setLatch_clear (latch : s.rd.latch = false) (x : StopSource) : s.setLatch x =
    (s.latchedBy x, ((s.releases (List.finRange 24)).map fun c => Work.outcome c .withdrawn) ++ (List.finRange 16).map Work.allStop ++
      [.event .allStop .nothing x.code, .arbitrate]) := by
  have cut : ({ s with rd := s.rd.addSource x } : State).assertHalt.cutOpening = { s with
      rd := s.rd.addSource x
      scc := { s.scc with halt := true }
      dlu := { s.dlu with haltPending := true, cutByStop := s.dlu.cutByStop || s.lineCommand.any Command.opening } } := by
    unfold State.cutOpening
    have line : ({ s with rd := s.rd.addSource x } : State).assertHalt.lineCommand = s.lineCommand := rfl
    rw [line]
    cases s.lineCommand.any Command.opening
    · rw [if_neg Bool.false_ne_true, Bool.or_false]
      rfl
    · rw [if_pos rfl, Bool.or_true]
      rfl
  unfold State.setLatch
  dsimp only
  rw [latch, if_neg Bool.false_ne_true, cut, State.gather_withdrawFrom (List.nodup_finRange 24)]
  rfl

theorem State.setLatch_set (latch : s.rd.latch = true) (x : StopSource) : s.setLatch x =
    (({ s with rd := s.rd.addSource x } : State).queueEvent .allStop .nothing x.code, []) := by
  unfold State.setLatch
  dsimp only
  rw [latch, if_pos rfl]

end Sys2Proof.Machine
end

section
/-! ALL STOP and ESTOP (O26): what the closings of contexts leave alone. -/

namespace Sys2Proof.Machine

open Sys2Proof

variable {s t u v : State} {h : HeadId} {i j : ContextId} {l m : LaneId} {ch e : Channel} {c : Command} {ds : List Command} {p : ClosePath} {f : Context → Context}

/-- What the stop of every transaction leaves alone, but for the contexts and the lists (R153, R155). -/
structure State.Spares (s u : State) : Prop where
  outside : u.outside = s.outside
  line : u.dlu.line = s.dlu.line
  pending : u.dlu.haltPending = s.dlu.haltPending
  cutByStop : u.dlu.cutByStop = s.dlu.cutByStop
  locks : u.rd.locks = s.rd.locks
  cut : u.scc.cut = s.scc.cut
  records : ∀ r ∈ s.rd.records, r ∈ u.rd.records
  lanes : ∀ l, (s.lane l).state ≠ .locked → (u.lane l).state ≠ .locked

theorem State.Spares.refl (s : State) : s.Spares s := ⟨rfl, rfl, rfl, rfl, rfl, rfl, fun _ h => h, fun _ h => h⟩

theorem State.Spares.trans (h1 : s.Spares t) (h2 : t.Spares u) : s.Spares u :=
  ⟨h2.outside.trans h1.outside, h2.line.trans h1.line, h2.pending.trans h1.pending, h2.cutByStop.trans h1.cutByStop, h2.locks.trans h1.locks,
    h2.cut.trans h1.cut, fun r hr => h2.records r (h1.records r hr), fun l hl => h2.lanes l (h1.lanes l hl)⟩

/-- Where no lane waits to adopt prices, no event is queued (R148, R149). -/
def State.Silent (s u : State) : Prop := (∀ l, s.lau.adoption.get l = false) → u.lau = s.lau ∧ u.reu.events = s.reu.events

theorem State.Silent.refl (s : State) : s.Silent s := fun _ => ⟨rfl, rfl⟩

theorem State.Silent.trans (h1 : s.Silent t) (h2 : t.Silent u) : s.Silent u := fun none => by
  obtain ⟨lau, events⟩ := h1 none
  obtain ⟨lau', events'⟩ := h2 (by rw [lau]; exact none)
  exact ⟨lau'.trans lau, events'.trans events⟩

theorem State.spares_modCtx (s : State) (i : ContextId) (f : Context → Context) : s.Spares (s.modCtx i f) :=
  ⟨s.outside_modCtx i f, rfl, rfl, rfl, rfl, rfl, fun _ h => h, fun _ h => h⟩

/-! ### Closings -/

theorem State.testFaultStop_unlocked (unlisted : s.lau.adoption.get l = false) (h : (s.lane l).state ≠ .locked) : ((s.testFaultStop l).lane l).state ≠ .locked := by
  unfold State.testFaultStop
  split
  · have kept : (s.modLane l fun x => { x.clearFault with state := s.freeLaneState l }).adoptIfListed l =
        s.modLane l fun x => { x.clearFault with state := s.freeLaneState l } := State.adoptIfListed_unlisted unlisted
    rw [kept]
    show ((s.setLane l { (s.lane l).clearFault with state := s.freeLaneState l }).lane l).state ≠ .locked
    rw [State.setLane_lane_self]
    show s.freeLaneState l ≠ .locked
    rw [State.freeLaneState_eq]
    split <;> decide
  · exact h

theorem State.closeContext_lane_other (s : State) {i : ContextId} (h : (s.ctx i).lane ≠ some l) (p : ClosePath) (lock : Bool) :
    (s.closeContext i p lock).lane l = s.lane l := by
  obtain ⟨lane, -⟩ := s.closeContext_unbinds i p lock (x := (s.ctx i).lane) rfl
  obtain ⟨hlane, -⟩ := s.closed_rest i p
  rw [lane, State.unbind_lane_ne _ h, hlane]

/-- A closing that gives no lock locks no lane (R24, R106, R128). -/
theorem State.closeContext_unlocked (s : State) (i : ContextId) (p : ClosePath) (h : (s.lane l).state ≠ .locked) :
    ((s.closeContext i p false).lane l).state ≠ .locked := by
  obtain ⟨hlane, -⟩ := s.closed_rest i p
  by_cases here : (s.ctx i).lane = some l
  · obtain ⟨lane, -⟩ := s.closeContext_unbinds i p false here
    obtain ⟨-, -, -, unlisted, -⟩ := (s.closed i p).releasedLane_rest l
    rw [lane, State.unbind_released]
    refine State.testFaultStop_unlocked unlisted ?_
    rw [State.releasedLane_lane, hlane]
    dsimp only
    split
    · rw [State.freeLaneState_eq]
      split <;> decide
    · exact h
  · rw [s.closeContext_lane_other here]
    exact h

theorem State.closeContext_spares (s : State) (i : ContextId) (p : ClosePath) : s.Spares (s.closeContext i p false) := by
  have link := s.closeContext_dlu i p false
  have kept : (s.closeContext i p false).rd.locks = s.rd.locks ∧ (s.closeContext i p false).scc.cut = s.scc.cut := by
    cases hl : (s.ctx i).lane with
    | none =>
      obtain ⟨-, -, locks, scc, -⟩ := s.closeContext_unbinds i p false hl
      obtain ⟨-, -, -, scc', locks', -⟩ := s.closed_rest i p
      exact ⟨locks.trans locks', congrArg StopUnit.cut (scc.trans scc')⟩
    | some l =>
      obtain ⟨locks, cut, -⟩ := s.closeContext_released i p hl
      exact ⟨locks, cut⟩
  exact ⟨s.outside_closeContext i p false, congrArg DispenserUnit.line link, congrArg DispenserUnit.haltPending link,
    congrArg DispenserUnit.cutByStop link, kept.1, kept.2, fun r hr => by rw [State.closeContext_records]; exact List.mem_append_left _ hr,
    fun l hl => s.closeContext_unlocked i p hl⟩

/-- A closing with no sale queues no event where no lane waits to adopt prices (R24, R146). -/
theorem State.closeContext_silent (s : State) (i : ContextId) {k : RecordKind} (hk : k ≠ .sale) : s.Silent (s.closeContext i (.kind k) false) := fun none => by
  have mark : s.afterMark i (.kind k) = s.reu := by
    have unsold : (s.ctx i).overApproved ((s.ctx i).recordKind (.kind k)) = false := by
      show decide ((s.ctx i).approved < saleTotal ((s.ctx i).recordLines k)) = false
      rw [Context.recordLines, if_neg hk]
      exact decide_eq_false (Nat.not_lt_zero _)
    unfold State.afterMark
    rw [unsold]
    rfl
  cases hl : (s.ctx i).lane with
  | none =>
    obtain ⟨-, lau, -, -, reu⟩ := s.closeContext_unbinds i (.kind k) false hl
    obtain ⟨-, lau', -, -, -, -, b, reu'⟩ := s.closed_rest i (.kind k)
    refine ⟨lau.trans lau', ?_⟩
    rw [reu]
    show (s.closed i (.kind k)).reu.events = _
    rw [reu', mark]
  | some l =>
    obtain ⟨-, -, events⟩ := s.closeContext_released i (.kind k) hl
    rw [events, s.closeContext_lau i _ false hl, none l, mark]
    exact ⟨rfl, rfl⟩

/-! ### The walk of the contexts -/

/-- A lane and its channels' setups stand as they stood. -/
def State.Steady (s u : State) (m : LaneId) : Prop := u.lane m = s.lane m ∧ u.setup m = s.setup m

/-- The clearing of a context leaves the channels of the lanes that it is not bound to. -/
theorem State.steady_cleared (hl : (s.ctx i).lane ≠ some m) (cleared : u.ctx i = .cleared) (others : ∀ j, j ≠ i → u.ctx j = s.ctx j)
    (lane : u.lane m = s.lane m) : s.Steady u m := by
  have bound : u.bound m = s.bound m := by
    unfold State.bound
    congr 1
    funext j
    by_cases same : j = i
    · rw [same, cleared, decide_eq_false hl, Bool.and_false]
      rfl
    · rw [others j same]
  refine ⟨lane, funext fun ch => ?_⟩
  unfold State.setup
  rw [bound, lane]
  cases holder : s.bound m with
  | none => rfl
  | some j =>
    have other : j ≠ i := fun same => hl (same ▸ (State.bound_lane holder).2)
    rw [Option.bind_some, Option.bind_some, others j other]

theorem State.steady_flagged (s : State) (i : ContextId) (m : LaneId) : s.Steady (s.modCtx i Context.flagAllStop) m := by
  have seen : s.modCtx i Context.flagAllStop = s.view i m (s.ctx i).flagAllStop (s.lane m) s.dlu s.reu :=
    (congrArg (fun t : State => t.modCtx i Context.flagAllStop) (s.view_self i m)).symm.trans (State.view_modCtx s _)
  have own := State.Sees.refl s i m
  have sees : s.Sees i m (s.ctx i).flagAllStop (s.lane m) := ⟨own.inUse, own.lane, own.transaction, own.setups, own.offered, own.config⟩
  exact ⟨rfl, by rw [seen, State.view_setup sees]⟩

/-- A context whose transaction is not in delivery: the walk of the latch closes it, or flags it, at once (R155). -/
def Context.calm (c : Context) : Prop := c.state = .free ∨ c.beforeDelivery ∨ c.state = .stopping ∨ c.state = .recovering

/-- What the walk makes of a context that is calm (R155). -/
def Context.Calmed (c d : Context) : Prop :=
  (c.beforeDelivery → d = .cleared) ∧
    (c.state = .stopping ∨ c.state = .recovering → d = { c with flags := { c.flags with allStop := true } }) ∧ (c.state = .free → d = c)

/-- A CANCEL record of a transaction that the latch has closed stands in the record queue (R155, R166). -/
def State.Cancelled (s : State) (c : Context) : Prop :=
  ∃ r ∈ s.rd.records, r.transaction = c.transaction ∧ r.kind = .cancel ∧ r.reason = some (c.reason.getD .allStop) ∧ r.flags.allStop = true

theorem State.Spares.cancelled {c : Context} (h : s.Spares u) : s.Cancelled c → u.Cancelled c := fun ⟨r, hr, fields⟩ => ⟨r, h.records r hr, fields⟩

/-- A state after one context has been stopped at once, or flagged, and what that comes to (R155). -/
theorem handle_allStop_calm (calm : (s.ctx i).calm) : ∃ u, handle (.allStop i) s = (u, []) ∧ s.Spares u ∧ s.Silent u ∧ u.dlu = s.dlu ∧
    (s.ctx i).Calmed (u.ctx i) ∧ ((s.ctx i).beforeDelivery → u.Cancelled (s.ctx i)) ∧ (∀ j, j ≠ i → u.ctx j = s.ctx j) ∧
      ∀ m, ((s.ctx i).beforeDelivery → (s.ctx i).lane ≠ some m) → s.Steady u m := by
  show ∃ u, s.allStopContext i = _ ∧ _
  have flagged : (s.modCtx i Context.flagAllStop).ctx i = (s.ctx i).flagAllStop := by rw [State.modCtx_ctx, if_pos rfl]
  have others : ∀ j, j ≠ i → (s.modCtx i Context.flagAllStop).ctx j = s.ctx j := fun j hj => by rw [State.modCtx_ctx, if_neg (Ne.symm hj)]
  by_cases free : (s.ctx i).state = .free
  · have unused : ¬(s.ctx i).beforeDelivery := fun before => by rcases before with b | b | b | ⟨b, -⟩ <;> rw [free] at b <;> cases b
    refine ⟨s, if_neg (by rw [Context.inUse, free]; decide), .refl s, .refl s, rfl, ⟨fun before => absurd before unused, fun going => ?_, fun _ => rfl⟩, fun before => absurd before unused,
      fun _ _ => rfl, fun _ _ => ⟨rfl, rfl⟩⟩
    rw [free] at going
    rcases going with h | h <;> cases h
  · have used : (s.ctx i).inUse = true := decide_eq_true free
    by_cases before : (s.ctx i).beforeDelivery
    · have cancels : (s.ctx i).flagAllStop.cancellable = true := (Context.cancellable_iff _).mpr before
      refine ⟨(s.modCtx i Context.flagAllStop).cancel i .allStop, ?_, ?_, ?_, ?_, ⟨fun _ => ?_, fun going => ?_, fun h => absurd h free⟩, fun _ => ?_,
        fun j hj => ?_, fun m apart => ?_⟩
      · unfold State.allStopContext
        rw [if_pos used]
        dsimp only
        rw [flagged, if_pos cancels]
      · exact ((s.spares_modCtx i _).trans (State.spares_modCtx _ i _)).trans (State.closeContext_spares _ i _)
      · exact State.closeContext_silent ((s.modCtx i Context.flagAllStop).modCtx i fun c => c.withReason .allStop) i (k := .cancel) (by decide)
      · rw [State.cancel_dlu]
        rfl
      · rw [State.cancel_ctx, if_pos rfl]
      · rcases going with h | h <;> rcases before with b | b | b | ⟨b, -⟩ <;> rw [h] at b <;> cases b
      · have context : ((s.modCtx i Context.flagAllStop).modCtx i fun c => c.withReason .allStop).ctx i = (s.ctx i).flagAllStop.withReason .allStop := by
          rw [State.modCtx_ctx, if_pos rfl, flagged]
        refine ⟨((s.modCtx i Context.flagAllStop).modCtx i fun c => c.withReason .allStop).closingRecord i (.kind .cancel), ?_, ?_⟩
        · rw [State.cancel, State.closeContext_records]
          exact List.mem_append_right _ (List.mem_singleton.mpr rfl)
        · rw [State.closingRecord_eq, context]
          exact ⟨rfl, rfl, rfl, rfl⟩
      · rw [State.cancel_ctx, if_neg (Ne.symm hj), others j hj]
      · refine State.steady_cleared (apart before) (by rw [State.cancel_ctx, if_pos rfl]) (fun j hj => by rw [State.cancel_ctx, if_neg (Ne.symm hj), others j hj]) ?_
        have context : (((s.modCtx i Context.flagAllStop).modCtx i fun c => c.withReason .allStop).ctx i).lane = (s.ctx i).lane := by
          rw [State.modCtx_ctx, if_pos rfl, flagged]
          rfl
        exact State.closeContext_lane_other _ (by rw [context]; exact apart before) (.kind .cancel) false
    · have going : (s.ctx i).state = .stopping ∨ (s.ctx i).state = .recovering := (calm.resolve_left free).resolve_left before
      have still : (s.ctx i).flagAllStop.cancellable = false ∧ (s.ctx i).flagAllStop.stoppable = false := by
        have state : (s.ctx i).flagAllStop.state = (s.ctx i).state := rfl
        unfold Context.cancellable Context.stoppable
        rw [state]
        rcases going with h | h <;> rw [h] <;> exact ⟨rfl, rfl⟩
      refine ⟨s.modCtx i Context.flagAllStop, ?_, s.spares_modCtx i _, fun _ => ⟨rfl, rfl⟩, rfl, ⟨fun h => absurd h before, fun _ => flagged, fun h => absurd h free⟩,
        fun h => absurd h before, others, fun m _ => s.steady_flagged i m⟩
      unfold State.allStopContext
      rw [if_pos used]
      dsimp only
      rw [flagged, still.1, still.2]
      rfl

/-- The walk of calm contexts (R155). -/
theorem drain_calms {n : Nat} {ws : List Work} {js : List ContextId} (distinct : js.Nodup) (calm : ∀ j ∈ js, (s.ctx j).calm) :
    ∃ u, drain (n + js.length) (js.map Work.allStop ++ ws) s = drain n ws u ∧ s.Spares u ∧ s.Silent u ∧ u.dlu = s.dlu ∧
      (∀ j ∈ js, (s.ctx j).Calmed (u.ctx j)) ∧ (∀ j ∈ js, (s.ctx j).beforeDelivery → u.Cancelled (s.ctx j)) ∧ (∀ j, j ∉ js → u.ctx j = s.ctx j) ∧
      ∀ m, (∀ j ∈ js, (s.ctx j).beforeDelivery → (s.ctx j).lane ≠ some m) → s.Steady u m := by
  induction js generalizing s with
  | nil => exact ⟨s, rfl, .refl s, .refl s, rfl, List.forall_mem_nil _, List.forall_mem_nil _, fun _ _ => rfl, fun _ _ => ⟨rfl, rfl⟩⟩
  | cons i js ih =>
    obtain ⟨fresh, distinct⟩ := List.nodup_cons.mp distinct
    obtain ⟨t, step, spares, silent, link, calmed, cancelled, others, steady⟩ := handle_allStop_calm (calm i (List.mem_cons_self ..))
    have apart : ∀ j ∈ js, t.ctx j = s.ctx j := fun j hj => others j fun same => fresh (same ▸ hj)
    obtain ⟨u, steps, spares', silent', link', calmed', cancelled', others', steady'⟩ := ih (s := t) distinct fun j hj => by
      rw [apart j hj]
      exact calm j (List.mem_cons_of_mem _ hj)
    refine ⟨u, ?_, spares.trans spares', silent.trans silent', link'.trans link, fun j hj => ?_, fun j hj before => ?_, fun j hj => ?_,
      fun m outside => ?_⟩
    · rw [List.length_cons, List.map_cons, List.cons_append, ← Nat.add_assoc]
      exact (drain_quiet step).trans steps
    · rcases List.mem_cons.mp hj with rfl | later
      · rw [others' j fresh]
        exact calmed
      · rw [← apart j later]
        exact calmed' j later
    · rcases List.mem_cons.mp hj with rfl | later
      · exact spares'.cancelled (cancelled before)
      · rw [← apart j later] at before ⊢
        exact cancelled' j later before
    · obtain ⟨here, later⟩ := not_or.mp (mt List.mem_cons.mpr hj)
      rw [others' j later, others j here]
    · obtain ⟨lane, setup⟩ := steady m (outside i (List.mem_cons_self ..))
      obtain ⟨lane', setup'⟩ := steady' m fun j hj => by
        rw [apart j hj]
        exact outside j (List.mem_cons_of_mem _ hj)
      exact ⟨lane'.trans lane, setup'.trans setup⟩

end Sys2Proof.Machine
end

section
/-! ALL STOP and ESTOP (O26): from the command to its work, and the end of that work. -/

namespace Sys2Proof.Machine

open Sys2Proof

variable {s t u v w : State} {h : HeadId} {i j : ContextId} {l m : LaneId} {ch e : Channel} {c : Command} {ds : List Command} {x : StopSource} {code : Nat}

/-! ### The end of the work -/

theorem State.choose_halt (h : s.dlu.haltPending = true) : s.choose = ({ s with dlu := { s.dlu with line := .haltAll none } }, none) :=
  if_pos h

/-- The arbiter's choice where HALT ALL is pending (R84, R95). -/
theorem State.arbitrate_halts (running : s.power.phase = .running) (pending : s.dlu.haltPending = true) :
    s.arbitrate.1 = { s with dlu := { s.dlu with line := if s.dlu.line = .quiet then .haltAll none else s.dlu.line } } := by
  by_cases quiet : s.dlu.line = .quiet
  · have works : (s.working && decide (s.dlu.line = .quiet)) = true := by
      rw [State.working_of_running running]
      exact decide_eq_true quiet
    unfold State.arbitrate
    rw [if_pos works, State.choose_halt pending, if_pos quiet]
  · rw [State.arbitrate_idle (.inl quiet), if_neg quiet]

theorem EventUnit.occur_events {a b : EventUnit} (events : a.events = b.events) (levels : a.levels = b.levels) (k : EventKind) (sub : Subject) (n : Nat)
    (now : Stamp) : (a.occur k sub n now).events = (b.occur k sub n now).events := by
  have dropped : a.drop.events = b.drop.events := events
  unfold EventUnit.occur
  dsimp only
  rw [events, levels]
  repeat' split
  · exact events
  · rfl
  · rfl
  · rfl
  · exact dropped

/-- What the setting of the latch makes of the part, whatever it finds (R153, R156). -/
def State.Raised (s t : State) : Prop :=
  t.rd.latch = true ∧ t.scc.halt = true ∧ t.dlu.haltPending = true ∧ t.rd.locks = s.rd.locks ∧ t.scc.cut = s.scc.cut ∧
    (s.dlu.line = .quiet → t.dlu.line = .haltAll none) ∧ (s.dlu.line ≠ .quiet → t.dlu.line = s.dlu.line) ∧
    t.dlu.cutByStop = (s.dlu.cutByStop || s.lineCommand.any Command.opening)

/-- A part in which the latch has been set, before any work is taken. -/
structure State.Latched (s v : State) : Prop where
  contexts : v.rd.contexts = s.rd.contexts
  lanes : v.dcu = s.dcu
  lau : v.lau = s.lau
  reu : v.reu = s.reu
  records : v.rd.records = s.rd.records
  locks : v.rd.locks = s.rd.locks
  cut : v.scc.cut = s.scc.cut
  stamp : v.stamp = s.stamp
  link : v.dlu = { s.dlu.withdrawn (List.finRange 24) with haltPending := true, cutByStop := s.dlu.cutByStop || s.lineCommand.any Command.opening }
  latch : v.rd.latch = true
  halt : v.scc.halt = true
  running : v.power.phase = .running

/-- The work of the setting of the latch (R153). -/
def State.latchWorks (s : State) (code : Nat) : List Work :=
  ((s.releases (List.finRange 24)).map fun c => Work.outcome c .withdrawn) ++ (List.finRange 16).map Work.allStop ++
    [.event .allStop .nothing code, .arbitrate]

/-- The state in which the work ends: the latch's event queued, HALT ALL on a quiet line. -/
def State.rung (w : State) (code : Nat) : State := (w.queueEvent .allStop .nothing code).arbitrate.1

theorem State.Latched.raised (f : s.Latched v) (spares : v.Spares w) : s.Raised (w.rung code) ∧ (w.rung code).outside = v.outside ∧
    (∀ i, (w.rung code).ctx i = w.ctx i) ∧ (∀ h, (w.rung code).head h = w.head h) ∧ (w.rung code).rd.records = w.rd.records ∧
      ((∀ l, s.lau.adoption.get l = false) → v.Silent w → (w.rung code).reu.events = (s.reu.occur .allStop .nothing code s.stamp).events) := by
  have latch : w.rd.latch = true := (congrArg Outside.latch spares.outside).trans f.latch
  have halt : w.scc.halt = true := (congrArg Outside.halt spares.outside).trans f.halt
  have running : w.power.phase = .running := (congrArg (fun o : Outside => o.power.phase) spares.outside).trans f.running
  have pending : w.dlu.haltPending = true := spares.pending.trans (by rw [f.link])
  have line : w.dlu.line = s.dlu.line := spares.line.trans (by rw [f.link]; rfl)
  have cutByStop : w.dlu.cutByStop = (s.dlu.cutByStop || s.lineCommand.any Command.opening) := spares.cutByStop.trans (by rw [f.link])
  have ends := State.arbitrate_halts (s := w.queueEvent .allStop .nothing code) running pending
  rw [State.rung, ends]
  refine ⟨⟨latch, halt, pending, spares.locks.trans f.locks, spares.cut.trans f.cut, fun quiet => ?_, fun busy => ?_, cutByStop⟩,
    (w.outside_queueEvent .allStop .nothing code).trans spares.outside, fun _ => rfl, fun _ => rfl, rfl, fun none silent => ?_⟩
  · exact if_pos (line.trans quiet)
  · rw [← line] at busy
    exact (if_neg busy).trans line
  · obtain ⟨-, events⟩ := silent (by rw [f.lau]; exact none)
    have stamp : w.stamp = s.stamp := by
      rw [← f.stamp]
      exact congrArg₂ Stamp.mk (congrArg Outside.clock spares.outside) (congrArg Outside.clockValid spares.outside)
    have levels : w.reu.levels = s.reu.levels := (congrArg Outside.levels spares.outside).trans (congrArg EventUnit.levels f.reu)
    have same : w.reu.events = s.reu.events := events.trans (congrArg EventUnit.events f.reu)
    show (w.reu.occur .allStop .nothing code w.stamp).events = _
    rw [stamp]
    exact EventUnit.occur_events same levels _ _ _ _

/-! ### The commands that set the latch -/

/-- What a source that sets the latch does to the part, and what it comes to for the source (R152, R159). -/
def State.Raises (s : State) (done : State → Nat → Prop) : Prop :=
  (∀ tag : Byte, s.takes → s.til.load ≠ .loading →
    ∃ t : State, exec (.allStop tag 0) s = .next t ∧ s.Raised t ∧ done t 1 ∧ t.rd.sourceHost = true ∧
      t.rd.sourceEstop = s.rd.sourceEstop ∧ t.hlu.answering = some ⟨0x96, tag, ⟨.done, .none, .nothing⟩⟩) ∧
  (s.scc.estopHeld = false →
    ∃ t : State, exec .estopPress s = .next t ∧ s.Raised t ∧ done t 2 ∧ t.rd.sourceEstop = true ∧
      t.rd.sourceHost = s.rd.sourceHost ∧ t.scc.estopHeld = true ∧ t.power.estopLow = true)

/-- What has to be shown of the work that follows the latch. -/
theorem State.raises {done : State → Nat → Prop} (running : s.power.phase = .running) (latch : s.rd.latch = false)
    (ends : ∀ v code, s.Latched v → ∃ t, finish (s.latchWorks code) v = .next t ∧ s.Raised t ∧ t.outside = v.outside ∧ done t code) : s.Raises done := by
  refine ⟨fun tag takes loaded => ?_, fun released => ?_⟩
  · have latched : s.Latched ((s.heard.latchedBy .host).replied 0x96 tag ⟨.done, .none, .nothing⟩) :=
      ⟨rfl, rfl, rfl, rfl, rfl, rfl, rfl, rfl, rfl, rfl, rfl, running⟩
    obtain ⟨t, runs, raised, outside, result⟩ := ends _ 1 latched
    have serves : s.heard.serveRequest .allStop = ⟨s.heard.latchedBy .host, s.latchWorks 1, .done .nothing⟩ := by
      show s.heard.serveAllStop = _
      rw [State.serveAllStop, State.loading_eq_false (s := s.heard) loaded, if_neg Bool.false_ne_true, State.setLatch_clear (s := s.heard) latch]
      rfl
    refine ⟨t, Eq.trans ?_ runs, raised, result, ?_, ?_, congrArg (fun o : Outside => o.hlu.answering) outside⟩
    · refine (State.arrive_good (f := ⟨tag, 0, .allStop⟩) takes rfl).trans ?_
      show finish (s.heard.serveRequest .allStop).works ((s.heard.serveRequest .allStop).state.replied 0x96 tag (s.heard.serveRequest .allStop).reply) = _
      rw [serves]
      rfl
    · exact (congrArg Outside.sourceHost outside).trans (Bool.or_true _)
    · exact (congrArg Outside.sourceEstop outside).trans (Bool.or_false _)
  · have latched : s.Latched ((({ s.setEstopPin true with scc := { s.scc with estopHeld := true } } : State)).latchedBy .estop) :=
      ⟨rfl, rfl, rfl, rfl, rfl, rfl, rfl, rfl, rfl, rfl, rfl, running⟩
    obtain ⟨t, runs, raised, outside, result⟩ := ends _ 2 latched
    refine ⟨t, Eq.trans ?_ runs, raised, result, ?_, ?_, congrArg Outside.estopHeld outside, congrArg (fun o : Outside => o.power.estopLow) outside⟩
    · have takes : ((s.setEstopPin true).working && !(s.setEstopPin true).scc.estopHeld) = true := by
        have working : (s.setEstopPin true).working = true := State.working_of_running running
        have open_ : (s.setEstopPin true).scc.estopHeld = false := released
        rw [working, open_]
        rfl
      show execEstopPress s = _
      unfold execEstopPress
      dsimp only
      rw [if_pos takes]
      have sets := State.setLatch_clear (s := { s.setEstopPin true with scc := { s.scc with estopHeld := true } }) latch .estop
      exact congrArg (fun r : State × List Work => finish r.2 r.1) sets
    · exact (congrArg Outside.sourceEstop outside).trans (Bool.or_true _)
    · exact (congrArg Outside.sourceHost outside).trans (Bool.or_false _)

end Sys2Proof.Machine
end

section
/-! ALL STOP and ESTOP (O26): no context in delivery, and one whose release is withdrawn. -/

namespace Sys2Proof.Machine

open Sys2Proof

variable {s t u v w : State} {h : HeadId} {i j : ContextId} {l m : LaneId} {ch e : Channel} {c : Command} {ds : List Command} {x : StopSource} {code : Nat}
  {q : ChannelRecord} {rs : Triple ChannelRecord}

/-! ### The release commands -/

theorem mem_releases {hs : List HeadId} (hc : c ∈ s.releases hs) : c.releasing = true ∧ ∃ h, c ∈ (s.head h).commands := by
  obtain ⟨h, -, mem⟩ := List.mem_flatMap.mp hc
  obtain ⟨mem, releasing⟩ := List.mem_filter.mp mem
  exact ⟨releasing, h, mem⟩

theorem releases_length (sound : s.ListsSound) : (s.releases (List.finRange 24)).length ≤ 6912 := by
  have each : ∀ hs : List HeadId, (s.releases hs).length ≤ hs.length * 288 := fun hs => by
    induction hs with
    | nil => exact Nat.zero_le _
    | cons h hs ih =>
      have first : ((s.head h).commands.filter Command.releasing).length ≤ 288 := (List.length_filter_le _ _).trans (sound h).length_le
      rw [State.releases, List.flatMap_cons, List.length_append, List.length_cons, Nat.succ_mul, Nat.add_comm]
      exact Nat.add_le_add ih first
  exact (each (List.finRange 24)).trans (by rw [List.length_finRange])

/-- The context that a command's active record belongs to (R2, R89). -/
theorem State.activeRecord_owner {n : Nat} (found : s.activeRecord c = some (i, n, q)) :
    c.owner = some (i, (s.ctx i).transaction) ∧ (s.ctx i).state ≠ .free ∧ ∃ rs, (s.ctx i).channels = some rs ∧ q = rs.get c.channel := by
  unfold State.activeRecord at found
  split at found
  · rename_i j nr owner
    split at found
    · rename_i held
      obtain ⟨rfl, rfl, rfl⟩ := Prod.mk.inj (Option.some.inj found) |>.imp id Prod.mk.inj
      rw [Bool.and_eq_true, State.holds, Bool.and_eq_true, decide_eq_true_iff] at held
      obtain ⟨⟨used, number⟩, channels⟩ := held
      obtain ⟨rs, hrs⟩ := Option.isSome_iff_exists.mp channels
      refine ⟨by rw [owner, number], of_decide_eq_true used, rs, hrs, ?_⟩
      rw [Context.records, hrs]
      rfl
    · cases found
  · cases found

theorem State.Latched.ctx (f : s.Latched v) (i : ContextId) : v.ctx i = s.ctx i := congrArg (fun y => Tab.get y i) f.contexts

theorem State.Latched.lane (f : s.Latched v) (l : LaneId) : v.lane l = s.lane l := congrArg (fun y => Tab.get (DeliveryUnit.lanes y) l) f.lanes

theorem State.Latched.head (f : s.Latched v) (h : HeadId) : v.head h = (s.head h).withdrawn := by
  show v.dlu.heads.get h = _
  rw [f.link]
  exact (s.dlu.withdrawn_head _ h).trans (if_pos (List.mem_finRange h))

/-- Lists from which the release commands have been withdrawn open nothing. -/
theorem State.Latched.shut (f : s.Latched v) : ∀ h, ∀ c ∈ (v.head h).commands, c.opening = false := fun h c hc => by
  rw [f.head] at hc
  exact Command.opening_of_not_releasing (by simpa using (List.mem_filter.mp hc).2)

/-! ### The end of a calm walk -/

/-- The withdrawal of the release commands, `k` pieces of work beyond the outcomes themselves. -/
def State.Withdraws (s v u : State) (k : Nat) : Prop := ∀ n ws, drain (n + k + (s.releases (List.finRange 24)).length)
  (((s.releases (List.finRange 24)).map fun c => Work.outcome c .withdrawn) ++ ws) v = drain n ws u

/-- The rest of the work where every context is calm. -/
theorem State.Latched.finish_calm {k : Nat} (f : s.Latched v) (sound : s.ListsSound) (withdrawn : s.Withdraws v u k) (hk : k ≤ 8)
    (link : u.dlu = v.dlu) (calm : ∀ j, (u.ctx j).calm) (code : Nat) :
    ∃ w, finish (s.latchWorks code) v = .next (w.rung code) ∧ u.Spares w ∧ u.Silent w ∧ w.dlu = v.dlu ∧
      (∀ j, (u.ctx j).Calmed (w.ctx j)) ∧ ∀ j, (u.ctx j).beforeDelivery → w.Cancelled (u.ctx j) := by
  obtain ⟨w, walk, spares', silent, link', calmed, cancelled, -⟩ := drain_calms (n := 2) (ws := [.event .allStop .nothing code, .arbitrate]) (List.nodup_finRange 16)
    fun j _ => calm j
  have few := releases_length sound
  have heads : w.dlu = v.dlu := link'.trans link
  refine ⟨w, ?_, spares', silent, heads, fun j => calmed j (List.mem_finRange j), fun j => cancelled j (List.mem_finRange j)⟩
  have clean : (w.queueEvent .allStop .nothing code).LatchClean := fun _ h c hc => f.shut h c (by
    have same : (w.queueEvent .allStop .nothing code).head h = v.head h := congrArg (fun d : DispenserUnit => d.heads.get h) heads
    rw [← same]
    exact hc)
  have bound : 18 + k + (s.releases (List.finRange 24)).length - 1 < workBound := by
    have : workBound = 65536 := rfl
    omega
  refine finish_then_arbitrate (n := 18 + k + (s.releases (List.finRange 24)).length - 1) ?_ clean bound
  rw [show 18 + k + (s.releases (List.finRange 24)).length - 1 + 1 = 18 + k + (s.releases (List.finRange 24)).length by omega, State.latchWorks, List.append_assoc]
  refine (withdrawn 18 _).trans (walk.trans (drain_quiet (handle_event w _ _ _)))

/-- Release commands for channels that are not in OPENING are withdrawn to no effect. -/
theorem State.Latched.withdraws (f : s.Latched v) (shut : ∀ h, ∀ c ∈ (s.head h).commands, c.opening = true → ∀ i n q,
    s.activeRecord c = some (i, n, q) → q.state ≠ .opening) : s.Withdraws v v 0 := fun n ws => by
  have record : ∀ c, v.activeRecord c = s.activeRecord c := fun c => by
    show ({ s with rd := { s.rd with contexts := v.rd.contexts } } : State).activeRecord c = _
    rw [f.contexts]
  refine drain_withdrawn_still (n := n) (fun c hc => (mem_releases hc).1) fun c hc opens i n q found => ?_
  obtain ⟨-, h, mem⟩ := mem_releases hc
  exact shut h c mem opens i n q (record c ▸ found)

/-- The latch set where no transaction is in delivery (R155). -/
theorem raises_calm (running : s.power.phase = .running) (latch : s.rd.latch = false) (sound : s.ListsSound) (calm : ∀ j, (s.ctx j).calm)
    (shut : ∀ h, ∀ c ∈ (s.head h).commands, c.opening = true → ∀ i, (s.ctx i).state ≠ .free → c.owner ≠ some (i, (s.ctx i).transaction)) :
    s.Raises fun t code => (∀ j, (s.ctx j).Calmed (t.ctx j)) ∧ (∀ h, (t.head h).commands = (s.head h).commands.filter fun c => !c.releasing) ∧
      ((∀ l, s.lau.adoption.get l = false) → t.reu.events = (s.reu.occur .allStop .nothing code s.stamp).events) := by
  refine State.raises running latch fun v code f => ?_
  have withdrawn := f.withdraws fun h c hc opens i n q found => by
    obtain ⟨owner, used, -⟩ := State.activeRecord_owner found
    exact absurd owner (shut h c hc opens i used)
  obtain ⟨w, runs, spares, silent, link, calmed, -⟩ := f.finish_calm sound withdrawn (by decide) rfl (fun j => by rw [f.ctx]; exact calm j) code
  obtain ⟨raised, outside, contexts, heads, -, events⟩ := f.raised (code := code) spares
  refine ⟨_, runs, raised, outside, fun j => ?_, fun h => ?_, fun none => events none silent⟩
  · rw [contexts, ← f.ctx]
    exact calmed j
  · have same : w.head h = v.head h := congrArg (fun d : DispenserUnit => d.heads.get h) link
    rw [heads, same, f.head]
    rfl

end Sys2Proof.Machine
end

section
/-! ALL STOP and ESTOP (O26): an ARMED context whose release is withdrawn. -/

namespace Sys2Proof.Machine

open Sys2Proof

variable {s t u v w : State} {h : HeadId} {i j : ContextId} {l m : LaneId} {ch e : Channel} {c : Command} {ds : List Command} {code : Nat}
  {q : ChannelRecord} {rs : Triple ChannelRecord} {x : Context}

/-- A context of the state with one channel in OPENING, and no other that may be. -/
structure State.OneOpening (s : State) (i : ContextId) (rs : Triple ChannelRecord) (ch : Channel) : Prop where
  used : (s.ctx i).state ≠ .free
  channels : (s.ctx i).channels = some rs
  opening : (rs.get ch).state = .opening
  others : ∀ e, e ≠ ch → (rs.get e).state = .idle

/-- A context as the withdrawal of its one release leaves it, before its change is taken (R92, R117). -/
def Context.unreleased (x : Context) (rs : Triple ChannelRecord) (ch : Channel) : Context := { x with channels := some (rs.set ch (rs.get ch).toIdle) }

/-- No channel of a context is in OPENING, and the other contexts are as they were. -/
def State.NoneOpening (v s : State) (i : ContextId) : Prop :=
  (∀ rs, (s.ctx i).channels = some rs → ∀ e, (rs.get e).state ≠ .opening) ∧ ∀ j, j ≠ i → s.ctx j = v.ctx j

theorem State.NoneOpening.contextChanged (h : v.NoneOpening s i) : v.NoneOpening (s.contextChanged i) i := by
  refine State.contextChanged_keeps (P := fun t => v.NoneOpening t i) i (fun t x same ht => ⟨fun rs hrs => ?_, fun j hj => ?_⟩)
    (fun t p ht => ⟨fun rs hrs => ?_, fun j hj => ?_⟩) h
  · rw [State.setCtx_ctx_self, same] at hrs
    exact ht.1 rs hrs
  · exact (Tab.get_set_ne _ (Ne.symm hj) _).trans (ht.2 j hj)
  · rw [State.closeContext_ctx, if_pos rfl] at hrs
    cases hrs
  · rw [State.closeContext_ctx, if_neg (Ne.symm hj)]
    exact ht.2 j hj

/-- The release commands of all heads withdrawn, those of one OPENING channel among them, and of no other active context (R92, R117). -/
theorem drain_withdrawn_one {n : Nat} {ws : List Work} (f : v.OneOpening i rs ch) (hk : ∀ c ∈ ds, c.releasing = true)
    (found : ∃ c ∈ ds, c.opening = true ∧ c.channel = ch ∧ c.owner = some (i, (v.ctx i).transaction))
    (apart : ∀ c ∈ ds, c.opening = true → ∀ j, j ≠ i → (v.ctx j).state ≠ .free → c.owner ≠ some (j, (v.ctx j).transaction))
    (hu : u = (v.setCtx i ((v.ctx i).unreleased rs ch)).contextChanged i) :
    drain (n + 1 + ds.length) (ds.map (fun c => Work.outcome c .withdrawn) ++ ws) v = drain n ws u := by
  induction ds with
  | nil =>
    obtain ⟨c, hc, -⟩ := found
    cases hc
  | cons c ds ih =>
    have first := List.mem_cons_self (a := c) (l := ds)
    have later := fun e (he : e ∈ ds) => List.mem_cons_of_mem c he
    rw [List.map_cons, List.cons_append, List.length_cons]
    by_cases mine : c.opening = true ∧ c.channel = ch ∧ c.owner = some (i, (v.ctx i).transaction)
    · obtain ⟨opens, rfl, owner⟩ := mine
      have context : (v.setCtx i ((v.ctx i).unreleased rs c.channel)).ctx i = (v.ctx i).unreleased rs c.channel := State.setCtx_ctx_self ..
      have idle := handle_withdrawnOpen opens owner f.used f.channels f.opening
      have none : v.NoneOpening u i := by
        rw [hu]
        refine State.NoneOpening.contextChanged ⟨fun rs' hrs' e => ?_, fun j hj => Tab.get_set_ne _ (Ne.symm hj) _⟩
        rw [context] at hrs'
        cases hrs'
        by_cases here : e = c.channel
        · rw [here, Triple.get_set_self]
          exact nofun
        · rw [Triple.get_set_ne _ (Ne.symm here), f.others e here]
          exact nofun
      have changed : handle (.changed i (v.ctx i).transaction) (v.setCtx i ((v.ctx i).unreleased rs c.channel)) = (u, []) := by
        have change := State.handle_change (s := v.setCtx i ((v.ctx i).unreleased rs c.channel)) (i := i) (by rw [context]; exact f.used)
        rw [context] at change
        rw [hu]
        exact change
      rw [show n + 1 + (ds.length + 1) = n + ds.length + 1 + 1 by omega]
      refine (drain_step idle).trans ((drain_quiet changed).trans (drain_withdrawn_still (fun e he => hk e (later e he)) fun e he opens' j nr q hq => ?_))
      obtain ⟨owner', used, qs, hqs, rfl⟩ := State.activeRecord_owner hq
      by_cases same : j = i
      · subst same
        exact none.1 qs hqs _
      · rw [none.2 j same] at owner' used
        exact absurd owner' (apart e (later e he) opens' j same used)
    · have still := handle_withdrawn_still (s := v) (hk c first) fun opens j nr q hq => by
        obtain ⟨owner', used, qs, hqs, rfl⟩ := State.activeRecord_owner hq
        by_cases same : j = i
        · subst same
          have other : c.channel ≠ ch := fun here => mine ⟨opens, here, owner'⟩
          rw [f.channels] at hqs
          cases hqs
          rw [f.others _ other]
          exact nofun
        · exact absurd owner' (apart c first opens j same used)
      rw [← Nat.add_assoc]
      refine (drain_quiet still).trans (ih (fun e he => hk e (later e he)) ?_ fun e he => apart e (later e he))
      obtain ⟨o, ho, hopen⟩ := found
      rcases List.mem_cons.mp ho with rfl | rest
      · exact absurd hopen mine
      · exact ⟨o, rest, hopen⟩

theorem Command.releasing_of_opening (opens : c.opening = true) : c.releasing = true := by
  refine (Bool.eq_false_or_eq_true c.releasing).resolve_right fun keeps => ?_
  rw [Command.opening_of_not_releasing keeps] at opens
  cases opens

/-! ### The context whose release was withdrawn -/

/-- An ARMED context with no channel past IDLE any longer: it closes with a NO SALE record where no permitted channel is left, and stays ARMED otherwise (R17). -/
theorem State.changed_unreleased (f : v.OneOpening i rs ch) (armed : (v.ctx i).state = .armed)
    (hu : u = (v.setCtx i ((v.ctx i).unreleased rs ch)).contextChanged i) :
    v.Spares u ∧ v.Silent u ∧ u.dlu = v.dlu ∧ (∀ j, j ≠ i → u.ctx j = v.ctx j) ∧
      ((∀ e, (v.ctx i).mayRelease (rs.get e) = false) ∧ u.ctx i = .cleared ∧ (∃ r ∈ u.rd.records, r.transaction = (v.ctx i).transaction ∧
          r.kind = .noSale ∧ r.reason = (v.ctx i).reason) ∨
        (∃ e, (v.ctx i).mayRelease (rs.get e) = true) ∧ (u.ctx i).beforeDelivery ∧ (u.ctx i).transaction = (v.ctx i).transaction ∧
          (u.ctx i).reason = (v.ctx i).reason) := by
  let y : Context := (v.ctx i).unreleased rs ch
  have context : (v.setCtx i y).ctx i = y := State.setCtx_ctx_self ..
  have others : ∀ j, j ≠ i → (v.setCtx i y).ctx j = v.ctx j := fun j hj => Tab.get_set_ne _ (Ne.symm hj) _
  have spares : v.Spares (v.setCtx i y) := State.spares_modCtx v i fun _ => y
  have channels : y.channels = some (rs.set ch (rs.get ch).toIdle) := rfl
  have rests : y.anyPastIdle = false := by
    unfold Context.anyPastIdle Context.anyChannel
    rw [channels, Option.any_some]
    refine Bool.eq_false_iff.mpr fun past => ?_
    obtain ⟨e, he⟩ := (Triple.any_iff _ _).mp past
    by_cases here : e = ch
    · rw [here, Triple.get_set_self] at he
      cases he
    · rw [Triple.get_set_ne _ (Ne.symm here), f.others e here] at he
      cases he
  have releases : ∀ e, y.mayRelease ((rs.set ch (rs.get ch).toIdle).get e) = (v.ctx i).mayRelease (rs.get e) := fun e => by
    by_cases here : e = ch
    · rw [here, Triple.get_set_self]
      unfold Context.mayRelease
      rw [f.opening]
      rfl
    · rw [Triple.get_set_ne _ (Ne.symm here)]
      rfl
  rw [State.contextChanged_armed (by rw [context]; exact armed), State.changedArmed, context, rests, if_neg Bool.false_ne_true] at hu
  by_cases exhausted : y.exhausted = true
  · rw [if_pos exhausted] at hu
    have silent : v.Silent (v.setCtx i y) := fun _ => ⟨rfl, rfl⟩
    have closing := State.closeContext_spares (v.setCtx i y) i (.kind .noSale)
    have quiet := State.closeContext_silent (v.setCtx i y) i (k := .noSale) nofun
    have link := State.closeContext_dlu (v.setCtx i y) i (.kind .noSale) false
    rw [hu]
    refine ⟨spares.trans closing, silent.trans quiet, link, fun j hj => ?_, .inl ⟨fun e => ?_, ?_,
      (v.setCtx i y).closingRecord i (.kind .noSale), ?_, ?_⟩⟩
    · rw [State.closeContext_ctx, if_neg (Ne.symm hj), others j hj]
    · rw [← releases e]
      refine Bool.eq_false_iff.mpr fun may => ?_
      have some' : y.anyChannel y.mayRelease = true := by
        unfold Context.anyChannel
        rw [channels, Option.any_some, Triple.any_iff]
        exact ⟨e, may⟩
      rw [Context.exhausted, some'] at exhausted
      cases exhausted
    · rw [State.closeContext_ctx, if_pos rfl]
    · rw [State.closeContext_records]
      exact List.mem_append_right _ (List.mem_singleton.mpr rfl)
    · rw [State.closingRecord_eq, context]
      exact ⟨rfl, rfl, rfl⟩
  · rw [if_neg exhausted] at hu
    have some' : ∃ e, (v.ctx i).mayRelease (rs.get e) = true := by
      rw [Context.exhausted, Bool.not_eq_true', Bool.not_eq_false] at exhausted
      unfold Context.anyChannel at exhausted
      rw [channels, Option.any_some, Triple.any_iff] at exhausted
      exact exhausted.imp fun e he => (releases e).symm.trans he
    have after : ∃ d, u = v.setCtx i { y with deadline := d } := by
      rw [hu]
      split
      · refine ⟨some (.start v.armTime), ?_⟩
        have twice := State.setCtx_setCtx v i y { y with deadline := some (.start v.armTime) }
        rw [← twice, State.modCtx, context]
        rfl
      · exact ⟨y.deadline, rfl⟩
    obtain ⟨d, rfl⟩ := after
    refine ⟨State.spares_modCtx v i fun _ => { y with deadline := d }, fun _ => ⟨rfl, rfl⟩, rfl, fun j hj => Tab.get_set_ne _ (Ne.symm hj) _, .inr ⟨some', ?_⟩⟩
    rw [State.setCtx_ctx_self]
    exact ⟨.inr (.inr (.inr ⟨armed, rests⟩)), rfl, rfl⟩

/-- The latch set where one ARMED context waits for a release that is still queued (R92, R94, R117, R155). -/
theorem raises_opening (running : s.power.phase = .running) (latch : s.rd.latch = false) (sound : s.ListsSound) (armed : (s.ctx i).state = .armed)
    (hc : (s.ctx i).channels = some rs) (opening : (rs.get ch).state = .opening) (idle : ∀ e, e ≠ ch → (rs.get e).state = .idle)
    (calm : ∀ j, j ≠ i → (s.ctx j).calm)
    (found : ∃ h, ∃ c ∈ (s.head h).commands, c.opening = true ∧ c.channel = ch ∧ c.owner = some (i, (s.ctx i).transaction))
    (apart : ∀ h, ∀ c ∈ (s.head h).commands, c.opening = true → ∀ j, j ≠ i → (s.ctx j).state ≠ .free → c.owner ≠ some (j, (s.ctx j).transaction)) :
    s.Raises fun t code => t.ctx i = .cleared ∧ (∀ j, j ≠ i → (s.ctx j).Calmed (t.ctx j)) ∧
      (∀ h, (t.head h).commands = (s.head h).commands.filter fun c => !c.releasing) ∧
      ((∀ l, s.lau.adoption.get l = false) → t.reu.events = (s.reu.occur .allStop .nothing code s.stamp).events) ∧
      ∃ r ∈ t.rd.records, r.transaction = (s.ctx i).transaction ∧
        ((∃ e, (s.ctx i).mayRelease (rs.get e) = true) → r.kind = .cancel ∧ r.reason = some ((s.ctx i).reason.getD .allStop) ∧ r.flags.allStop = true) ∧
        ((∀ e, (s.ctx i).permits (rs.get e) = false) → r.kind = .noSale ∧ r.reason = (s.ctx i).reason) := by
  refine State.raises running latch fun v code f => ?_
  have one : v.OneOpening i rs ch := ⟨by rw [f.ctx, armed]; exact nofun, by rw [f.ctx]; exact hc, opening, idle⟩
  obtain ⟨u, hu⟩ : ∃ u, u = (v.setCtx i ((v.ctx i).unreleased rs ch)).contextChanged i := ⟨_, rfl⟩
  have withdrawn : s.Withdraws v u 1 := fun n ws => by
    obtain ⟨h, c, mem, opens, channel, owner⟩ := found
    refine drain_withdrawn_one (n := n) one (fun c hc => (mem_releases hc).1) ⟨c, ?_, opens, channel, by rw [f.ctx]; exact owner⟩ (fun c hc opens j hj used => ?_) hu
    · exact List.mem_flatMap.mpr ⟨h, List.mem_finRange h, List.mem_filter.mpr ⟨mem, Command.releasing_of_opening opens⟩⟩
    · obtain ⟨-, h, mem⟩ := mem_releases hc
      rw [f.ctx] at used ⊢
      exact apart h c mem opens j hj used
  obtain ⟨spares, silent, link, others, result⟩ := State.changed_unreleased one (by rw [f.ctx]; exact armed) hu
  rw [f.ctx] at result
  have calm' : ∀ j, (u.ctx j).calm := fun j => by
    by_cases same : j = i
    · rw [same]
      rcases result with ⟨-, cleared, -⟩ | ⟨-, before, -⟩
      · exact .inl (by rw [cleared]; rfl)
      · exact .inr (.inl before)
    · rw [others j same, f.ctx]
      exact calm j same
  obtain ⟨w, runs, spares', silent', link', calmed, cancelled⟩ := f.finish_calm sound withdrawn (by decide) link calm' code
  obtain ⟨raised, outside, contexts, heads, records, events⟩ := f.raised (code := code) (spares.trans spares')
  refine ⟨_, runs, raised, outside, ?_, fun j hj => ?_, fun h => ?_, fun none => events none (silent.trans silent'), ?_⟩
  · rw [contexts]
    rcases result with ⟨-, cleared, -⟩ | ⟨-, before, -⟩
    · rw [(calmed i).2.2 (by rw [cleared]; rfl), cleared]
    · exact (calmed i).1 before
  · have walked := calmed j
    rw [others j hj, f.ctx] at walked
    rw [contexts]
    exact walked
  · have same : w.head h = v.head h := congrArg (fun d : DispenserUnit => d.heads.get h) link'
    rw [heads, same, f.head]
    rfl
  · rw [records]
    rcases result with ⟨none, -, r, hr, number, kind, reason⟩ | ⟨⟨e, may⟩, before, number, reason⟩
    · refine ⟨r, spares'.records r hr, number, fun ⟨e, may⟩ => ?_, fun _ => ⟨kind, reason⟩⟩
      rw [none e] at may
      cases may
    · obtain ⟨r, hr, number', kind, reason', flags⟩ := cancelled i before
      rw [number] at number'
      rw [reason] at reason'
      refine ⟨r, hr, number', fun _ => ⟨kind, reason', flags⟩, fun barred => ?_⟩
      rw [Context.mayRelease, barred e] at may
      cases may

end Sys2Proof.Machine
end

section
/-! ALL STOP and ESTOP (O26): a context in delivery. -/

namespace Sys2Proof.Machine

open Sys2Proof

variable {s t u v w : State} {h : HeadId} {i j : ContextId} {l m : LaneId} {ch e : Channel} {c : Command} {ds : List Command} {code : Nat}
  {rs : Triple ChannelRecord}

/-! ### The stop of one context in delivery -/

/-- A context as the latch leaves it before its channels are stopped (R155). -/
def Context.allStopped (c : Context) : Context := c.flagAllStop.withReason .allStop

/-- A part in which the latch has stopped one context in delivery, with the CLOSEs that its channels were sent (R123, R155). -/
def State.allStopped (u : State) (i : ContextId) (l : LaneId) (rs : Triple ChannelRecord) : State :=
  (u.view i l ((u.ctx i).allStopped.stoppedBy rs .stopped) (u.lane l) (u.dlu.withCloses (stopCloses i (u.ctx i).transaction l .stopped rs))
    (u.heed u.reu)).testStopped i ((u.ctx i).allStopped.stoppedBy rs .stopped)

theorem handle_allStop_delivery (state : (u.ctx i).state = .delivering ∨ (u.ctx i).state = .ending ∨ (u.ctx i).state = .armed ∧ (u.ctx i).anyPastIdle = true)
    (l : LaneId) : handle (.allStop i) u =
      (u.view i l (u.ctx i).allStopped (u.lane l) u.dlu u.reu, [.stop i (u.ctx i).transaction .stopped]) := by
  obtain ⟨stoppable, cancellable, -, -, inUse⟩ := Context.stoppable_of state
  have flagged : (u.modCtx i Context.flagAllStop).ctx i = (u.ctx i).flagAllStop := by rw [State.modCtx_ctx, if_pos rfl]
  have cancels : (u.ctx i).flagAllStop.cancellable = false := cancellable
  have stops : (u.ctx i).flagAllStop.stoppable = true := stoppable
  have seen : (u.modCtx i Context.flagAllStop).modCtx i (fun c => c.withReason .allStop) = u.view i l (u.ctx i).allStopped (u.lane l) u.dlu u.reu := by
    have self := congrArg (fun t : State => (t.modCtx i Context.flagAllStop).modCtx i fun c => c.withReason .allStop) (u.view_self i l)
    refine self.symm.trans ?_
    rw [State.view_modCtx, State.view_modCtx]
    rfl
  show u.allStopContext i = _
  unfold State.allStopContext
  rw [if_pos inUse]
  dsimp only
  rw [flagged, cancels, stops, if_neg Bool.false_ne_true, if_pos rfl, seen]
  rfl

/-- The work of the latch for one context in delivery (R155). -/
theorem drain_allStop_delivery {n : Nat} {ws : List Work}
    (state : (u.ctx i).state = .delivering ∨ (u.ctx i).state = .ending ∨ (u.ctx i).state = .armed ∧ (u.ctx i).anyPastIdle = true)
    (hc : (u.ctx i).channels = some rs) (hl : (u.ctx i).lane = some l)
    (closable : u.Closable l (u.lane l) u.dlu (stopCloses i (u.ctx i).transaction l .stopped rs)) :
    drain (n + 1 + (stopCloses i (u.ctx i).transaction l .stopped rs).length + 1 + 1) (.allStop i :: ws) u = drain n ws (u.allStopped i l rs) := by
  obtain ⟨-, -, -, notOffered, inUse⟩ := Context.stoppable_of state
  have own := State.Sees.refl u i l
  have sees : u.Sees i l (u.ctx i).allStopped (u.lane l) := ⟨own.inUse, own.lane, own.transaction, own.setups, own.offered, own.config⟩
  exact (drain_step (handle_allStop_delivery state l)).trans
    (drain_stop (n := n) (ws := ws) (c := (u.ctx i).allStopped) sees inUse notOffered hc hl .stopped closable)

/-- What the stop of one context in delivery comes to. -/
structure State.StoppedAll (u w : State) (i : ContextId) (l : LaneId) (rs : Triple ChannelRecord) : Prop where
  spares : u.Spares w
  link : w.dlu = u.dlu.withCloses (stopCloses i (u.ctx i).transaction l .stopped rs)
  stays : (rs.map (·.stoppedBy .stopped)).any (fun r => r.state.inProgress) = true →
    w.ctx i = (u.ctx i).allStopped.stoppedBy rs .stopped ∧ u.Silent w
  closes : (rs.map (·.stoppedBy .stopped)).any (fun r => r.state.inProgress) = false → w.ctx i = .cleared ∧
    ∃ r ∈ w.rd.records, r.transaction = (u.ctx i).transaction ∧ r.reason = (u.ctx i).allStopped.reason ∧ r.flags.allStop = true ∧
      r.kind = if 0 < ((u.ctx i).allStopped.stoppedBy rs .stopped).totalVolume then .sale else .noSale

theorem State.allStopped_spec (u : State) (hl : (u.ctx i).lane = some l) (rs : Triple ChannelRecord) : u.StoppedAll (u.allStopped i l rs) i l rs ∧
    ∀ j, j ≠ i → (u.allStopped i l rs).ctx j = u.ctx j := by
  obtain ⟨d, hd⟩ : ∃ d, d = u.dlu.withCloses (stopCloses i (u.ctx i).transaction l .stopped rs) := ⟨_, rfl⟩
  obtain ⟨c, hc⟩ : ∃ c, c = (u.ctx i).allStopped.stoppedBy rs .stopped := ⟨_, rfl⟩
  have lane : c.lane = some l := by rw [hc]; exact hl
  have flags : c.flags.allStop = true := by rw [hc]; rfl
  have number : c.transaction = (u.ctx i).transaction := by rw [hc]; rfl
  have reason : c.reason = (u.ctx i).allStopped.reason := by rw [hc]; rfl
  have progress : c.anyInProgress = (rs.map (·.stoppedBy .stopped)).any fun r => r.state.inProgress := by
    rw [hc]
    exact Context.anyInProgress_eq rfl
  have rest : ∃ y, d = { u.dlu with heads := y } := by
    rw [hd]
    exact u.dlu.withCloses_rest _
  obtain ⟨stays, closes, others, -, link, -⟩ := State.testStopped_spec (i := i) (l := l) (c := c) (x := u.lane l) (d := d) (r := u.heed u.reu) lane u
  have same : u.allStopped i l rs = (u.view i l c (u.lane l) d (u.heed u.reu)).testStopped i c := by rw [hd, hc]; rfl
  have lanes : ∀ m, ((u.view i l c (u.lane l) d (u.heed u.reu)).lane m) = u.lane m := fun m => by
    by_cases here : m = l
    · rw [here, State.view_lane]
    · exact State.view_lane_ne u here
  have seen : u.Spares (u.view i l c (u.lane l) d (u.heed u.reu)) := by
    obtain ⟨y, rfl⟩ := rest
    exact ⟨rfl, rfl, rfl, rfl, rfl, rfl, fun _ h => h, fun m hm => by rw [lanes]; exact hm⟩
  rw [progress] at stays closes
  rw [same]
  refine ⟨⟨?_, by rw [link, hd], fun going => ?_, fun ended => ?_⟩, others⟩
  · unfold State.testStopped
    split
    · exact seen
    · exact seen.trans (State.closeContext_spares _ i _)
  · rw [stays going, ← hc]
    exact ⟨State.view_ctx u, fun _ => ⟨rfl, rfl⟩⟩
  · obtain ⟨cleared, r, records, transaction, why, flagged, kind⟩ := closes ended
    refine ⟨cleared, r, by rw [records]; exact List.mem_append_right _ (List.mem_singleton.mpr rfl), transaction.trans number, why.trans reason,
      flagged flags, ?_⟩
    rw [kind, hc]

/-! ### The whole walk -/

theorem State.Latched.setup (f : s.Latched v) : v.setup = s.setup := by
  funext m ch
  have bound : v.bound m = s.bound m := by
    unfold State.bound
    simp only [f.ctx]
  unfold State.setup
  rw [bound, f.lane]
  cases s.bound m with
  | none => rfl
  | some j => rw [Option.bind_some, Option.bind_some, f.ctx]

/-- The heads of the channels that the latch closes take their CLOSEs, however far the walk has come. -/
theorem State.Latched.closable (f : s.Latched v) (spares : v.Spares u) (link : u.dlu = v.dlu) (steady : ∀ m, (s.lane m).state = .locked → v.Steady u m)
    (hb : s.bound l = some i) (hc : (s.ctx i).channels = some rs)
    (served : ∀ ch : Channel, (rs.get ch).state = .opening ∨ (rs.get ch).state = .flowing →
      ∃ z, (rs.get ch).setup = some z ∧ (s.head z.head).online = true ∧ ∀ q ∈ s.servedBy z.head, (s.lane q.1).state ≠ .locked)
    (fresh : ∀ h, ∀ c ∈ (s.head h).commands, c.lane ≠ l) (n : Nat) : u.Closable l (u.lane l) u.dlu (stopCloses i n l .stopped rs) := by
  have unlocked : ∀ m, (s.lane m).state ≠ .locked → (u.lane m).state ≠ .locked := fun m hm => spares.lanes m (by rw [f.lane]; exact hm)
  have heads : ∀ h, u.dlu.heads.get h = (s.head h).withdrawn := fun h => by
    rw [link]
    exact f.head h
  have closes : ∀ k ∈ stopCloses i n l .stopped rs, (s.lane l).state ≠ .locked ∧ (s.head k.head).online = true ∧
      ∀ q ∈ s.servedBy k.head, (s.lane q.1).state ≠ .locked := fun k hk => by
    obtain ⟨stops, ⟨z, hz, head⟩, -, -⟩ := mem_stopCloses hk
    obtain ⟨z', hz', on, free⟩ := served k.channel stops
    obtain rfl : z = z' := Option.some.inj (hz.symm.trans hz')
    have present : s.setup l k.channel = some z := (State.setup_bound hb hc _).trans hz
    rw [← head]
    exact ⟨free _ (State.mem_servedBy present), on, free⟩
  refine ⟨fun k hk => unlocked l (closes k hk).1, fun k hk => ?_, fun k hk q hq => ?_, fun k _ c mem => ?_⟩
  · rw [heads]
    exact (closes k hk).2.1
  · by_cases locked : (s.lane q.1).state = .locked
    · obtain ⟨-, setup⟩ := steady q.1 locked
      have stood : q ∈ s.servedBy k.head := by
        unfold State.servedBy at hq ⊢
        rw [List.mem_filter, setup, f.setup] at hq
        exact List.mem_filter.mpr hq
      exact absurd locked ((closes k hk).2.2 q stood)
    · exact unlocked q.1 locked
  · rw [heads] at mem
    exact fresh k.head c (List.mem_filter.mp mem).1

theorem stopCloses_isClose {n : Nat} {k : Command} (h : k ∈ stopCloses i n m .stopped rs) : k.isClose = true := by
  obtain ⟨-, -, -, payload⟩ := mem_stopCloses h
  rw [Command.isClose, payload]
  rfl

theorem Command.opening_of_isClose (h : c.isClose = true) : c.opening = false := by
  unfold Command.isClose at h
  unfold Command.opening
  cases hp : c.payload <;> rw [hp] at h <;> first | rfl | cases h

theorem mem_joinCloses {cs ks : List Command} (h : c ∈ joinCloses cs ks) : c ∈ cs ∨ c ∈ ks := by
  unfold joinCloses at h
  split at h
  · exact .inl h
  · simp only [List.mem_append, List.mem_filter] at h
    tauto

/-- The walk of the contexts where one is in delivery and every other is calm (R155). -/
theorem State.Latched.finish_delivery (f : s.Latched v) (sound : s.ListsSound) (withdrawn : s.Withdraws v v 0)
    (state : (s.ctx i).state = .delivering ∨ (s.ctx i).state = .ending ∨ (s.ctx i).state = .armed ∧ (s.ctx i).anyPastIdle = true)
    (hb : s.bound l = some i) (hc : (s.ctx i).channels = some rs) (calm : ∀ j, j ≠ i → (s.ctx j).calm)
    (safe : ∀ j, j ≠ i → (s.ctx j).beforeDelivery → ∀ m, (s.ctx j).lane = some m → (s.lane m).state ≠ .locked)
    (served : ∀ ch : Channel, (rs.get ch).state = .opening ∨ (rs.get ch).state = .flowing →
      ∃ z, (rs.get ch).setup = some z ∧ (s.head z.head).online = true ∧ ∀ q ∈ s.servedBy z.head, (s.lane q.1).state ≠ .locked)
    (fresh : ∀ h, ∀ c ∈ (s.head h).commands, c.lane ≠ l) (code : Nat) :
    ∃ w, finish (s.latchWorks code) v = .next (w.rung code) ∧ v.StoppedAll w i l rs ∧ ∀ j, j ≠ i → (s.ctx j).Calmed (w.ctx j) := by
  obtain ⟨js, ks, split⟩ := List.append_of_mem (List.mem_finRange i)
  have distinct := List.nodup_finRange 16
  rw [split, List.nodup_middle, List.nodup_cons, List.nodup_append'] at distinct
  obtain ⟨fresh', distinct, distinct', apart⟩ := distinct
  obtain ⟨before, after⟩ := not_or.mp (mt List.mem_append.mpr fresh')
  have mine : ∀ {j}, j ∈ js ++ ks → j ≠ i := fun hj same => fresh' (same ▸ hj)
  obtain ⟨t, walk, spares, silent, link, calmed, -, others, steady⟩ := drain_calms (s := v) (n := 2 + ks.length + 1 + (stopCloses i (s.ctx i).transaction l .stopped rs).length + 1 + 1)
    (ws := Work.allStop i :: (ks.map Work.allStop ++ [.event .allStop .nothing code, .arbitrate])) distinct fun j hj => by
    rw [f.ctx]
    exact calm j (mine (List.mem_append_left _ hj))
  have context : t.ctx i = s.ctx i := (others i before).trans (f.ctx i)
  have closable := f.closable spares link (fun m locked => steady m fun j hj first hm => by
    rw [f.ctx] at first hm
    exact safe j (mine (List.mem_append_left _ hj)) first m hm locked) hb hc served fresh (s.ctx i).transaction
  have lane : (t.ctx i).lane = some l := by
    rw [context]
    exact (State.bound_lane hb).2
  have stop := drain_allStop_delivery (u := t) (n := 2 + ks.length) (ws := ks.map Work.allStop ++ [.event .allStop .nothing code, .arbitrate])
    (by rw [context]; exact state) (by rw [context]; exact hc) lane (by rw [context]; exact closable)
  obtain ⟨stopped, others'⟩ := t.allStopped_spec lane rs
  obtain ⟨u, hu⟩ : ∃ u, u = t.allStopped i l rs := ⟨_, rfl⟩
  rw [← hu] at stop stopped others'
  have rest : ∀ j ∈ ks, u.ctx j = s.ctx j := fun j hj => by
    rw [others' j (mine (List.mem_append_right _ hj)), others j fun hj' => apart hj' hj, f.ctx]
  obtain ⟨w, walk', spares', silent', link', calmed', -, others'', -⟩ := drain_calms (s := u) (n := 2)
    (ws := [.event .allStop .nothing code, .arbitrate]) distinct' fun j hj => by
      rw [rest j hj]
      exact calm j (mine (List.mem_append_right _ hj))
  have own : t.ctx i = v.ctx i := others i before
  obtain ⟨held, link'', stays, closes⟩ := stopped
  rw [own] at link'' stays closes
  rw [link] at link''
  refine ⟨w, ?_, ⟨spares.trans (held.trans spares'), link'.trans link'', fun going => ?_, fun ended => ?_⟩, fun j hj => ?_⟩
  · have few := releases_length sound
    have size : js.length + ks.length = 15 := by
      have := congrArg List.length split
      rw [List.length_finRange, List.length_append, List.length_cons] at this
      omega
    have closing := stopCloses_length i (s.ctx i).transaction l .stopped rs
    have clean : (w.queueEvent .allStop .nothing code).LatchClean := fun _ h c hc => by
      have lists : (w.queueEvent .allStop .nothing code).head h = (v.dlu.withCloses (stopCloses i (v.ctx i).transaction l .stopped rs)).heads.get h :=
        congrArg (fun d : DispenserUnit => d.heads.get h) (link'.trans link'')
      rw [lists, DispenserUnit.withCloses_head fun k hk => stopCloses_isClose hk] at hc
      rcases mem_joinCloses hc with old | new
      · exact f.shut h c old
      · exact Command.opening_of_isClose (stopCloses_isClose (List.mem_filter.mp new).1)
    obtain ⟨n, hn⟩ : ∃ n, n + 1 = 2 + ks.length + 1 + (stopCloses i (s.ctx i).transaction l .stopped rs).length + 1 + 1 + js.length + 0 +
        (s.releases (List.finRange 24)).length := ⟨_, Nat.sub_add_cancel (by omega)⟩
    have bound : n < workBound := by
      have : workBound = 65536 := rfl
      omega
    refine finish_then_arbitrate (n := n) ?_ clean bound
    have works : s.latchWorks code = ((s.releases (List.finRange 24)).map fun c => Work.outcome c .withdrawn) ++
        (js.map Work.allStop ++ Work.allStop i :: (ks.map Work.allStop ++ [.event .allStop .nothing code, .arbitrate])) := by
      rw [State.latchWorks, split, List.map_append, List.map_cons]
      simp only [List.append_assoc, List.cons_append]
    rw [context] at stop
    rw [hn, works]
    exact (withdrawn _ _).trans (walk.trans (stop.trans (walk'.trans (drain_quiet (handle_event w _ _ _)))))
  · obtain ⟨context', silent''⟩ := stays going
    exact ⟨(others'' i after).trans context', silent.trans (silent''.trans silent')⟩
  · obtain ⟨cleared, r, mem, fields⟩ := closes ended
    exact ⟨(others'' i after).trans cleared, r, spares'.records r mem, fields⟩
  · have all : j ∈ js ++ i :: ks := split ▸ List.mem_finRange j
    rcases List.mem_append.mp all with early | late
    · have passed : j ∉ ks := fun hj => apart early hj
      rw [others'' j passed, others' j hj, ← f.ctx]
      exact calmed j early
    · have late := (List.mem_cons.mp late).resolve_left hj
      rw [← rest j late]
      exact calmed' j late

/-- The latch set where one transaction is in delivery (R123, R155). -/
theorem raises_delivery (running : s.power.phase = .running) (latch : s.rd.latch = false) (sound : s.ListsSound)
    (state : (s.ctx i).state = .delivering ∨ (s.ctx i).state = .ending ∨ (s.ctx i).state = .armed ∧ (s.ctx i).anyPastIdle = true)
    (hb : s.bound l = some i) (hc : (s.ctx i).channels = some rs) (calm : ∀ j, j ≠ i → (s.ctx j).calm)
    (safe : ∀ j, j ≠ i → (s.ctx j).beforeDelivery → ∀ m, (s.ctx j).lane = some m → (s.lane m).state ≠ .locked)
    (served : ∀ ch : Channel, (rs.get ch).state = .opening ∨ (rs.get ch).state = .flowing →
      ∃ z, (rs.get ch).setup = some z ∧ (s.head z.head).online = true ∧ ∀ q ∈ s.servedBy z.head, (s.lane q.1).state ≠ .locked)
    (fresh : ∀ h, ∀ c ∈ (s.head h).commands, c.lane ≠ l)
    (shut : ∀ h, ∀ c ∈ (s.head h).commands, c.opening = true → ∀ i, (s.ctx i).state ≠ .free → c.owner ≠ some (i, (s.ctx i).transaction)) :
    s.Raises fun t code => (∀ j, j ≠ i → (s.ctx j).Calmed (t.ctx j)) ∧
      (∀ h, (t.head h).commands = joinCloses ((s.head h).commands.filter fun c => !c.releasing)
        ((stopCloses i (s.ctx i).transaction l .stopped rs).filter fun k => decide (k.head = h))) ∧
      ((rs.map (·.stoppedBy .stopped)).any (fun r => r.state.inProgress) = true → t.ctx i = (s.ctx i).allStopped.stoppedBy rs .stopped ∧
        ((∀ l, s.lau.adoption.get l = false) → t.reu.events = (s.reu.occur .allStop .nothing code s.stamp).events)) ∧
      ((rs.map (·.stoppedBy .stopped)).any (fun r => r.state.inProgress) = false → t.ctx i = .cleared ∧
        ∃ r ∈ t.rd.records, r.transaction = (s.ctx i).transaction ∧ r.reason = (s.ctx i).allStopped.reason ∧ r.flags.allStop = true ∧
          r.kind = if 0 < ((s.ctx i).allStopped.stoppedBy rs .stopped).totalVolume then .sale else .noSale) := by
  refine State.raises running latch fun v code f => ?_
  have withdrawn := f.withdraws fun h c hc opens i n q found => by
    obtain ⟨owner, used, -⟩ := State.activeRecord_owner found
    exact absurd owner (shut h c hc opens i used)
  obtain ⟨w, runs, ⟨spares, link, stays, closes⟩, calmed⟩ := f.finish_delivery sound withdrawn state hb hc calm safe served fresh code
  obtain ⟨raised, outside, contexts, heads, records, events⟩ := f.raised (code := code) spares
  rw [f.ctx] at link stays closes
  refine ⟨_, runs, raised, outside, fun j hj => by rw [contexts]; exact calmed j hj, fun h => ?_, fun going => ?_, fun ended => ?_⟩
  · have joined := congrArg Head.commands (v.dlu.withCloses_head (ks := stopCloses i (s.ctx i).transaction l .stopped rs) (fun k hk => stopCloses_isClose hk) h)
    have list : (w.head h).commands = joinCloses (v.head h).commands _ := (congrArg (fun d : DispenserUnit => (d.heads.get h).commands) link).trans joined
    rw [heads, list, f.head]
    rfl
  · obtain ⟨context, silent⟩ := stays going
    exact ⟨(contexts i).trans context, fun none => events none silent⟩
  · obtain ⟨cleared, r, mem, fields⟩ := closes ended
    exact ⟨(contexts i).trans cleared, r, by rw [records]; exact mem, fields⟩

end Sys2Proof.Machine
end

section
/-! ALL STOP and ESTOP (O26): the statement. -/

namespace Sys2Proof.Machine

open Sys2Proof

variable {s : State} {c d : Context}

theorem State.Raises.mono {p q : State → Nat → Prop} (h : s.Raises p) (weaker : ∀ t code, p t code → q t code) : s.Raises q := by
  obtain ⟨host, estop⟩ := h
  refine ⟨fun tag takes loaded => ?_, fun released => ?_⟩
  · obtain ⟨t, runs, raised, done, rest⟩ := host tag takes loaded
    exact ⟨t, runs, raised, weaker t 1 done, rest⟩
  · obtain ⟨t, runs, raised, done, rest⟩ := estop released
    exact ⟨t, runs, raised, weaker t 2 done, rest⟩

theorem Context.Calmed.said (h : c.Calmed d) : (c.beforeDelivery → d.state = .free) ∧
    (c.state = .stopping ∨ c.state = .recovering → d = { c with flags := { c.flags with allStop := true } }) := by
  obtain ⟨before, going, -⟩ := h
  exact ⟨fun b => by rw [before b]; rfl, going⟩

/-! ### The latch set already -/

theorem Retained.addSource_host {d : Retained} (latch : d.latch = true) : d.addSource .host = { d with sourceHost := true } := by
  unfold Retained.addSource
  simp [latch]

theorem Retained.addSource_estop {d : Retained} (latch : d.latch = true) : d.addSource .estop = { d with sourceEstop := true } := by
  unfold Retained.addSource
  simp [latch]

/-- ALL STOP with the latch set (R151, R152). -/
theorem exec_allStop_joins (latch : s.rd.latch = true) (tag : Byte) (takes : s.takes) (loaded : s.til.load ≠ .loading) :
    exec (.allStop tag 0) s = .next (({ s.heard with rd := { s.rd with sourceHost := true } }.queueEvent .allStop .nothing 1).replied
      0x96 tag ⟨.done, .none, .nothing⟩) := by
  have serves : s.heard.serveRequest .allStop =
      ⟨({ s.heard with rd := { s.rd with sourceHost := true } } : State).queueEvent .allStop .nothing 1, [], .done .nothing⟩ := by
    show s.heard.serveAllStop = _
    rw [State.serveAllStop, State.loading_eq_false (s := s.heard) loaded, if_neg Bool.false_ne_true, State.setLatch_set (s := s.heard) latch,
      show s.heard.rd = s.rd from rfl, Retained.addSource_host latch]
    rfl
  exact State.arrive_served (f := ⟨tag, 0, .allStop⟩) takes rfl serves

/-- A press of ESTOP with the latch set (R151, R152). -/
theorem exec_estopPress_joins (running : s.power.phase = .running) (latch : s.rd.latch = true) (released : s.scc.estopHeld = false) :
    exec .estopPress s = .next ({ s with
      rd := { s.rd with sourceEstop := true }
      scc := { s.scc with estopHeld := true }
      power := { s.power with estopLow := true } }.queueEvent .allStop .nothing 2) := by
  have takes : ((s.setEstopPin true).working && !(s.setEstopPin true).scc.estopHeld) = true := by
    have working : (s.setEstopPin true).working = true := State.working_of_running running
    have open_ : (s.setEstopPin true).scc.estopHeld = false := released
    rw [working, open_]
    rfl
  have sets := State.setLatch_set (s := { s.setEstopPin true with scc := { s.scc with estopHeld := true } }) latch .estop
  rw [show ({ s.setEstopPin true with scc := { s.scc with estopHeld := true } } : State).rd = s.rd from rfl, Retained.addSource_estop latch] at sets
  show execEstopPress s = _
  unfold execEstopPress
  dsimp only
  rw [if_pos takes]
  exact congrArg (fun r : State × List Work => finish r.2 r.1) sets

theorem exec_estopRelease (running : s.power.phase = .running) : exec .estopRelease s =
    .next { s with scc := { s.scc with estopHeld := false }, power := { s.power with estopLow := false } } := by
  have working : (s.setEstopPin false).working = true := State.working_of_running running
  show execEstopRelease s = _
  unfold execEstopRelease State.whenWorking
  rw [if_pos working]
  rfl

/-- Settles O26. -/
theorem allStopSetsTheLatch : Obligations.AllStopSetsTheLatch := by
  unfold Obligations.AllStopSetsTheLatch
  refine ⟨fun s running latch sound => ?_, fun s running latch => ⟨?_, ?_, ?_⟩⟩
  · intro calm kept calmed queued raises
    have same : raises = s.Raises := rfl
    clear_value raises
    subst same
    refine ⟨fun calms shut => ?_, fun i rs ch l armed hc opening idle calms found apart => ?_, fun i l rs state hb hc calms served fresh => ?_⟩
    · exact (raises_calm running latch sound calms shut).mono fun t code ⟨walked, lists, events⟩ => ⟨fun j => (walked j).said, lists, events⟩
    · obtain ⟨h, d, mem, opens, -, channel, owner⟩ := found
      refine (raises_opening running latch sound armed hc opening idle calms ⟨h, d, mem, opens, channel, owner⟩ apart).mono
        fun t code ⟨cleared, walked, lists, events, record⟩ => ⟨cleared, fun j hj => (walked j hj).said, lists, events, record⟩
    · intro stopped closes c
      have stoppedEq : stopped = (·.stoppedBy .stopped) := funext fun q => (ChannelRecord.stoppedBy_eq q).symm
      have closesEq : ∀ h, closes h = (stopCloses i (s.ctx i).transaction l .stopped rs).filter fun d => decide (d.head = h) := fun h =>
        (stopCloses_head i (s.ctx i).transaction l .stopped rs h).symm
      have context : c = (s.ctx i).allStopped.stoppedBy rs .stopped := by
        show ({ s.ctx i with
          state := .stopping, deadline := none, allocation := .clear, reason := some ((s.ctx i).reason.getD .allStop)
          flags := { (s.ctx i).flags with allStop := true }, channels := some (rs.map stopped) } : Context) = _
        rw [stoppedEq]
        rfl
      refine (raises_delivery running latch sound state hb hc (fun j hj => (calms j hj).1) (fun j hj => (calms j hj).2) served
        (fun h d hd => (fresh h d hd).1) fun h d hd => (fresh h d hd).2).mono fun t code ⟨walked, lists, stays, ended⟩ =>
          ⟨fun j hj => (walked j hj).said, fun h => ?_, ?_, ?_⟩
      · rw [lists, closesEq]
        rfl
      · rw [stoppedEq, context]
        exact stays
      · rw [stoppedEq, context]
        exact ended
  · exact fun tag takes loaded => exec_allStop_joins latch tag takes loaded
  · exact fun released => exec_estopPress_joins running latch released
  · exact fun _ => exec_estopRelease running

end Sys2Proof.Machine
end
